-- ==== Sys2Proof/Word.lean ====
section
/-! DEFINITION. The words, the numbers that name things (galleys, slots, stations), and indexed access to vectors. -/

namespace Sys2Proof

abbrev Byte := BitVec 8
abbrev Half := BitVec 16
abbrev Word := BitVec 32

/-- CH0 and CH1 (spec 10, R164). -/
abbrev ChannelId := Fin 2
/-- Galleys are numbered 0-7 (spec 00, Conventions). -/
abbrev GalleyId := Fin 8
/-- Font slots are numbered 0-31 (spec 00, Conventions). -/
abbrev FontSlot := Fin 32
/-- Line slots are numbered 0-47 (R101). -/
abbrev LineSlot := Fin 48
/-- Glyph codes are 0-95 (spec 00, Conventions). -/
abbrev GlyphCode := Fin 96
/-- Disc stations, logical or physical, are 0-3. -/
abbrev Station := Fin 4
abbrev Track := Fin 4
abbrev LensPos := Fin 8

/-- The element of a vector at an index that is in range. -/
def vget {α : Type} {n : Nat} (v : Vector α n) (i : Fin n) : α := v[i.val]

/-- The vector with one element replaced. -/
def vset {α : Type} {n : Nat} (v : Vector α n) (i : Fin n) (x : α) : Vector α n := v.set i.val x

/-- The vector with every element replaced by a function of it. -/
def vmap {α β : Type} {n : Nat} (f : α → β) (v : Vector α n) : Vector β n :=
  Vector.ofFn fun i => f v[i.val]

@[simp] theorem vget_vset_self {α : Type} {n : Nat} (v : Vector α n) (i : Fin n) (x : α) :
    vget (vset v i x) i = x := by simp [vget, vset]

theorem vget_vset_ne {α : Type} {n : Nat} (v : Vector α n) (i j : Fin n) (x : α) (h : i ≠ j) :
    vget (vset v i x) j = vget v j := by
  have : i.val ≠ j.val := fun e => h (Fin.ext e)
  simp [vget, vset, this]

theorem vget_vset {α : Type} {n : Nat} (v : Vector α n) (i j : Fin n) (x : α) :
    vget (vset v i x) j = if i = j then x else vget v j := by
  by_cases h : i = j
  · subst h; simp
  · simp [vget_vset_ne v i j x h, h]

@[simp] theorem vget_vmap {α β : Type} {n : Nat} (f : α → β) (v : Vector α n) (i : Fin n) :
    vget (vmap f v) i = f (vget v i) := by simp [vget, vmap]

@[simp] theorem vset_vget_self {α : Type} {n : Nat} (v : Vector α n) (i : Fin n) :
    vset v i (vget v i) = v := by
  apply Vector.ext
  intro k hk
  simp only [vset, vget, Vector.getElem_set]
  split
  · next h => subst h; rfl
  · rfl

end Sys2Proof
end

