-- ==== Sys2Proof/Syntax.lean ====
section
/-! DEFINITION. The commands of the part: one constructor of `Instr` for each row of spec/opcode_table.json. -/

namespace Sys2Proof

/-- A request block as the channel has read it, less its request code, its payload length and its spare byte
(spec 10, 10.6). -/
structure Block where
  link : Word
  statusAddr : Word
  replyAddr : Word
  replyCap : Half
  flags : Byte
  target : Byte
  payload : List Byte
deriving DecidableEq, Repr

/-- What the host bus gave the channel: the 20 header bytes and the payload bytes, or an error on some read (R166). -/
inductive Fetched where
  | busError
  | block (header : Vector Byte 20) (payload : List Byte)
deriving DecidableEq, Repr

/-- The two encoder lines of the disc (R116). -/
inductive EncoderLine where
  | index
  | slot
deriving DecidableEq, Repr

/-- The three lines that may be debounced (R180). -/
inductive DebouncedLine where
  | cassettePresent
  | lidClosed
  | paperPresent
deriving DecidableEq, Repr

/-- The sensor lines other than the encoder lines (spec 11, 11.5). -/
inductive SensorLine where
  | turretReady
  | turretPos (bit : Fin 2)
  | discCode (bit : Fin 4)
  | lensReady
  | cutterHome
  | debounced (line : DebouncedLine)
  | printerBusy
deriving DecidableEq, Repr

/-- The commands. Requests carry the channel that brings them and their block (log 3). -/
inductive Instr where
  -- resets
  | powerOnReset
  | compositionReset
  -- Font Catalogue
  | loadFont (ch : ChannelId) (b : Block)
  | amendFont (ch : ChannelId) (b : Block)
  | placeFont (ch : ChannelId) (b : Block)
  | retireFont (ch : ChannelId) (b : Block)
  | queryFont (ch : ChannelId) (b : Block)
  -- Galley Intake
  | openGalley (ch : ChannelId) (b : Block)
  | setText (ch : ChannelId) (b : Block)
  | setPriority (ch : ChannelId) (b : Block)
  | cancelGalley (ch : ChannelId) (b : Block)
  | queryGalley (ch : ChannelId) (b : Block)
  -- Composition Engine
  | takeItem
  | settleWord
  | lookupAnswer
  -- Exception Dictionary
  | dictionaryOperationComplete
  | addWords (ch : ChannelId) (b : Block)
  | amendWord (ch : ChannelId) (b : Block)
  | deleteWord (ch : ChannelId) (b : Block)
  | lookUpWord (ch : ChannelId) (b : Block)
  | purgeDesk (ch : ChannelId) (b : Block)
  -- Photo Unit
  | indexPulse (elapsed : Nat)
  | slotPulse
  | indexTimeout
  | flashDelayExpiry
  | flashComplete
  | turretArrival (pos : Station) (code : BitVec 4)
  | turretReadyFall
  | turretTimeout
  | lockWatchExpiry
  | lensArrival
  | lensReadyFall
  | lensTimeout
  | carriageStep
  | verifyStations (ch : ChannelId) (b : Block)
  | queryPhotoUnit (ch : ChannelId) (b : Block)
  -- Exposure and film
  | filmStep
  | cutComplete
  | cutTimeout
  | loadCassette (ch : ChannelId) (b : Block)
  | resumeExposure (ch : ChannelId) (b : Block)
  | advanceFilm (ch : ChannelId) (b : Block)
  | cutFilm (ch : ChannelId) (b : Block)
  | queryExposure (ch : ChannelId) (b : Block)
  -- sensors
  | lidClosedFall
  | cassettePresentFall
  | paperPresentFall
  | paperPresentRise
  | sensorChangeAccepted (line : DebouncedLine) (level : Bool)
  | printerBusyChange (level : Bool)
  -- Proof Generator
  | loadProofCells (ch : ChannelId) (b : Block)
  | queryProof (ch : ChannelId) (b : Block)
  | portTransfer
  -- channels
  | start (ch : ChannelId) (stopBit : Bool)
  | stop (ch : ChannelId)
  | channelReset (ch : ChannelId)
  | chainRegisterWrite (ch : ChannelId) (value : Word)
  | fetchComplete (ch : ChannelId) (f : Fetched)
  | detachedMarkClear (ch : ChannelId)
  | postingComplete (ch : ChannelId) (fault : Option Nat)
  | terminationStatusRead (ch : ChannelId)
  -- attention
  | attnWrite (value : Word)
  | attnEnWrite (value : Word)
  -- configuration
  | cfgIndexWrite (value : Word)
  | configWrite (value : Byte)
  | tNomLowWrite (value : Byte)
  | tNomHighWrite (value : Byte)
  | quiescentConfigWrite (value : Byte)
  | stationMapWrite (value : Byte)
  | sensorInversionWrite (value : Byte)
  | debounceEnableWrite (value : Byte)
  | sensorEventStatusRead
  | cutterHomeFall
  | encoderLevelChange (line : EncoderLine) (level : Bool) (elapsed : Nat)
  | falseLevelAccepted (line : EncoderLine)
  | sensorLevelChange (line : SensorLine) (level : Bool)
  | readOnlyEntryWrite (value : Byte)
deriving DecidableEq, Repr

end Sys2Proof
end

