-- ==== Sys2Proof/Decode.lean ====
section
/-! DEFINITION. The command that a word spells. No row of spec/opcode_table.json gives bits (its 77 rows have no
"fixed" and empty "fields"), so no word spells a command. -/

namespace Sys2Proof

/-- The command whose bits are `w`, by the opcode table's bits: none of its rows gives any. -/
def decodeTableWord (_nbits _w : Nat) : Option Instr := none

end Sys2Proof
end

