-- ==== Sys2Proof/Config.lean ====
section
/-! DEFINITION. What an implementation fixes and the manual does not say: free values.
Each is an opaque constant without a body; nothing can be proved of its value. The argument `n` is the counter
`State.free`, which the step advances, so that each use is a fresh value. -/

namespace Sys2Proof.Config

/-- The detail of a completion for which the manual states none (log 7). DESIGN CHOICE: free. -/
opaque unstatedDetail (n : Nat) : Half

/-- Byte `k` of a reply where the manual states no value, for the `n`-th reply (log 7). DESIGN CHOICE: free. -/
opaque unstatedByte (n k : Nat) : Byte

/-- The patterns of the built-in flag cells, as a rearrangement of all the patterns of 12 rows of 8 dots (R154: "The six
patterns are fixed in the part"). `Machine.flagCell` reads the six from it, and they differ whatever it is (log 8).
DESIGN CHOICE: free. -/
opaque flagPatterns : Equiv.Perm (Vector Byte 12)

/-- How many bytes a posting had written when a channel reset abandoned it (R172) (log 25). DESIGN CHOICE: free. -/
opaque writesBeforeAbandon (n : Nat) : Nat

end Sys2Proof.Config
end

