-- ==== Sys2Proof/Machine/Records.lean ====
section
/-! DEFINITION. The records of the ten blocks: the types that State is made of. Plain data throughout. -/

namespace Sys2Proof.Machine

/-! ### Completions -/

/-- Completion codes (spec 10, 10.6). -/
inductive Completion where
  | done | doneClamped | unknownRequest | badArgument | wrongState | notFound | alreadyExists | full | isProtected
  | busy | reset
deriving DecidableEq, Repr

/-- A request: its code and its block. -/
structure Request where
  code : Byte
  block : Block
deriving DecidableEq, Repr

/-! ### Font Catalogue (spec 01) -/

inductive FontState where
  | empty | live | retiring
deriving DecidableEq, Repr

inductive Verification where
  | unverified | verified | mismatch
deriving DecidableEq, Repr

/-- A kerning pair: left code, right code, adjust in units (spec 01, 1.1). -/
structure KernPair where
  left : Nat
  right : Nat
  adjust : Int
deriving DecidableEq, Repr

structure Placement where
  station : Station
  track : Track
  code : BitVec 4
deriving DecidableEq, Repr

/-- The parts that an amend replaces (R11). -/
structure AmendParts where
  widths : Option (Vector Nat 96)
  kerning : Option (List KernPair)
  name : Option (List Byte)
  proofSet : Option (Fin 4)
deriving DecidableEq, Repr

/-- An amend taken and not yet applied: its parts, whether a width was clamped, and the channel that brought it. -/
structure HeldAmend where
  parts : AmendParts
  clamped : Bool
  channel : ChannelId
deriving DecidableEq, Repr

structure FontRecord where
  state : FontState
  number : Nat
  name : List Byte
  widths : Vector Nat 96
  kerning : List KernPair
  proofSet : Fin 4
  placement : Option Placement
  verification : Verification
  revision : Byte
  lineRefs : Nat
  currentRefs : Nat
  partialRefs : Nat
  amend : Option HeldAmend
deriving DecidableEq, Repr

/-! ### Lines and line builders (spec 03) -/

/-- The flags of a line (R67). -/
structure LineFlags where
  hyphenated : Bool := false
  doubtful : Bool := false
  loose : Bool := false
  overset : Bool := false
  crowded : Bool := false
  missing : Bool := false
  fontSubst : Bool := false
  sizeSubst : Bool := false
deriving DecidableEq, Repr

/-- A glyph in a line builder. `width` is the w of R50: 16 when the glyph is absent. -/
structure BGlyph where
  code : GlyphCode
  slot : FontSlot
  size : Nat
  track : Int
  width : Nat
  absent : Bool
  advance : Nat
deriving DecidableEq, Repr

inductive SpaceKind where
  | interword | em | en | thin
deriving DecidableEq, Repr

/-- A space in a line builder, with its three widths in FU (R52). -/
structure BSpace where
  kind : SpaceKind
  size : Nat
  min : Nat
  opt : Nat
  max : Nat
deriving DecidableEq, Repr

inductive LineItem where
  | glyph (g : BGlyph)
  | space (sp : BSpace)
deriving DecidableEq, Repr

/-- The parameters latched when a line opens (R41). The measure is in FU. -/
structure Latched where
  measure : Nat
  spaceMin : Nat
  spaceOpt : Nat
  spaceMax : Nat
  minLeft : Nat
  minRight : Nat
  hyphenate : Bool
  rules : Bool
  ladder : Nat
deriving DecidableEq, Repr

/-- The line builder of one galley (spec 03, 3.2). A mark `j` stands after glyph `j` of the current word. -/
structure Builder where
  isOpen : Bool
  latched : Latched
  items : List LineItem
  n : Nat
  nMin : Nat
  nMax : Nat
  glyphCount : Nat
  spaceCount : Nat
  gap : List BSpace
  word : List BGlyph
  marks : List Nat
  heldFont : Bool
  heldSize : Bool
  heldOverset : Bool
  afterBreak : Bool
  hyphCount : Nat
deriving DecidableEq, Repr

/-- One glyph item of a line record (R67). -/
structure SetGlyph where
  code : GlyphCode
  slot : FontSlot
  size : Nat
  x : Nat
  absent : Bool
deriving DecidableEq, Repr

/-- What a commit puts into its line, how the line ended, and what is carried into the next (R57 to R62). -/
structure LineEnd where
  items : List LineItem
  byBreak : Bool
  hyphenBreak : Bool
  flags : LineFlags
  carry : List BGlyph
  marks : List Nat
  afterBreak : Bool
deriving DecidableEq, Repr

/-- The final widths of the interword spaces, the offset, and whether the line is LOOSE (R63). -/
structure Spacing where
  widths : List Nat
  offset : Nat
  loose : Bool
deriving DecidableEq, Repr

/-! ### Galleys (spec 02) -/

inductive GalleyState where
  | closed | opened | ending | cancelling
deriving DecidableEq, Repr

inductive OutputMode where
  | film | proof | both
deriving DecidableEq, Repr

inductive QuadMode where
  | left | right | centre | justify
deriving DecidableEq, Repr

/-- A SET TEXT taken and not yet appended (R30). -/
structure WaitingText where
  channel : ChannelId
  text : List Byte
deriving DecidableEq, Repr

structure Galley where
  state : GalleyState
  mode : OutputMode
  priority : Nat
  font : Option FontSlot
  size : Nat
  leading : Nat
  pendingReverse : Nat
  measure : Nat
  quad : QuadMode
  spaceMin : Nat
  spaceOpt : Nat
  spaceMax : Nat
  track : Int
  hyphenate : Bool
  rules : Bool
  ladder : Nat
  minLeft : Nat
  minRight : Nat
  buffer : List Byte
  seq : Half
  sticky : Half
  waiting : List WaitingText
  builder : Builder
deriving DecidableEq, Repr

/-! ### Composition Engine (R45, R46) -/

inductive EngineState where
  | idle
  | serving (g : GalleyId)
  | lookup (g : GalleyId)
deriving DecidableEq, Repr

structure Engine where
  state : EngineState
  lastServed : GalleyId
deriving DecidableEq, Repr

/-! ### Exception Dictionary (spec 04) -/

inductive EntryKind where
  | allow | never
deriving DecidableEq, Repr

structure Entry where
  word : List Nat
  kind : EntryKind
  positions : List Nat
  tag : Nat
deriving DecidableEq, Repr

/-- The two kinds of work (R74). -/
inductive WorkKind where
  | composition | channel
deriving DecidableEq, Repr

/-- A presented composition lookup: the galley it serves and the letter IDs of the core (R76). -/
structure Lookup where
  galley : GalleyId
  core : List Nat
deriving DecidableEq, Repr

/-- The operation that runs. A request keeps the write protect and the code map as they stood at its taking (R71,
R77). A lookup is `wanted` until its galley is cancelled or a composition reset comes (R76). -/
inductive DictJob where
  | lookup (core : List Nat) (wanted : Bool)
  | request (ch : ChannelId) (r : Request) (isProtected : Bool) (codeMap : Vector Byte 96)
  | bucket
deriving DecidableEq, Repr

/-- The purge state (R82). -/
structure Purge where
  channel : ChannelId
  tag : Nat
  next : Nat
  removed : Nat
deriving DecidableEq, Repr

structure Dictionary where
  chains : Vector (List Entry) 512
  lastKind : WorkKind
  lastChannel : ChannelId
  presentedLookup : Option Lookup
  presented : Vector (Option Request) 2
  running : Option DictJob
  purge : Option Purge
deriving DecidableEq, Repr

/-- What a composition lookup answers (R76). -/
inductive LookupAnswer where
  | allow (positions : List Nat)
  | never
  | absent
deriving DecidableEq, Repr

/-- Where a candidate place comes from (R86). -/
inductive Source where
  | hard | discretionary | dictionary | rule
deriving DecidableEq, Repr

/-- A candidate: the word may be divided after its glyph `j`. -/
structure Candidate where
  j : Nat
  source : Source
deriving DecidableEq, Repr

/-! ### Set-Line Store (spec 06) -/

inductive FilmProgress where
  | notBegun | inExposure
deriving DecidableEq, Repr

inductive ProofProgress where
  | notBegun | inBand | sent
deriving DecidableEq, Repr

/-- A line record (R67, R102). `film` and `proof` say which consumers are outstanding. -/
structure LineRecord where
  galley : GalleyId
  seq : Half
  depth : Int
  flags : LineFlags
  glyphs : List SetGlyph
  film : Bool
  proof : Bool
  filmProgress : FilmProgress
  proofProgress : ProofProgress
deriving DecidableEq, Repr

structure Store where
  slots : Vector (Option LineRecord) 48
  order : Vector (List LineSlot) 8
  filmQueue : List GalleyId
  paperQueue : List GalleyId
  filmHolder : Option GalleyId
  paperHolder : Option GalleyId
  filmEndBegun : Bool
  filmEndDone : Bool
  paperEndBegun : Bool
  paperEndDone : Bool
deriving DecidableEq, Repr

/-! ### Photo Unit (spec 07) -/

inductive DiscState where
  | unlocked | proving | locked
deriving DecidableEq, Repr

inductive Requester where
  | exposure | verify
deriving DecidableEq, Repr

inductive Turret where
  | unknown
  | standing (q : Station)
  | moving (target : Option Station) (requester : Option Requester)
deriving DecidableEq, Repr

/-- The station at which the turret stands. -/
def Turret.station : Turret → Option Station
  | .standing q => some q
  | .unknown | .moving _ _ => none

inductive Lens where
  | unknown
  | standing (p : LensPos)
  | moving (p : LensPos)
deriving DecidableEq, Repr

inductive Carriage where
  | homing (stepsLeft : Nat) (target : Option Nat)
  | stepping (target : Nat)
  | settled
deriving DecidableEq, Repr

inductive Lamp where
  | ready
  | recharging (ticks : Nat)
deriving DecidableEq, Repr

/-- The flash request (R121). -/
structure FlashRequest where
  code : GlyphCode
  slot : FontSlot
  lens : LensPos
  x : Nat
deriving DecidableEq, Repr

/-- A VERIFY STATIONS in flight (R132): the visits left, the one under way first. -/
structure VerifyRun where
  channel : ChannelId
  visits : List Station
  mismatch : BitVec 4
  notReached : BitVec 4
deriving DecidableEq, Repr

/-- Timers hold the ticks left, none when stopped. -/
structure Photo where
  disc : DiscState
  period : Nat
  count : Nat
  counting : Bool
  slotCount : Nat
  disturbed : Bool
  indexTimer : Option Nat
  turret : Turret
  latched : Option (BitVec 4)
  turretTimer : Option Nat
  turretExpired : Bool
  lens : Lens
  lensTimer : Option Nat
  lensExpired : Bool
  carriage : Carriage
  position : Nat
  carriageTimer : Option Nat
  shutter : Track
  lamp : Lamp
  flashReported : Bool
  flash : Option FlashRequest
  delay : Option Nat
  lockWatch : Option Nat
  verify : Option VerifyRun
deriving DecidableEq, Repr

/-! ### Exposure Control and Film Transport (spec 08) -/

inductive HoldReason where
  | filmOut | cassetteOut | lidOpen | fontUnplaced | discMismatch | turretJam | lensJam | discFault | cutJam
deriving DecidableEq, Repr

/-- The step reached in a line (R135, R140, R141). -/
inductive LineStep where
  | advance (forward : Bool) (remaining : Nat)
  | decision
  | turret
  | lens
  | carriage
  | shutter
  | armed
deriving DecidableEq, Repr

/-- The line in exposure (R135). `next` is the next glyph index, counted from 1. -/
structure LineWork where
  slot : LineSlot
  galley : GalleyId
  seq : Half
  order : List SetGlyph
  next : Nat
  step : LineStep
deriving DecidableEq, Repr

/-- Where a cut stands: before CUTTER_HOME has fallen after the pulse, or before it rises (R148). -/
inductive CutPhase where
  | awaitFall | awaitRise
deriving DecidableEq, Repr

inductive ExposureWork where
  | none
  | line (l : LineWork)
  | gap (target : Nat)
  | cut (target : Nat) (phase : CutPhase)
  | advanceFilm (ch : ChannelId) (clamped : Bool)
  | cutFilm (ch : ChannelId) (phase : CutPhase)
deriving DecidableEq, Repr

inductive ExposureState where
  | idle | line | filmEnd | freeMove | held
deriving DecidableEq, Repr

structure Exposure where
  work : ExposureWork
  hold : Option HoldReason
  note : Bool
  figuresDeferred : Bool
  cutTimer : Option Nat
  /-- The station at which the turret sub-step of the glyph reached has ended: the model's own field, by which a retried
  lens sub-step tells a lost station from a placement moved meanwhile (log 45). -/
  turretAt : Option Station
deriving DecidableEq, Repr

structure FilmMove where
  forward : Bool
  remaining : Nat
deriving DecidableEq, Repr

structure Film where
  loaded : Bool
  length : Nat
  position : Nat
  galleyStart : Nat
  deepest : Nat
  lowNoted : Bool
  move : Option FilmMove
  timer : Option Nat
deriving DecidableEq, Repr

/-! ### Proof Generator (spec 09) -/

/-- A proof cell (R154): bit `d` of a row is the dot `d` from the left. -/
structure Cell where
  width : Nat
  rows : Vector (BitVec 16) 12
deriving DecidableEq, Repr

/-- A band of 12 rows by 1,248 columns; bit `c` of a row is the dot in column `c`. -/
structure Band where
  slot : LineSlot
  galley : GalleyId
  seq : Half
  rows : Vector (BitVec 1248) 12
deriving DecidableEq, Repr

inductive BandBuffer where
  | empty
  | ready (b : Band)
  | sending (b : Band)
deriving DecidableEq, Repr

inductive PortWork where
  | sending | endFeed
deriving DecidableEq, Repr

inductive PortState where
  | idle
  | sending
  | endFeed
  | held (left : PortWork)
deriving DecidableEq, Repr

structure ProofGen where
  cells : Vector (Vector Cell 96) 4
  buffers : Vector BandBuffer 2
  port : PortState
  row : Nat
  pos : Nat
  feeds : Nat
deriving DecidableEq, Repr

/-! ### Request Channels (spec 10) -/

inductive ChannelState where
  | idle | fetching | waiting | posting | terminated
deriving DecidableEq, Repr

/-- A request completed and being posted (R168). -/
structure Posting where
  request : Request
  completion : Completion
  detail : Half
  reply : List Byte
deriving DecidableEq, Repr

structure Channel where
  chain : Word
  state : ChannelState
  stop : Bool
  term : BitVec 3
  inFlight : Option Request
  blockRead : Option Request
  posting : Option Posting
  detached : Bool
  written : List (Word × Byte)
deriving DecidableEq, Repr

/-! ### Configuration space and sensors (spec 11) -/

structure ConfigSpace where
  entries : Vector Byte 201
  index : Byte
  tNomPending : Option Byte
  lastRefusal : BitVec 7
deriving DecidableEq, Repr

/-- The accepted level of a line that is filtered or debounced, and the ticks left of a change being timed. -/
structure LineFilter where
  accepted : Bool
  timing : Option Nat
deriving DecidableEq, Repr

/-- `inputs` are the levels on the pins, before inversion, in the bit order of entries 13H and 14H. -/
structure Sensors where
  inputs : BitVec 15
  index : LineFilter
  slot : LineFilter
  cassette : LineFilter
  lid : LineFilter
  paper : LineFilter
  events : BitVec 6
deriving DecidableEq, Repr

/-! ### Drive lines (spec 00, Connections) -/

structure Drives where
  turretTarget : Station
  lensTarget : LensPos
  carriageForward : Bool
  filmForward : Bool
  data : Byte
deriving DecidableEq, Repr

/-- The pulses that the part gives on its drive lines. -/
inductive Pulse where
  | turretMove (target : Station)
  | lensMove (target : LensPos)
  | carriageStep (forward : Bool)
  | filmStep (forward : Bool)
  | lamp
  | cut
  | strobe (data : Byte)
  | rowFeed
deriving DecidableEq, Repr

end Sys2Proof.Machine
end

