-- ==== Sys2Proof/Machine/PowerOn.lean ====
section
/-! DEFINITION. Each block right after power-on reset. Where the manual gives no value the log is named. -/

namespace Sys2Proof.Machine

/-- One 10 ms mechanical time unit in ticks of 0.5 µs (spec 00, Units). -/
def mechUnit : Nat := 20000

/-- An EMPTY record (R1, R10, R20). Its other contents mean nothing (log 30). -/
def FontRecord.blank : FontRecord :=
  { state := .empty, number := 0, name := [], widths := Vector.replicate 96 0, kerning := [], proofSet := 0,
    placement := none, verification := .unverified, revision := 0, lineRefs := 0, currentRefs := 0,
    partialRefs := 0, amend := none }

def Latched.blank : Latched :=
  { measure := 0, spaceMin := 0, spaceOpt := 0, spaceMax := 0, minLeft := 0, minRight := 0, hyphenate := false,
    rules := false, ladder := 0 }

/-- An emptied line builder (R48). -/
def Builder.blank : Builder :=
  { isOpen := false, latched := Latched.blank, items := [], n := 0, nMin := 0, nMax := 0, glyphCount := 0,
    spaceCount := 0, gap := [], word := [], marks := [], heldFont := false, heldSize := false, heldOverset := false,
    afterBreak := false, hyphCount := 0 }

/-- A galley after power-on reset (R43): "the other parameters read as 0, with the output mode FILM and the quad mode
LEFT". -/
def Galley.blank : Galley :=
  { state := .closed, mode := .film, priority := 0, font := none, size := 0, leading := 0, pendingReverse := 0,
    measure := 0, quad := .left, spaceMin := 0, spaceOpt := 0, spaceMax := 0, track := 0, hyphenate := false,
    rules := false, ladder := 0, minLeft := 0, minRight := 0, buffer := [], seq := 0, sticky := 0, waiting := [],
    builder := Builder.blank }

/-- R45, R46. -/
def Engine.powerOn : Engine := { state := .idle, lastServed := 7 }

/-- R84. -/
def Dictionary.powerOn : Dictionary :=
  { chains := Vector.replicate 512 [], lastKind := .channel, lastChannel := 1, presentedLookup := none,
    presented := Vector.replicate 2 none, running := none, purge := none }

/-- R114. -/
def Store.blank : Store :=
  { slots := Vector.replicate 48 none, order := Vector.replicate 8 [], filmQueue := [], paperQueue := [],
    filmHolder := none, paperHolder := none, filmEndBegun := false, filmEndDone := false, paperEndBegun := false,
    paperEndDone := false }

/-- R134. The index timeout runs for twice the default T_nom, 160,000 ticks (R120), and the home run for 17,280 steps
(R131) at the default step period of 8 ticks. The carriage position during the home run: log 24. -/
def Photo.powerOn : Photo :=
  { disc := .unlocked, period := 0, count := 0, counting := false, slotCount := 0, disturbed := false,
    indexTimer := some 160000, turret := .unknown, latched := none, turretTimer := none, turretExpired := false,
    lens := .unknown, lensTimer := none, lensExpired := false, carriage := .homing 17280 none, position := 0,
    carriageTimer := some 8, shutter := 0, lamp := .ready, flashReported := true, flash := none, delay := none,
    lockWatch := none, verify := none }

/-- R153. -/
def Exposure.powerOn : Exposure :=
  { work := .none, hold := none, note := false, figuresDeferred := false, cutTimer := none, turretAt := none }

/-- R153. -/
def Film.powerOn : Film :=
  { loaded := false, length := 0, position := 0, galleyStart := 0, deepest := 0, lowNoted := false, move := none,
    timer := none }

/-- R154: width 0, with all its bits clear. -/
def Cell.blank : Cell := { width := 0, rows := Vector.replicate 12 0 }

/-- R163. -/
def ProofGen.powerOn : ProofGen :=
  { cells := Vector.replicate 4 (Vector.replicate 96 Cell.blank), buffers := Vector.replicate 2 .empty, port := .idle,
    row := 0, pos := 0, feeds := 0 }

/-- R164. -/
def Channel.powerOn : Channel :=
  { chain := 0, state := .idle, stop := false, term := 0, inFlight := none, blockRead := none, posting := none,
    detached := false, written := [] }

/-- The defaults of the configuration map (spec 11, 11.2). Entries 16H, 17H and C8H are computed (`cfgRead`). -/
def configDefaults : List Byte :=
  [0x00, 0x00, 0x00, 128, 0x88, 0x13, 2, 12, 150, 80, 50, 200, 2, 10, 72, 24] ++
  [0, 13, 0xE4, 0, 0, 0x07, 0, 0] ++
  [12, 14, 16, 18, 20, 24, 28, 36] ++
  List.replicate 169 0

/-- The map has 201 entries, 00H-C8H. -/
theorem configDefaults_length : configDefaults.length = 201 := by decide +kernel

/-- R175. -/
def ConfigSpace.powerOn : ConfigSpace :=
  { entries := ⟨⟨configDefaults⟩, configDefaults_length⟩, index := 0, tNomPending := none, lastRefusal := 0 }

/-- R180: "every line's accepted level is taken from its conditioned level, and no change is accepted, timed or
reported". The inversion is clear by default, so the conditioned levels are the inputs. -/
def Sensors.powerOn (inputs : BitVec 15) : Sensors :=
  { inputs := inputs,
    index := { accepted := inputs.getLsbD 0, timing := none },
    slot := { accepted := inputs.getLsbD 1, timing := none },
    cassette := { accepted := inputs.getLsbD 11, timing := none },
    lid := { accepted := inputs.getLsbD 12, timing := none },
    paper := { accepted := inputs.getLsbD 13, timing := none },
    events := 0 }

/-- The levels of the drive lines after power-on reset (log 6). DESIGN CHOICE: 0. -/
def Drives.powerOn : Drives :=
  { turretTarget := 0, lensTarget := 0, carriageForward := false, filmForward := false, data := 0 }

end Sys2Proof.Machine
end

