-- ==== Sys2Proof/Machine/State.lean ====
section
/-! DEFINITION. The state of the part, the ways a step can stop, and the state after power-on reset. -/

namespace Sys2Proof.Machine

structure State where
  fonts : Vector FontRecord 32
  galleys : Vector Galley 8
  engine : Engine
  dict : Dictionary
  store : Store
  photo : Photo
  exposure : Exposure
  film : Film
  proof : ProofGen
  channels : Vector Channel 2
  attn : BitVec 16
  attnEn : BitVec 16
  config : ConfigSpace
  sensors : Sensors
  drives : Drives
  pulses : List Pulse
  readData : Word
  free : Nat
  pending : List Instr
deriving DecidableEq, Repr

/-- Why the machine can stop with a fault: no event of this part stops it (INVENTORY.md, Faults). Safe: no state is
left out. -/
inductive Fault where
deriving DecidableEq, Repr

/-- Why a command has no meaning. -/
inductive Refusal where
  /-- Raised by `exec` for a command that the model gives no meaning yet; none is left. Safe: the model stops. -/
  | notModelled (mnemonic : String)
deriving DecidableEq, Repr

/-- What a step answers. -/
abbrev Answer := Host.Outcome State Fault Refusal

/-- The part right after power-on reset, with the given levels on its sensor pins, the given queue of commands and
the given count of free values, which power-on reset does not touch (log 28). -/
def State.powerOn (inputs : BitVec 15) (pending : List Instr) (free : Nat) : State :=
  { fonts := Vector.replicate 32 FontRecord.blank
    galleys := Vector.replicate 8 Galley.blank
    engine := Engine.powerOn
    dict := Dictionary.powerOn
    store := Store.blank
    photo := Photo.powerOn
    exposure := Exposure.powerOn
    film := Film.powerOn
    proof := ProofGen.powerOn
    channels := Vector.replicate 2 Channel.powerOn
    attn := 0
    attnEn := 0
    config := ConfigSpace.powerOn
    sensors := Sensors.powerOn inputs
    drives := Drives.powerOn
    pulses := []
    readData := 0
    free := free
    pending := pending }

/-- The machine right after power-on reset. The input levels are 0 (log 5), the queue is empty. -/
def State.reset : State := State.powerOn 0 [] 0

end Sys2Proof.Machine
end

