-- ==== Sys2Proof/Machine/Flags.lean ====
section
/-! DEFINITION. The flags: attention flags and the interrupt line, line flags and sticky flags. -/

namespace Sys2Proof.Machine

/-! ### Attention (R173; spec 10, 10.5) -/

/-- The attention flags. -/
inductive Attn where
  | channel (ch : ChannelId)
  | expHold
  | proofHold
  | filmLow
  | sensor
  | configReject
  | galleyClosed (g : GalleyId)
deriving DecidableEq, Repr

/-- The bit of a flag in ATTN and ATTN_EN. -/
def Attn.bit : Attn → Nat
  | .channel ch => ch.val
  | .expHold => 2
  | .proofHold => 3
  | .filmLow => 4
  | .sensor => 5
  | .configReject => 6
  | .galleyClosed g => 8 + g.val

def Attn.mask (f : Attn) : BitVec 16 := 1#16 <<< f.bit

/-- The bits of ATTN and ATTN_EN that are defined; the others read as 0 (R164). -/
def attnDefined : BitVec 16 := 0xFF7F#16

/-- A flag is set by its event whatever the enable says, and setting it again changes nothing (R173). -/
def State.raise (f : Attn) (s : State) : State := { s with attn := s.attn ||| f.mask }

/-- Whether a flag is set. -/
def State.raised (f : Attn) (s : State) : Bool := s.attn.getLsbD f.bit

/-- "The interrupt line is asserted while any flag with its enable set is 1" (R173). -/
def State.interruptLine (s : State) : Bool := (s.attn &&& s.attnEn) != 0#16

/-! ### Line flags and sticky flags (R35; spec 10, 10.7) -/

def stickyClamped : Half := 1#16 <<< 8
def stickyBadItem : Half := 1#16 <<< 9
def stickyReverseClamped : Half := 1#16 <<< 10

def bitIf (b : Bool) (i : Nat) : Half := if b then 1#16 <<< i else 0#16

/-- The sticky flags that the flags of a committed line join (R35). -/
def LineFlags.sticky (f : LineFlags) : Half :=
  bitIf f.hyphenated 0 ||| bitIf f.doubtful 1 ||| bitIf f.loose 2 ||| bitIf f.overset 3 ||| bitIf f.crowded 4 |||
  bitIf f.missing 5 ||| bitIf f.fontSubst 6 ||| bitIf f.sizeSubst 7

end Sys2Proof.Machine
end

