-- ==== Sys2Proof/Machine/Ops.lean ====
section
/-! DEFINITION. The named operations: access to the parts of State, the configuration settings, the levels of the
sensor lines, free values, and the completion of requests. -/

namespace Sys2Proof.Machine

/-! ### Access to the parts of State -/

namespace State

def font (i : FontSlot) (s : State) : FontRecord := vget s.fonts i
def galley (g : GalleyId) (s : State) : Galley := vget s.galleys g
def channel (ch : ChannelId) (s : State) : Channel := vget s.channels ch

def modFont (i : FontSlot) (f : FontRecord → FontRecord) (s : State) : State :=
  { s with fonts := vset s.fonts i (f (s.font i)) }
def modGalley (g : GalleyId) (f : Galley → Galley) (s : State) : State :=
  { s with galleys := vset s.galleys g (f (s.galley g)) }
def modBuilder (g : GalleyId) (f : Builder → Builder) (s : State) : State :=
  s.modGalley g fun x => { x with builder := f x.builder }
def modChannel (ch : ChannelId) (f : Channel → Channel) (s : State) : State :=
  { s with channels := vset s.channels ch (f (s.channel ch)) }
def modEngine (f : Engine → Engine) (s : State) : State := { s with engine := f s.engine }
def modDict (f : Dictionary → Dictionary) (s : State) : State := { s with dict := f s.dict }
def modStore (f : Store → Store) (s : State) : State := { s with store := f s.store }
def modPhoto (f : Photo → Photo) (s : State) : State := { s with photo := f s.photo }
def modExposure (f : Exposure → Exposure) (s : State) : State := { s with exposure := f s.exposure }
def modFilm (f : Film → Film) (s : State) : State := { s with film := f s.film }
def modProof (f : ProofGen → ProofGen) (s : State) : State := { s with proof := f s.proof }
def modConfig (f : ConfigSpace → ConfigSpace) (s : State) : State := { s with config := f s.config }
def modSensors (f : Sensors → Sensors) (s : State) : State := { s with sensors := f s.sensors }
def modDrives (f : Drives → Drives) (s : State) : State := { s with drives := f s.drives }

/-- A pulse on a drive line, after those already given in this event (log 26). -/
def pulse (p : Pulse) (s : State) : State := { s with pulses := s.pulses ++ [p] }

/-- Sticky flags of a galley gather (R35). -/
def addSticky (g : GalleyId) (f : Half) (s : State) : State :=
  s.modGalley g fun x => { x with sticky := x.sticky ||| f }

/-- Count a use of a free value (log 7). -/
def bumpFree (s : State) : State := { s with free := s.free + 1 }

/-! ### Configuration settings (spec 11, 11.2) -/

/-- The stored byte of an entry; 0 where there is no entry (R175). -/
def entry (i : Nat) (s : State) : Byte := if h : i < 201 then s.config.entries[i] else 0

def setting (i : Nat) (s : State) : Nat := (s.entry i).toNat

/-- A setting of which 0 is taken as 1. -/
def setting1 (i : Nat) (s : State) : Nat := max 1 (s.setting i)

/-- T_nom in ticks: entries 04H-05H times 16 (spec 07, 7.2). -/
def tNom (s : State) : Nat := (s.setting 0x04 + 256 * s.setting 0x05) * 16

/-- TRUNCATE is set in 01H (R66). -/
def truncates (s : State) : Bool := (s.entry 0x01).getLsbD 0
/-- Grouped exposure, 02H (R139). -/
def grouped (s : State) : Bool := (s.entry 0x02).getLsbD 0
/-- Dictionary write protect, 10H (R77). -/
def writeProtect (s : State) : Bool := (s.entry 0x10).getLsbD 0
/-- The hyphen glyph code, 11H (R55, R88). An accepted value is at most 95 (R178). -/
def hyphenCode (s : State) : GlyphCode := ⟨s.setting 0x11 % 96, Nat.mod_lt _ (by decide)⟩

/-- Physical station `map(l)` of logical station `l`: bits 2l+1..2l of 12H. -/
def stationMap (l : Station) (s : State) : Station :=
  ⟨(s.setting 0x12 / 4 ^ l.val) % 4, Nat.mod_lt _ (by decide)⟩

/-- The size in hp of a lens position, 0 when it is empty (18H-1FH). -/
def lensSize (p : LensPos) (s : State) : Nat := s.setting (0x18 + p.val)

/-- The code map, 20H-7FH. -/
def codeMap (s : State) : Vector Byte 96 := Vector.ofFn fun i => s.entry (0x20 + i.val)

/-- The letter classes, 80H-A7H: whether letter ID `n`, 1-40, is a vowel (R95). -/
def vowel (n : Nat) (s : State) : Bool := decide (1 ≤ n ∧ n ≤ 40) && (s.entry (0x7F + n)).getLsbD 0

/-- Whether the ordered pair is one of the 16 pairs of the digraph table, A8H-C7H (R95). A pair with an ID of 0 is
unused. -/
def digraph (a b : Nat) (s : State) : Bool :=
  (List.range 16).any fun k =>
    let x := s.setting (0xA8 + 2 * k)
    let y := s.setting (0xA9 + 2 * k)
    x != 0 && y != 0 && x == a && y == b

/-! ### Sensor lines (spec 11, 11.5) -/

end State

/-- The bit of a line in the inversion entries 13H (bits 0-7) and 14H (bits 8-14). -/
def encoderBit : EncoderLine → Nat
  | .index => 0
  | .slot => 1

def debouncedBit : DebouncedLine → Nat
  | .cassettePresent => 11
  | .lidClosed => 12
  | .paperPresent => 13

def sensorBit : SensorLine → Nat
  | .turretReady => 2
  | .turretPos b => 3 + b.val
  | .discCode b => 5 + b.val
  | .lensReady => 9
  | .cutterHome => 10
  | .debounced l => debouncedBit l
  | .printerBusy => 14

/-- A bit vector with one bit set to a level. -/
def putBit {w : Nat} (i : Nat) (b : Bool) (x : BitVec w) : BitVec w :=
  if b then x ||| (1#w <<< i) else x &&& ~~~(1#w <<< i)

namespace State

/-- The inversion bits of the 15 lines. -/
def inversion (s : State) : BitVec 15 := (s.entry 0x13).setWidth 15 ||| ((s.entry 0x14).setWidth 15 <<< 8)

/-- "Each line's conditioned level is its input level, inverted when its inversion bit is set." -/
def conditioned (bit : Nat) (s : State) : Bool := (s.sensors.inputs ^^^ s.inversion).getLsbD bit

/-- The machine brings a line to a conditioned level. -/
def setConditioned (bit : Nat) (level : Bool) (s : State) : State :=
  s.modSensors fun x => { x with inputs := putBit bit (level ^^ s.inversion.getLsbD bit) x.inputs }

/-- The station on the TURRET_POS lines (R127). -/
def turretPosLines (s : State) : Station :=
  ⟨((if s.conditioned 3 then 1 else 0) + (if s.conditioned 4 then 2 else 0)) % 4, Nat.mod_lt _ (by decide)⟩

/-- The code on the DISC_CODE lines (R127). -/
def discCodeLines (s : State) : BitVec 4 :=
  ((s.sensors.inputs ^^^ s.inversion) >>> 5).setWidth 4

def cutterHome (s : State) : Bool := s.conditioned 10
def printerBusy (s : State) : Bool := s.conditioned 14
/-- The accepted level of LID_CLOSED. -/
def lidClosed (s : State) : Bool := s.sensors.lid.accepted
/-- The accepted level of CASSETTE_PRESENT. -/
def cassettePresent (s : State) : Bool := s.sensors.cassette.accepted
/-- The paper-present mark (R160). -/
def paperPresent (s : State) : Bool := s.sensors.paper.accepted

/-! ### Quiescence (R178) -/

/-- The free count of the Set-Line Store (R101). -/
def freeCount (s : State) : Nat := ((List.finRange 48).filter fun i => (vget s.store.slots i).isNone).length

/-- "every galley is CLOSED and the Set-Line Store has all 48 slots free". -/
def quiescent (s : State) : Bool :=
  ((List.finRange 8).all fun g => (s.galley g).state == .closed) &&
  ((List.finRange 48).all fun i => (vget s.store.slots i).isNone)

end State

/-! ### Completions (spec 10) -/

def Completion.code : Completion → Byte
  | .done => 0x00
  | .doneClamped => 0x01
  | .unknownRequest => 0x02
  | .badArgument => 0x03
  | .wrongState => 0x04
  | .notFound => 0x05
  | .alreadyExists => 0x06
  | .full => 0x07
  | .isProtected => 0x08
  | .busy => 0x09
  | .reset => 0x0A

/-- DONE_CLAMPED if something was clamped, DONE otherwise. -/
def doneOr (clamped : Bool) : Completion := if clamped then .doneClamped else .done

/-- The owner reports the completion of the request that channel `ch` brought. The completion of a detached request is
dropped and clears the detached mark (R172); otherwise a WAITING channel becomes POSTING (R167). -/
def complete (ch : ChannelId) (c : Completion) (detail : Half) (reply : List Byte) (s : State) : State :=
  if (s.channel ch).detached then s.modChannel ch fun k => { k with detached := false }
  else
    match (s.channel ch).state, (s.channel ch).inFlight with
    | .waiting, some r =>
      s.modChannel ch fun k =>
        { k with state := .posting, inFlight := none,
                 posting := some { request := r, completion := c, detail := detail, reply := reply } }
    | _, _ => s

/-- A completion for which the manual states no detail: the detail is a free value (log 7); there is no reply
(log 21). -/
def completeUnstated (ch : ChannelId) (c : Completion) (s : State) : State :=
  (complete ch c (Config.unstatedDetail s.free) [] s).bumpFree

/-- A refusal whose detail the manual does not state. -/
def refuse (ch : ChannelId) (c : Completion) (s : State) : State := completeUnstated ch c s

/-- A request completes with a detail and no reply. -/
def finish (ch : ChannelId) (c : Completion) (detail : Nat) (s : State) : State :=
  complete ch c (BitVec.ofNat 16 detail) [] s

/-- A query completes DONE with its reply. The reply may hold free bytes, so the counter moves on (log 7). -/
def reply (ch : ChannelId) (detail : Nat) (bytes : List Byte) (s : State) : State :=
  (complete ch .done (BitVec.ofNat 16 detail) bytes s).bumpFree

/-! ### Events -/

/-- An event takes place where its condition holds; otherwise it does not arise and the state stands (log 2). The
pulses of the event before are over (log 26). -/
def event (arises : Bool) (f : State → State) (s : State) : Answer :=
  .next (if arises then f { s with pulses := [] } else s)

end Sys2Proof.Machine
end

