-- ==== Sys2Proof/Machine/Operands.lean ====
section
/-! DEFINITION. Operand forms: the byte layouts of header, payloads and replies (spec 10, 10.6 and 10.7), text items
(R174), and how parameters are brought into range (R26, R27). -/

namespace Sys2Proof.Machine

/-! ### Bytes -/

/-- The unsigned byte at an offset of a list that is long enough. -/
def u8 (p : List Byte) (i : Nat) : Nat := (p.getD i 0).toNat
/-- Two bytes, little-endian. -/
def u16 (p : List Byte) (i : Nat) : Nat := u8 p i + 256 * u8 p (i + 1)
/-- A signed byte. -/
def s8 (p : List Byte) (i : Nat) : Int := (p.getD i 0).toInt

def word32 (p : List Byte) (i : Nat) : Word := BitVec.ofNat 32 (u16 p i + 65536 * u16 p (i + 2))

def byteOf (n : Nat) : Byte := BitVec.ofNat 8 n
def le16 (n : Nat) : List Byte := [byteOf n, byteOf (n / 256)]
def le32 (n : Nat) : List Byte := le16 n ++ le16 (n / 65536)
def signedByte (n : Int) : Byte := BitVec.ofInt 8 n
def bitByte (b : Bool) (i : Nat) : Nat := if b then 2 ^ i else 0

/-- `n` bytes from an offset, when they are there. -/
def takeBytes (n : Nat) (p : List Byte) : Option (List Byte × List Byte) :=
  if n ≤ p.length then some (p.take n, p.drop n) else none

/-- The low two bits of the chain register and of every link are ignored and read as 0 (R164). -/
def blockAddress (a : Word) : Word := a &&& 0xFFFFFFFC#32

/-! ### Request blocks (10.6) -/

/-- The request in a well-formed header and its payload, or none when the header is malformed (R166): "A spare byte
that is not 0, or a payload length over 1,024". -/
def parseBlock (h : Vector Byte 20) (payload : List Byte) : Option Request :=
  let p := h.toList
  if u8 p 19 ≠ 0 ∨ u16 p 14 > 1024 then none
  else some
    { code := p.getD 16 0
      block :=
        { link := word32 p 0, statusAddr := word32 p 4, replyAddr := word32 p 8,
          replyCap := BitVec.ofNat 16 (u16 p 12), flags := p.getD 17 0, target := p.getD 18 0,
          payload := payload.take (u16 p 14) } }

def postFlag (b : Block) : Bool := b.flags.getLsbD 0
def stopAfterFlag (b : Block) : Bool := b.flags.getLsbD 1
def signalFlag (b : Block) : Bool := b.flags.getLsbD 2

/-! ### Font Catalogue payloads -/

/-- The name tag: a length 0-12 and 12 characters, of which those beyond the length are ignored. -/
def takeName (p : List Byte) : Option (List Byte × List Byte) :=
  (takeBytes 13 p).bind fun (b, rest) =>
    if u8 b 0 ≤ 12 then some ((b.drop 1).take (u8 b 0), rest) else none

def takeProofSet (p : List Byte) : Option (Fin 4 × List Byte) :=
  match p with
  | b :: rest => if h : b.toNat < 4 then some (⟨b.toNat, h⟩, rest) else none
  | [] => none

/-- The 96 width entries, each above 63 stored as 63, and whether one was (R10). -/
def takeWidths (p : List Byte) : Option ((Vector Nat 96 × Bool) × List Byte) :=
  (takeBytes 96 p).map fun (b, rest) =>
    ((Vector.ofFn fun i => min 63 (u8 b i.val), b.any fun x => decide (x.toNat > 63)), rest)

def takePairs : Nat → List Byte → Option (List KernPair × List Byte)
  | 0, p => some ([], p)
  | n + 1, l :: r :: a :: rest =>
    (takePairs n rest).map fun (ps, q) => ({ left := l.toNat, right := r.toNat, adjust := a.toInt } :: ps, q)
  | _ + 1, _ => none

/-- "Every pair's codes are 0-95 and its adjust is -16..+15" (R10). -/
def pairValid (k : KernPair) : Bool := k.left ≤ 95 && k.right ≤ 95 && decide (-16 ≤ k.adjust ∧ k.adjust ≤ 15)

def pairBefore (a b : KernPair) : Bool := a.left < b.left || (a.left == b.left && a.right < b.right)

/-- "The pairs are in strictly ascending order of (left code, right code)" (R10). -/
def pairsAscend : List KernPair → Bool
  | a :: b :: rest => pairBefore a b && pairsAscend (b :: rest)
  | _ => true

def takeKerning (p : List Byte) : Option (List KernPair × List Byte) :=
  match p with
  | n :: rest =>
    if n.toNat ≤ 64 then
      (takePairs n.toNat rest).bind fun (ps, q) =>
        if ps.all pairValid && pairsAscend ps then some (ps, q) else none
    else none
  | [] => none

/-- What LOAD FONT carries. -/
structure FontParts where
  name : List Byte
  proofSet : Fin 4
  widths : Vector Nat 96
  clamped : Bool
  kerning : List KernPair
deriving DecidableEq, Repr

/-- The payload of LOAD FONT, or none when check 1 of R10 fails on it. -/
def parseLoadFont (p : List Byte) : Option FontParts :=
  (takeName p).bind fun (name, p1) =>
  (takeProofSet p1).bind fun (ps, p2) =>
  (takeWidths p2).bind fun ((w, c), p3) =>
  (takeKerning p3).bind fun (k, p4) =>
  if p4 = [] then some { name := name, proofSet := ps, widths := w, clamped := c, kerning := k } else none

/-- A part that is taken when its bit is selected. -/
def optionally {α : Type} (sel : Bool) (f : List Byte → Option (α × List Byte)) (p : List Byte) :
    Option (Option α × List Byte) :=
  if sel then (f p).map fun (a, q) => (some a, q) else some (none, p)

/-- The payload of AMEND FONT with whether a width was clamped, or none when check 1 of R11 fails. A selection byte with
one of its bits 4-7 set is refused with BAD_ARGUMENT: 10.7 wants them 0 and gives no outcome (log 22). -/
def parseAmendFont (p : List Byte) : Option (AmendParts × Bool) :=
  match p with
  | sel :: p0 =>
    if sel = 0 ∨ sel.toNat > 15 then none
    else
      (optionally (sel.getLsbD 0) takeWidths p0).bind fun (w, p1) =>
      (optionally (sel.getLsbD 1) takeKerning p1).bind fun (k, p2) =>
      (optionally (sel.getLsbD 2) takeName p2).bind fun (n, p3) =>
      (optionally (sel.getLsbD 3) takeProofSet p3).bind fun (s, p4) =>
      if p4 = [] then
        some ({ widths := w.map (·.1), kerning := k, name := n, proofSet := s }, (w.map (·.2)).getD false)
      else none
  | [] => none

/-- A slot 0-31 named by a byte. -/
def slotOf (n : Nat) : Option FontSlot := if h : n < 32 then some ⟨n, h⟩ else none

/-- What PLACE FONT carries: its slot selector, and the new placement or none to clear it. -/
structure PlaceArgs where
  selector : Option FontSlot
  placement : Option Placement
deriving DecidableEq, Repr

/-- A slot selector: byte 1, when bit 0 of byte 0 is set (10.7). Outer none: a slot above 31. Without the bit, byte 1
is not examined (log 22). -/
def parseSelector (p : List Byte) : Option (Option FontSlot) :=
  if (p.getD 0 0).getLsbD 0 then (slotOf (u8 p 1)).map some else some none

/-- The payload of PLACE FONT, or none for BAD_ARGUMENT (R14 check 1). -/
def parsePlaceFont (p : List Byte) : Option PlaceArgs :=
  if p.length ≠ 5 then none
  else
    (parseSelector p).bind fun sel =>
      if (p.getD 0 0).getLsbD 1 then some { selector := sel, placement := none }
      else if h : u8 p 2 < 4 ∧ u8 p 3 < 4 ∧ u8 p 4 < 16 then
        some { selector := sel,
               placement := some { station := ⟨u8 p 2, h.1⟩, track := ⟨u8 p 3, h.2.1⟩,
                                   code := BitVec.ofNat 4 (u8 p 4) } }
      else none

/-- The payload of QUERY FONT: empty or 2 bytes (R19). -/
def parseQueryFont (p : List Byte) : Option (Option FontSlot) :=
  if p = [] then some none else if p.length = 2 then parseSelector p else none

/-! ### Galley Intake payloads -/

def galleyOf (b : Byte) : Option GalleyId := if h : b.toNat < 8 then some ⟨b.toNat, h⟩ else none

def outputModeOf : Nat → Option OutputMode
  | 0 => some .film
  | 1 => some .proof
  | 2 => some .both
  | _ => none

def quadModeOf : Nat → Option QuadMode
  | 0 => some .left
  | 1 => some .right
  | 2 => some .centre
  | 3 => some .justify
  | _ => none

/-- A value brought to the nearest end of its range (R26). -/
def clampNat (lo hi n : Nat) : Nat := max lo (min hi n)
def clampInt (lo hi n : Int) : Int := max lo (min hi n)

/-- Min left and min right: 1-7, where 0 selects the default and is no clamping (R26). -/
def zone (default n : Nat) : Nat := if n = 0 then default else min 7 n
def zoneClamped (n : Nat) : Bool := n > 7

/-- The three space values: each into 0-63, then opt raised to min, then max raised to opt (R26). -/
def spaceValues (a b c : Nat) : Nat × Nat × Nat :=
  let mn := min 63 a
  let op := max mn (min 63 b)
  let mx := max op (min 63 c)
  (mn, op, mx)

def spacesClamped (a b c : Nat) : Bool := spaceValues a b c != (a, b, c)

/-- The sizes of the lens table, empty positions left out. -/
def lensSizes (s : State) : List Nat := ((List.finRange 8).map fun p => s.lensSize p).filter (· != 0)

def distance (a b : Nat) : Nat := (a - b) + (b - a)

/-- Of two sizes the one nearer to `n`, and of two equally near the smaller (R27). -/
def nearer (n a b : Nat) : Nat :=
  if distance b n < distance a n then b else if distance b n = distance a n then min a b else a

/-- "The non-empty lens-table size nearest to it. Where two lens sizes are equally near, the smaller is taken" (R27).
None when the table is empty. -/
def nearestLens (n : Nat) (s : State) : Option Nat :=
  match lensSizes s with
  | [] => none
  | a :: rest => some (rest.foldl (nearer n) a)

/-- The parameters of OPEN GALLEY as given (10.7). -/
structure OpenArgs where
  mode : OutputMode
  priority : Nat
  fontNumber : Nat
  size : Nat
  leading : Nat
  measure : Nat
  quad : QuadMode
  spaces : Nat × Nat × Nat
  track : Int
  hyphenate : Bool
  rules : Bool
  ladder : Nat
  minLeft : Nat
  minRight : Nat
deriving DecidableEq, Repr

/-- The payload of OPEN GALLEY, 18 bytes, or none for BAD_ARGUMENT (R25 check 1). -/
def parseOpenGalley (p : List Byte) : Option OpenArgs :=
  if p.length ≠ 18 then none
  else
    (outputModeOf (u8 p 0)).bind fun m =>
    (quadModeOf (u8 p 9)).map fun q =>
      { mode := m, priority := u8 p 1, fontNumber := u8 p 2, size := u16 p 3, leading := u16 p 5,
        measure := u16 p 7, quad := q, spaces := (u8 p 10, u8 p 11, u8 p 12), track := s8 p 13,
        hyphenate := (p.getD 14 0).getLsbD 0, rules := (p.getD 14 0).getLsbD 1, ladder := u8 p 15,
        minLeft := u8 p 16, minRight := u8 p 17 }

/-- The galley of OPEN GALLEY's parameters in range (R26), still without its font and its lens size. -/
def openParameters (a : OpenArgs) (size : Nat) (font : FontSlot) (x : Galley) : Galley :=
  let sp := spaceValues a.spaces.1 a.spaces.2.1 a.spaces.2.2
  { x with
    mode := a.mode, priority := min 3 a.priority, font := some font, size := size, leading := min 288 a.leading,
    measure := clampNat 72 1440 a.measure, quad := a.quad, spaceMin := sp.1, spaceOpt := sp.2.1, spaceMax := sp.2.2,
    track := clampInt (-4) 4 a.track, hyphenate := a.hyphenate, rules := a.rules, ladder := min 7 a.ladder,
    minLeft := zone 2 a.minLeft, minRight := zone 3 a.minRight }

/-- Whether R26 changes a parameter of OPEN GALLEY. -/
def openClamped (a : OpenArgs) : Bool :=
  a.priority > 3 || a.leading > 288 || a.measure < 72 || a.measure > 1440 ||
  spacesClamped a.spaces.1 a.spaces.2.1 a.spaces.2.2 || a.track < -4 || a.track > 4 || a.ladder > 7 ||
  zoneClamped a.minLeft || zoneClamped a.minRight

/-! ### Text items (R174) -/

inductive Item where
  | glyph (c : GlyphCode)
  | space (k : SpaceKind)
  | discretionary
  | lineEnd
  | endGalley
  | fontSelect (n : Nat)
  | size (hp : Nat)
  | leading (hp : Nat)
  | reverse (hp : Nat)
  | measure (hp : Nat)
  | quad (v : Nat)
  | spaces (a b c : Nat)
  | track (t : Int)
  | hyphControl (flags : Byte) (ladder : Nat)
  | zones (l r : Nat)
  | bad
deriving DecidableEq, Repr

/-- The number of operand bytes of the item that a first byte names (R174). -/
def operandCount (b : Byte) : Nat :=
  match b.toNat with
  | 0x67 => 1
  | 0x68 => 2
  | 0x69 => 2
  | 0x6A => 2
  | 0x6B => 2
  | 0x6C => 1
  | 0x6D => 3
  | 0x6E => 1
  | 0x6F => 2
  | 0x70 => 2
  | _ => 0

/-- The item of a first byte and its operand bytes (R174). -/
def itemOf (b : Byte) (ops : List Byte) : Item :=
  if h : b.toNat < 96 then .glyph ⟨b.toNat, h⟩
  else
    match b.toNat with
    | 0x60 => .space .interword
    | 0x61 => .space .em
    | 0x62 => .space .en
    | 0x63 => .space .thin
    | 0x64 => .discretionary
    | 0x65 => .lineEnd
    | 0x66 => .endGalley
    | 0x67 => .fontSelect (u8 ops 0)
    | 0x68 => .size (u16 ops 0)
    | 0x69 => .leading (u16 ops 0)
    | 0x6A => .reverse (u16 ops 0)
    | 0x6B => .measure (u16 ops 0)
    | 0x6C => .quad (u8 ops 0)
    | 0x6D => .spaces (u8 ops 0) (u8 ops 1) (u8 ops 2)
    | 0x6E => .track (s8 ops 0)
    | 0x6F => .hyphControl (ops.getD 0 0) (u8 ops 1)
    | 0x70 => .zones (u8 ops 0) (u8 ops 1)
    | _ => .bad

/-- The complete item at the head of a buffer and the bytes after it; none when there is no complete item (R28). -/
def headItem (buf : List Byte) : Option (Item × List Byte) :=
  match buf with
  | [] => none
  | b :: rest =>
    if operandCount b ≤ rest.length then some (itemOf b (rest.take (operandCount b)), rest.drop (operandCount b))
    else none

/-! ### Exception Dictionary payloads -/

/-- A word: a length L followed by L glyph codes. -/
def takeWord (p : List Byte) : Option (List Byte × List Byte) :=
  match p with
  | n :: rest => takeBytes n.toNat rest
  | [] => none

/-- A count followed by that many position bytes. -/
def takePositions (p : List Byte) : Option (List Nat × List Byte) :=
  match p with
  | n :: rest => (takeBytes n.toNat rest).map fun (b, q) => (b.map (·.toNat), q)
  | [] => none

def takeKind (p : List Byte) : Option (Byte × List Byte) :=
  match p with
  | k :: rest => some (k, rest)
  | [] => none

/-- The letter ID of a glyph code under a code map (R71); 0 for a code above 95. -/
def letterId (m : Vector Byte 96) (c : Nat) : Nat := if h : c < 96 then m[c].toNat else 0

/-- The letters of a well-formed word: 2-32 codes, each 0-95, each folding to an ID other than 0 (R71). -/
def foldWord (m : Vector Byte 96) (w : List Byte) : Option (List Nat) :=
  let ids := w.map fun c => letterId m c.toNat
  if 2 ≤ w.length ∧ w.length ≤ 32 ∧ ids.all (· != 0) then some ids else none

def ascending : List Nat → Bool
  | a :: b :: rest => a < b && ascending (b :: rest)
  | _ => true

/-- The positions that an entry of a kind may have, for a word of `l` letters (R78 check 1). -/
def kindOf (kind : Byte) (positions : List Nat) (l : Nat) : Option EntryKind :=
  match kind.toNat with
  | 0 =>
    if 1 ≤ positions.length ∧ positions.length ≤ 15 ∧ ascending positions ∧
        positions.all (fun p => decide (1 ≤ p ∧ p + 1 ≤ l)) then some .allow else none
  | 1 => if positions = [] then some .never else none
  | _ => none

/-- One whole entry at the head of a payload, its word folded, and the bytes after it; none for BAD_ARGUMENT. -/
def takeEntry (m : Vector Byte 96) (tag : Nat) (p : List Byte) : Option (Entry × List Byte) :=
  (takeWord p).bind fun (w, p1) =>
  (takeKind p1).bind fun (k, p2) =>
  (takePositions p2).bind fun (ps, p3) =>
  (foldWord m w).bind fun ids =>
  (kindOf k ps ids.length).map fun kind => ({ word := ids, kind := kind, positions := ps, tag := tag }, p3)

/-- The payload that is one word and nothing more, folded; none for BAD_ARGUMENT (R80, R81). -/
def parseWord (m : Vector Byte 96) (p : List Byte) : Option (List Nat) :=
  (takeWord p).bind fun (w, rest) => if rest = [] then foldWord m w else none

/-! ### Proof cells (10.7) -/

/-- The rows of a cell: one 16-bit row for each bit set in the mask, the others clear. -/
def takeRows (mask : Nat) : Nat → Nat → List Byte → Option (List (BitVec 16) × List Byte)
  | 0, _, p => some ([], p)
  | n + 1, r, p =>
    if mask.testBit r then
      (takeBytes 2 p).bind fun (b, q) =>
        (takeRows mask n (r + 1) q).map fun (rows, z) => (BitVec.ofNat 16 (u16 b 0) :: rows, z)
    else (takeRows mask n (r + 1) p).map fun (rows, z) => (0 :: rows, z)

/-- One cell: a width byte, a row mask, and 2 bytes for each row given. A width above 16 is stored as 16 (R155); the
Bool says that it was. -/
def takeCell (p : List Byte) : Option ((Cell × Bool) × List Byte) :=
  (takeBytes 3 p).bind fun (b, q) =>
    (takeRows (u16 b 1) 12 0 q).map fun (rows, z) =>
      (({ width := min 16 (u8 b 0), rows := Vector.ofFn fun i => rows.getD i.val 0 }, decide (u8 b 0 > 16)), z)

def takeCells : Nat → List Byte → Option (List (Cell × Bool) × List Byte)
  | 0, p => some ([], p)
  | n + 1, p => (takeCell p).bind fun (c, q) => (takeCells n q).map fun (cs, z) => (c :: cs, z)

/-- The payload of LOAD PROOF CELLS: first code and cells, or none for BAD_ARGUMENT (R155). -/
def parseCells (p : List Byte) : Option (Nat × List (Cell × Bool)) :=
  if p.length < 2 then none
  else if u8 p 0 > 95 ∨ u8 p 0 + u8 p 1 > 96 then none
  else (takeCells (u8 p 1) (p.drop 2)).bind fun (cs, rest) => if rest = [] then some (u8 p 0, cs) else none

end Sys2Proof.Machine
end

