-- ==== Sys2Proof/Machine/Catalogue.lean ====
section
/-! DEFINITION. The Font Catalogue (spec 01): lookups, reference counts, amends, verification, and what its five
requests do when they are taken. -/

namespace Sys2Proof.Machine

/-! ### Records, numbers, the kerning pool -/

/-- The record is LIVE or RETIRING. -/
def FontRecord.inUse (r : FontRecord) : Bool := r.state != .empty

/-- "A font number resolves to the LIVE record that carries it, or to nothing" (R2). -/
def State.resolve (n : Nat) (s : State) : Option FontSlot :=
  (List.finRange 32).find? fun i => (s.font i).state == .live && (s.font i).number == n

/-- Some RETIRING record carries the number (R11 check 2). -/
def State.retiringWith (n : Nat) (s : State) : Bool :=
  (List.finRange 32).any fun i => (s.font i).state == .retiring && (s.font i).number == n

/-- The record that a request addresses: by slot selector, or by number (R2). -/
def State.address (selector : Option FontSlot) (n : Nat) (s : State) : Option FontSlot :=
  match selector with
  | some i => if (s.font i).inUse && (s.font i).number == n then some i else none
  | none => s.resolve n

/-- The lowest-numbered EMPTY slot (R10). -/
def State.emptySlot (s : State) : Option FontSlot :=
  (List.finRange 32).find? fun i => (s.font i).state == .empty

/-- The cells that a record has in use: its list, and the new list of a held amend (R4). -/
def FontRecord.cells (r : FontRecord) : Nat :=
  if r.inUse then r.kerning.length + ((r.amend.bind (·.parts.kerning)).getD []).length else 0

/-- The cells in use of the whole catalogue. -/
def State.cellsUsed (s : State) : Nat := ((List.finRange 32).map fun i => (s.font i).cells).sum

/-- "The free count read by QUERY FONT always equals 1,024 less the sum of the list lengths of all LIVE and RETIRING
records and of all held amends' new lists" (R4). -/
def State.poolFree (s : State) : Nat := 1024 - s.cellsUsed

/-- The kerning lookup of R3. -/
def FontRecord.kern (r : FontRecord) (a b : GlyphCode) : Int :=
  ((r.kerning.find? fun k => k.left == a.val && k.right == b.val).map (·.adjust)).getD 0

/-- The width lookup of R5. -/
def FontRecord.width (r : FontRecord) (c : GlyphCode) : Nat := vget r.widths c

/-! ### Amends -/

/-- Applying an amend replaces the selected parts in one event; the revision counts modulo 256 (R12). -/
def FontRecord.amended (r : FontRecord) (p : AmendParts) : FontRecord :=
  { r with
    widths := p.widths.getD r.widths, kerning := p.kerning.getD r.kerning, name := p.name.getD r.name,
    proofSet := p.proofSet.getD r.proofSet, revision := r.revision + 1, amend := none }

/-- The amend is applied and its request completes DONE or DONE_CLAMPED with the new revision (R12). -/
def applyAmend (i : FontSlot) (p : AmendParts) (clamped : Bool) (ch : ChannelId) (s : State) : State :=
  let s1 := s.modFont i fun r => r.amended p
  finish ch (doneOr clamped) (s1.font i).revision.toNat s1

/-! ### Reference counts (R6 to R9) -/

/-- "After every event that lowers a reference count of a record, the catalogue examines that record" (R9). -/
def examine (i : FontSlot) (s : State) : State :=
  let r := s.font i
  if r.state == .retiring && r.lineRefs == 0 && r.currentRefs == 0 && r.partialRefs == 0 then
    s.modFont i fun _ => FontRecord.blank
  else
    match r.state, r.amend with
    | .live, some a => if r.partialRefs == 0 then applyAmend i a.parts a.clamped a.channel s else s
    | _, _ => s

def examineAll (is : List FontSlot) (s : State) : State := is.foldl (fun s i => examine i s) s

def raiseLine (is : List FontSlot) (s : State) : State :=
  is.foldl (fun s i => s.modFont i fun r => { r with lineRefs := r.lineRefs + 1 }) s
def lowerLine (is : List FontSlot) (s : State) : State :=
  is.foldl (fun s i => s.modFont i fun r => { r with lineRefs := r.lineRefs - 1 }) s
def lowerPartial (is : List FontSlot) (s : State) : State :=
  is.foldl (fun s i => s.modFont i fun r => { r with partialRefs := r.partialRefs - 1 }) s
def raisePartial (i : FontSlot) (s : State) : State :=
  s.modFont i fun r => { r with partialRefs := r.partialRefs + 1 }
def raiseCurrent (i : FontSlot) (s : State) : State :=
  s.modFont i fun r => { r with currentRefs := r.currentRefs + 1 }
def lowerCurrent (i : FontSlot) (s : State) : State :=
  s.modFont i fun r => { r with currentRefs := r.currentRefs - 1 }

/-- The commit report, taken as one event: line references rise, partial references fall, then R9 (R6, R8). -/
def commitReport (lines leaving : List FontSlot) (s : State) : State :=
  examineAll leaving (lowerPartial leaving (raiseLine lines s))

/-- The report of a line freed or discarded (R6, R110, R112). -/
def lineGone (lines : List FontSlot) (s : State) : State := examineAll lines (lowerLine lines s)

/-- The report of partial references released at a cancel (R8, R48). -/
def partialGone (slots : List FontSlot) (s : State) : State := examineAll slots (lowerPartial slots s)

/-- The report that a galley's current font is given up (R7). -/
def currentGone (i : FontSlot) (s : State) : State := examine i (lowerCurrent i s)

/-! ### Placement and verification -/

/-- "VERIFIED if the expected disc code equals the latched code, and MISMATCH if it does not" (R14, R15). -/
def verifyCode (p : Placement) (code : BitVec 4) : Verification := if p.code = code then .verified else .mismatch

/-- The report of an arrival: every LIVE or RETIRING record placed at a logical station that maps to the reported
station is verified (R15). -/
def verifyAt (q : Station) (code : BitVec 4) (s : State) : State :=
  { s with
    fonts := vmap (fun r =>
      match r.placement with
      | some p => if r.inUse && s.stationMap p.station == q then { r with verification := verifyCode p code } else r
      | none => r) s.fonts }

/-- An accepted station map write: every LIVE and RETIRING record becomes UNVERIFIED (R16). -/
def unverifyAll (s : State) : State :=
  { s with fonts := vmap (fun r => if r.inUse then { r with verification := .unverified } else r) s.fonts }

/-! ### The requests when they are taken -/

/-- R10. -/
def takeLoadFont (ch : ChannelId) (b : Block) (s : State) : State :=
  let n := b.target.toNat
  match parseLoadFont b.payload with
  | none => refuse ch .badArgument s
  | some f =>
    if n < 1 ∨ n > 250 then refuse ch .badArgument s
    else if (s.resolve n).isSome then refuse ch .alreadyExists s
    else
      match s.emptySlot with
      | none => refuse ch .full s
      | some i =>
        if s.poolFree < f.kerning.length then refuse ch .full s
        else
          finish ch (doneOr f.clamped) i.val
            (s.modFont i fun _ =>
              { FontRecord.blank with
                state := .live, number := n, name := f.name, widths := f.widths, kerning := f.kerning,
                proofSet := f.proofSet })

/-- R11. -/
def takeAmendFont (ch : ChannelId) (b : Block) (s : State) : State :=
  let n := b.target.toNat
  match parseAmendFont b.payload with
  | none => refuse ch .badArgument s
  | some (p, clamped) =>
    match s.resolve n with
    | none => refuse ch (if s.retiringWith n then .wrongState else .notFound) s
    | some i =>
      let r := s.font i
      let new := (p.kerning.getD []).length
      let supply := if r.partialRefs = 0 then s.poolFree + r.kerning.length else s.poolFree
      if r.amend.isSome then refuse ch .busy s
      else if p.kerning.isSome ∧ supply < new then refuse ch .full s
      else if r.partialRefs = 0 then applyAmend i p clamped ch s
      else s.modFont i fun r => { r with amend := some { parts := p, clamped := clamped, channel := ch } }

/-- The detail of PLACE FONT, and the verification byte of QUERY FONT. -/
def Verification.toNat : Verification → Nat
  | .unverified => 0
  | .verified => 1
  | .mismatch => 2

/-- The verification that PLACE FONT leaves: at once against the latched code when the turret stands at the placement's
station, UNVERIFIED otherwise (R14). -/
def placedVerification (p : Option Placement) (s : State) : Verification :=
  match p, s.photo.turret, s.photo.latched with
  | some p, .standing q, some code => if s.stationMap p.station = q then verifyCode p code else .unverified
  | _, _, _ => .unverified

/-- R14, less the report to Exposure Control (R143). Answers the slot placed. -/
def takePlaceFont (ch : ChannelId) (b : Block) (s : State) : State × Option FontSlot :=
  match parsePlaceFont b.payload with
  | none => (refuse ch .badArgument s, none)
  | some a =>
    match s.address a.selector b.target.toNat with
    | none => (refuse ch .notFound s, none)
    | some i =>
      let v := placedVerification a.placement s
      (finish ch .done v.toNat (s.modFont i fun r => { r with placement := a.placement, verification := v }), some i)

/-- R17. -/
def takeRetireFont (ch : ChannelId) (b : Block) (s : State) : State :=
  match s.resolve b.target.toNat with
  | none => refuse ch .notFound s
  | some i =>
    let r := s.font i
    if r.amend.isSome then refuse ch .busy s
    else if r.lineRefs = 0 ∧ r.currentRefs = 0 ∧ r.partialRefs = 0 then
      finish ch .done 0 (s.modFont i fun _ => FontRecord.blank)
    else finish ch .done 1 (s.modFont i fun r => { r with state := .retiring })

def FontState.toNat : FontState → Nat
  | .empty => 0
  | .live => 1
  | .retiring => 2

/-- The selection byte of an amend (10.7). -/
def AmendParts.selection (p : AmendParts) : Nat :=
  bitByte p.widths.isSome 0 + bitByte p.kerning.isSome 1 + bitByte p.name.isSome 2 + bitByte p.proofSet.isSome 3

/-- Bytes of a reply of which the manual states no value (log 7). -/
def unstated (s : State) (at_ n : Nat) : List Byte := (List.range n).map fun k => Config.unstatedByte s.free (at_ + k)

/-- The 13 bytes of a name tag; the characters beyond the length are free (log 7). -/
def nameBytes (s : State) (name : List Byte) : List Byte :=
  byteOf name.length :: (name ++ unstated s (4 + name.length) (12 - name.length))

/-- Bytes 17-20 of the reply of QUERY FONT. -/
def placementBytes (s : State) (p : Option Placement) : List Byte :=
  match p with
  | some p => [1, byteOf p.station.val, byteOf p.track.val, byteOf p.code.toNat]
  | none => 0 :: unstated s 18 3

/-- The reply of QUERY FONT (R19; 10.7). -/
def fontReply (i : FontSlot) (s : State) : List Byte :=
  let r := s.font i
  [byteOf i.val, byteOf r.state.toNat, byteOf r.number] ++ nameBytes s r.name ++ [byteOf r.proofSet.val] ++
  placementBytes s r.placement ++
  [byteOf r.verification.toNat, r.revision, byteOf r.lineRefs, byteOf r.currentRefs, byteOf r.partialRefs,
   byteOf ((r.amend.map (·.parts.selection)).getD 0), byteOf r.kerning.length] ++
  le16 s.poolFree ++ r.widths.toList.map byteOf ++
  r.kerning.flatMap fun k => [byteOf k.left, byteOf k.right, signedByte k.adjust]

/-- R19. -/
def takeQueryFont (ch : ChannelId) (b : Block) (s : State) : State :=
  match parseQueryFont b.payload with
  | none => refuse ch .badArgument s
  | some sel =>
    match s.address sel b.target.toNat with
    | none => refuse ch .notFound s
    | some i => reply ch i.val (fontReply i s) s

/-! ### Composition reset (R21) -/

/-- The counts of a record become 0; a held amend is applied and completes; a RETIRING record becomes EMPTY. -/
def resetFont (s : State) (i : FontSlot) : State :=
  let s1 := s.modFont i fun r => { r with lineRefs := 0, currentRefs := 0, partialRefs := 0 }
  examine i s1

def catalogueReset (s : State) : State := (List.finRange 32).foldl resetFont s

end Sys2Proof.Machine
end

