-- ==== Sys2Proof/Machine/Hyphenation.lean ====
section
/-! DEFINITION. Hyphenation (spec 05): cores, candidate places and the conditions that withhold them. A word is a list of
builder glyphs; glyph `j` of the manual, counted from 1, is element `j - 1`. -/

namespace Sys2Proof.Machine

/-! ### Cores (R88) -/

/-- The letter ID of a glyph, 0 for a non-letter. The hyphen glyph is never a letter. -/
def glyphLetter (s : State) (g : BGlyph) : Nat :=
  if g.code = s.hyphenCode then 0 else letterId s.codeMap g.code.val

def isHyphen (s : State) (g : BGlyph) : Bool := g.code == s.hyphenCode

/-- Each glyph with its number, counted from 1. -/
def numbered (w : List BGlyph) : List (BGlyph × Nat) := w.zipIdx 1

/-- The letters of the core: the number of the glyph and its letter ID. -/
def coreLetters (s : State) (w : List BGlyph) : List (Nat × Nat) :=
  (numbered w).filterMap fun (g, j) => if glyphLetter s g = 0 then none else some (j, glyphLetter s g)

/-- A core is closed when a non-letter other than the hyphen glyph stands between its first and last letters. -/
def coreClosed (s : State) (w : List BGlyph) : Bool :=
  let ls := coreLetters s w
  match ls.head?, ls.getLast? with
  | some (a, _), some (b, _) =>
    (numbered w).any fun (g, j) => decide (a < j ∧ j < b) && glyphLetter s g == 0 && !isHyphen s g
  | _, _ => false

/-- The place that position `p` of the core gives: after the glyph of letter `p`, unless a hyphen stands between the
letters `p` and `p + 1`. In an open core only hyphens can stand between. -/
def positionPlace (letters : List (Nat × Nat)) (p : Nat) : Option Nat :=
  match letters[p - 1]?, letters[p]? with
  | some (j, _), some (k, _) => if k = j + 1 then some j else none
  | _, _ => none

/-! ### Sources (R89, R90, R94) -/

/-- The places of hard hyphens: the last of each run, when a glyph follows it (R89). -/
def hardPlaces (s : State) (w : List BGlyph) : List Nat :=
  ((numbered w).zip w.tail).filterMap fun ((g, j), next) => if isHyphen s g && !isHyphen s next then some j else none

/-- The places of discretionary marks with a glyph of the word on either side (R90). -/
def markPlaces (w : List BGlyph) (marks : List Nat) : List Nat :=
  marks.filter fun j => decide (1 ≤ j ∧ j < w.length)

/-- The letter tests (A) and (B) of R94 at position `p` of a core with letter IDs `ids`. -/
def letterTest (s : State) (ids : List Nat) (p : Nat) : Bool :=
  let a := ids.getD (p - 1) 0
  let b := ids.getD p 0
  (!s.vowel a && !s.vowel b && !s.digraph a b) ||
  (s.vowel a && !s.vowel b && decide (p + 1 < ids.length) && s.vowel (ids.getD (p + 1) 0))

/-- The rule positions of a core (R94). -/
def rulePositions (s : State) (minLeft minRight : Nat) (ids : List Nat) : List Nat :=
  (List.range ids.length).filter fun p =>
    decide (1 ≤ p ∧ minLeft ≤ p ∧ minRight ≤ ids.length - p) && letterTest s ids p

/-! ### The candidate list (R86, R87, R91, R96) -/

/-- Whether places are withheld from the whole line (R86, R97). -/
def withheld (b : Builder) : Bool :=
  !b.latched.hyphenate || (b.latched.ladder != 0 && decide (b.latched.ladder ≤ b.hyphCount))

/-- The check of R96: the font of glyph `j` carries the hyphen glyph. -/
def carriesHyphen (s : State) (w : List BGlyph) (j : Nat) : Bool :=
  match w[j - 1]? with
  | some g => (s.font g.slot).width s.hyphenCode != 0
  | none => false

/-- The list in ascending order of the place: the hard places, and the places of another source that are not hard and
pass R96. -/
def mergeCandidates (s : State) (w : List BGlyph) (places : List Nat) (source : Source) : List Candidate :=
  (List.range w.length).filterMap fun j =>
    if (hardPlaces s w).contains j then some { j := j, source := .hard }
    else if places.contains j && carriesHyphen s w j then some { j := j, source := source }
    else none

/-- The places that core positions give. -/
def corePlaces (s : State) (w : List BGlyph) (positions : List Nat) : List Nat :=
  positions.filterMap (positionPlace (coreLetters s w))

/-- Source 3 of R91, when the rule enable is on. -/
def ruleCandidates (s : State) (b : Builder) : List Candidate :=
  let ids := (coreLetters s b.word).map (·.2)
  if b.latched.rules && !coreClosed s b.word && decide (2 ≤ ids.length) then
    mergeCandidates s b.word (corePlaces s b.word (rulePositions s b.latched.minLeft b.latched.minRight ids)) .rule
  else mergeCandidates s b.word [] .rule

/-- The word has discretionary hyphens (R90). -/
def hasMarks (b : Builder) : Bool := !(markPlaces b.word b.marks).isEmpty

/-- The core to be looked up, when source 2 of R91 is reached. -/
def lookupCore (s : State) (b : Builder) : Option (List Nat) :=
  let ids := (coreLetters s b.word).map (·.2)
  if withheld b || hasMarks b || coreClosed s b.word then none
  else if 2 ≤ ids.length ∧ ids.length ≤ 32 then some ids
  else none

/-- The list of a search that needs no lookup. -/
def candidates (s : State) (b : Builder) : List Candidate :=
  if withheld b then []
  else if hasMarks b then mergeCandidates s b.word (markPlaces b.word b.marks) .discretionary
  else ruleCandidates s b

/-- The list that the dictionary's answer finishes (R92). -/
def answeredCandidates (s : State) (b : Builder) (a : LookupAnswer) : List Candidate :=
  match a with
  | .allow positions => mergeCandidates s b.word (corePlaces s b.word positions) .dictionary
  | .never => mergeCandidates s b.word [] .dictionary
  | .absent => ruleCandidates s b

end Sys2Proof.Machine
end

