-- ==== Sys2Proof/Machine/Store.lean ====
section
/-! DEFINITION. The Set-Line Store (spec 06): slots, the reservation, the two queues, assignment, handing lines to the
consumers, freeing, the end of a head's work, and the discarding of a cancel. -/

namespace Sys2Proof.Machine

/-! ### Slots and lists (R101, R102) -/

def State.lineAt (i : LineSlot) (s : State) : Option LineRecord := vget s.store.slots i

/-- The stored lines of a galley, the oldest first. -/
def State.linesOf (g : GalleyId) (s : State) : List LineSlot := vget s.store.order g

/-- The lowest-numbered free slot. -/
def State.freeSlot (s : State) : Option LineSlot := (List.finRange 48).find? fun i => (s.lineAt i).isNone

/-- The distinct font slots of the line's glyph list. -/
def LineRecord.fontSlots (r : LineRecord) : List FontSlot :=
  (List.finRange 32).filter fun i => r.glyphs.any fun g => g.slot == i

/-- The record is written and appended at the tail of its galley's list. -/
def putLine (i : LineSlot) (r : LineRecord) (s : State) : State :=
  s.modStore fun t =>
    { t with slots := vset t.slots i (some r), order := vset t.order r.galley (vget t.order r.galley ++ [i]) }

def modLine (i : LineSlot) (f : LineRecord → LineRecord) (s : State) : State :=
  s.modStore fun t => { t with slots := vset t.slots i ((vget t.slots i).map f) }

/-- The slot becomes free and the line leaves its galley's list. -/
def dropLine (i : LineSlot) (g : GalleyId) (s : State) : State :=
  s.modStore fun t =>
    { t with slots := vset t.slots i none, order := vset t.order g ((vget t.order g).filter fun j => j != i) }

/-! ### Holders, queues, the reservation -/

def State.holdsFilm (g : GalleyId) (s : State) : Bool := s.store.filmHolder == some g
def State.holdsPaper (g : GalleyId) (s : State) : Bool := s.store.paperHolder == some g

/-- R103. -/
def State.mayCommit (g : GalleyId) (s : State) : Bool :=
  if s.holdsFilm g || s.holdsPaper g then s.freeCount ≥ 1 else s.freeCount ≥ 5

def OutputMode.usesFilm : OutputMode → Bool
  | .film | .both => true
  | .proof => false
def OutputMode.usesProof : OutputMode → Bool
  | .proof | .both => true
  | .film => false

/-- A galley joins the tail of each queue of its mode (R24, R104). -/
def joinQueues (g : GalleyId) (m : OutputMode) (s : State) : State :=
  s.modStore fun t =>
    { t with
      filmQueue := if m.usesFilm then t.filmQueue ++ [g] else t.filmQueue
      paperQueue := if m.usesProof then t.paperQueue ++ [g] else t.paperQueue }

/-- The position of a galley in a queue, 0 for the front (R104). -/
def queuePosition (g : GalleyId) (q : List GalleyId) : Option Nat := q.findIdx? fun h => h == g

/-! ### Assignment (R105, R107) -/

/-- The galley to which the film may be assigned now. -/
def State.filmAssignee (s : State) : Option GalleyId :=
  match s.store.filmHolder, s.store.filmQueue.head? with
  | none, some g =>
    match (s.galley g).mode with
    | .film => some g
    | .both => if s.store.paperQueue.head? = some g ∧ s.store.paperHolder = none then some g else none
    | .proof => none
  | _, _ => none

/-- The galley of mode PROOF to which the paper may be assigned now. A galley of mode BOTH takes the two together, under
the same conditions as for the film. -/
def State.paperAssignee (s : State) : Option GalleyId :=
  match s.store.paperHolder, s.store.paperQueue.head? with
  | none, some g => if (s.galley g).mode = .proof then some g else none
  | _, _ => none

/-- The film figures of a new head: "galley start = film position = deepest point" (R136). -/
def setFilmFigures (s : State) : State :=
  s.modFilm fun f => { f with galleyStart := f.position, deepest := f.position }

/-- Whether an ADVANCE FILM or CUT FILM is in progress (R135). -/
def ExposureWork.isFreeMove : ExposureWork → Bool
  | .advanceFilm _ _ | .cutFilm _ _ => true
  | _ => false

/-- The film is assigned to a galley. During a free move the figures are deferred (R136). -/
def assignFilm (g : GalleyId) (s : State) : State :=
  let s1 := s.modStore fun t => { t with filmHolder := some g, filmEndBegun := false, filmEndDone := false }
  if s1.exposure.work.isFreeMove then s1.modExposure fun e => { e with figuresDeferred := true }
  else setFilmFigures s1

/-- The paper is assigned to a galley. -/
def assignPaper (g : GalleyId) (s : State) : State :=
  s.modStore fun t => { t with paperHolder := some g, paperEndBegun := false, paperEndDone := false }

/-- One assignment that R105 allows now. -/
def tryAssign (s : State) : Option State :=
  match s.filmAssignee with
  | some g => some (if (s.galley g).mode = .both then assignPaper g (assignFilm g s) else assignFilm g s)
  | none => s.paperAssignee.map fun g => assignPaper g s

/-! ### Handing lines to the consumers (R108, R109) -/

def State.supplies (g : GalleyId) (s : State) : Bool :=
  (s.galley g).state == .opened || (s.galley g).state == .ending

/-- Whether a line waits for a consumer. -/
def LineRecord.awaitsFilm (r : LineRecord) : Bool := r.film && r.filmProgress == .notBegun
def LineRecord.awaitsProof (r : LineRecord) : Bool := r.proof && r.proofProgress == .notBegun

/-- The first line of a galley's list whose record satisfies `p`. -/
def State.firstLine (g : GalleyId) (p : LineRecord → Bool) (s : State) : Option LineSlot :=
  (s.linesOf g).find? fun i => (s.lineAt i).any p

def State.nextFilmLine (s : State) : Option LineSlot :=
  s.store.filmHolder.bind fun g => if s.supplies g then s.firstLine g LineRecord.awaitsFilm else none

def State.nextProofLine (s : State) : Option LineSlot :=
  s.store.paperHolder.bind fun g => if s.supplies g then s.firstLine g LineRecord.awaitsProof else none

/-- A line whose outstanding consumers are empty is freed (R110). -/
def freeIfDone (i : LineSlot) (s : State) : State :=
  match s.lineAt i with
  | some r => if r.film || r.proof then s else lineGone r.fontSlots (dropLine i r.galley s)
  | none => s

/-- Film done (R109). "In exposure" lasts "until it clears the line's film consumer" (R102). -/
def filmDone (i : LineSlot) (s : State) : State :=
  freeIfDone i (modLine i (fun r => { r with film := false, filmProgress := .notBegun }) s)

/-- Proof done (R109). -/
def proofDone (i : LineSlot) (s : State) : State :=
  freeIfDone i (modLine i (fun r => { r with proof := false, proofProgress := .notBegun }) s)

/-! ### The end of a head's work (R111) -/

def GalleyState.finishing : GalleyState → Bool
  | .ending | .cancelling => true
  | .closed | .opened => false

/-- Whether some line in the galley's list satisfies `p`. -/
def State.anyLine (g : GalleyId) (p : LineRecord → Bool) (s : State) : Bool :=
  (s.linesOf g).any fun i => (s.lineAt i).any p

/-- The film's holder, when its film work is finished and has not been reported. -/
def State.filmFinished (s : State) : Option GalleyId :=
  s.store.filmHolder.bind fun g =>
    if (s.galley g).state.finishing && !s.anyLine g (·.film) && !s.store.filmEndBegun then some g else none

/-- The paper's holder, when its paper work is finished and has not been reported. -/
def State.paperFinished (s : State) : Option GalleyId :=
  s.store.paperHolder.bind fun g =>
    if (s.galley g).state.finishing && !s.anyLine g (·.proof) && !s.store.paperEndBegun then some g else none

/-! ### Cancel (R112) -/

/-- Step 1 and 2 for one line. Answers whether the line was discarded. -/
def discardLine (i : LineSlot) (s : State) : State × Nat :=
  match s.lineAt i with
  | none => (s, 0)
  | some r =>
    let film := r.film && r.filmProgress != .notBegun
    let proof := r.proof && r.proofProgress != .notBegun
    if film || proof then (modLine i (fun r => { r with film := film, proof := proof }) s, 0)
    else (lineGone r.fontSlots (dropLine i r.galley s), 1)

/-- Steps 1 and 2 for a list of lines, with the number discarded. -/
def discardLines : List LineSlot → State → State × Nat
  | [], s => (s, 0)
  | i :: rest, s =>
    let (s1, n) := discardLine i s
    let (s2, m) := discardLines rest s1
    (s2, n + m)

/-- Step 3: the galley leaves each queue of which it is not the front holder. -/
def leaveQueues (g : GalleyId) (s : State) : State :=
  s.modStore fun t =>
    { t with
      filmQueue := if t.filmHolder = some g then t.filmQueue else t.filmQueue.filter fun h => h != g
      paperQueue := if t.paperHolder = some g then t.paperQueue else t.paperQueue.filter fun h => h != g }

/-! ### Close (R33) -/

/-- Whether the galley may close. -/
def State.closable (g : GalleyId) (s : State) : Bool :=
  let x := s.galley g
  (s.linesOf g).isEmpty &&
  match x.state with
  | .ending =>
    (!x.mode.usesFilm || (s.holdsFilm g && s.store.filmEndDone)) &&
    (!x.mode.usesProof || (s.holdsPaper g && s.store.paperEndDone))
  | .cancelling =>
    (!s.holdsFilm g || s.store.filmEndDone) && (!s.holdsPaper g || s.store.paperEndDone)
  | .closed | .opened => false

/-- The galley leaves its queues and gives up what it holds. -/
def releaseResources (g : GalleyId) (s : State) : State :=
  s.modStore fun t =>
    { t with
      filmQueue := t.filmQueue.filter fun h => h != g
      paperQueue := t.paperQueue.filter fun h => h != g
      filmHolder := if t.filmHolder = some g then none else t.filmHolder
      filmEndBegun := if t.filmHolder = some g then false else t.filmEndBegun
      filmEndDone := if t.filmHolder = some g then false else t.filmEndDone
      paperHolder := if t.paperHolder = some g then none else t.paperHolder
      paperEndBegun := if t.paperHolder = some g then false else t.paperEndBegun
      paperEndDone := if t.paperHolder = some g then false else t.paperEndDone }

/-- A galley gives up its current font (R7). -/
def giveUpFont (g : GalleyId) (s : State) : State :=
  match (s.galley g).font with
  | some i => currentGone i (s.modGalley g fun x => { x with font := none })
  | none => s

/-- Closing is one event (R33, R48). The parameters, the sequence counter and the sticky flags stay. -/
def closeGalley (g : GalleyId) (s : State) : State :=
  let s1 := s.modGalley g fun x => { x with state := .closed, buffer := [], builder := Builder.blank }
  (giveUpFont g (releaseResources g s1)).raise (.galleyClosed g)

/-- The close of one galley that may close. -/
def tryClose (s : State) : Option State :=
  ((List.finRange 8).find? fun g => s.closable g).map fun g => closeGalley g s

/-! ### Reset (R115) -/

def storeReset (s : State) : State := s.modStore fun _ => Store.blank

end Sys2Proof.Machine
end

