-- ==== Sys2Proof/Machine/Compose.lean ====
section
/-! DEFINITION. The Composition Engine (spec 03): measuring, setting, the commit, the settling of a word, the break
search, and the choice of a galley. -/

namespace Sys2Proof.Machine

/-! ### Measuring (R50 to R53) -/

/-- "max(0, w + k + t) × 5 × s"; with k = 0 the natural advance (R50, R51). -/
def advance (w : Nat) (k t : Int) (size : Nat) : Nat := ((w : Int) + k + t).toNat * 5 * size

/-- The w of R50: the width table entry, 16 units for an absent glyph. -/
def measuredWidth (entry : Nat) : Nat := if entry = 0 then 16 else entry

/-- A glyph with its natural advance. -/
def measureGlyph (s : State) (slot : FontSlot) (size : Nat) (track : Int) (c : GlyphCode) : BGlyph :=
  let entry := (s.font slot).width c
  { code := c, slot := slot, size := size, track := track, width := measuredWidth entry, absent := entry == 0,
    advance := advance (measuredWidth entry) 0 track size }

/-- A glyph kerned against the one after it (R51). -/
def kernGlyph (s : State) (g : BGlyph) (next : GlyphCode) : BGlyph :=
  { g with advance := advance g.width ((s.font g.slot).kern g.code next) g.track g.size }

def naturalGlyph (g : BGlyph) : BGlyph := { g with advance := advance g.width 0 g.track g.size }

/-- The last glyph of a word is kerned against a glyph of the same slot and size that follows it (R51). -/
def kernLast (s : State) (w : List BGlyph) (g : BGlyph) : List BGlyph :=
  match w.getLast? with
  | some p => if p.slot = g.slot ∧ p.size = g.size then w.dropLast ++ [kernGlyph s p g.code] else w
  | none => w

/-- The W of R53. -/
def wordWidth (w : List BGlyph) : Nat := (w.map (·.advance)).sum

def fixedUnits : SpaceKind → Nat
  | .interword => 0
  | .em => 32
  | .en => 16
  | .thin => 8

/-- A space measured at a size (R52). -/
def measureSpace (l : Latched) (k : SpaceKind) (size : Nat) : BSpace :=
  match k with
  | .interword =>
    { kind := k, size := size, min := l.spaceMin * 5 * size, opt := l.spaceOpt * 5 * size,
      max := l.spaceMax * 5 * size }
  | _ =>
    { kind := k, size := size, min := fixedUnits k * 5 * size, opt := fixedUnits k * 5 * size,
      max := fixedUnits k * 5 * size }

def gapMin (gap : List BSpace) : Nat := (gap.map (·.min)).sum
def gapOpt (gap : List BSpace) : Nat := (gap.map (·.opt)).sum
def gapMax (gap : List BSpace) : Nat := (gap.map (·.max)).sum

def BSpace.isInterword (p : BSpace) : Bool := p.kind == .interword

/-- The interword spaces of a run, in order. -/
def interwords (items : List LineItem) : List BSpace :=
  items.filterMap fun i =>
    match i with
    | .space p => if p.isInterword then some p else none
    | .glyph _ => none

/-- The natural width N of a run (R53). -/
def naturalWidth (items : List LineItem) : Nat :=
  (items.map fun i =>
    match i with
    | .glyph g => g.advance
    | .space p => p.opt).sum

/-! ### Setting the line (R63 to R66) -/

/-- Equal stretch (R64): each space `opt + q`, and 1 FU more for the leftmost `r`. -/
def stretch (spaces : List BSpace) (slack : Nat) : List Nat :=
  let q := slack / spaces.length
  let r := slack % spaces.length
  spaces.zipIdx.map fun (p, i) => p.opt + q + (if i < r then 1 else 0)

/-- What each space gives up first (R65 step 2). -/
def firstShare (D R : Nat) (p : BSpace) : Nat := D * (p.opt - p.min) / R

/-- The remainder is given up 1 FU each by the leftmost spaces with a range (R65 step 3). -/
def shrinkFrom (D R : Nat) : List BSpace → Nat → List Nat
  | [], _ => []
  | p :: rest, left =>
    if p.opt - p.min = 0 then p.opt :: shrinkFrom D R rest left
    else if left = 0 then (p.opt - firstShare D R p) :: shrinkFrom D R rest 0
    else (p.opt - firstShare D R p - 1) :: shrinkFrom D R rest (left - 1)

def totalRange (spaces : List BSpace) : Nat := (spaces.map fun p => p.opt - p.min).sum

/-- Proportional shrink by `D` (R65). -/
def shrink (spaces : List BSpace) (D : Nat) : List Nat :=
  let R := totalRange spaces
  shrinkFrom D R spaces (D - (spaces.map (firstShare D R)).sum)

def anyAboveMax (spaces : List BSpace) (widths : List Nat) : Bool :=
  (spaces.zip widths).any fun (p, w) => decide (w > p.max)

/-- The table of R63, for a line of measure `m` and natural width `n`. -/
def spacing (quad : QuadMode) (byBreak : Bool) (spaces : List BSpace) (m n : Nat) : Spacing :=
  let opts := spaces.map (·.opt)
  if n ≤ m then
    match quad with
    | .justify =>
      if byBreak then
        if spaces = [] then { widths := [], offset := 0, loose := true }
        else { widths := stretch spaces (m - n), offset := 0, loose := anyAboveMax spaces (stretch spaces (m - n)) }
      else { widths := opts, offset := 0, loose := false }
    | .left => { widths := opts, offset := 0, loose := false }
    | .right => { widths := opts, offset := m - n, loose := false }
    | .centre => { widths := opts, offset := (m - n) / 2, loose := false }
  else if n - m ≤ totalRange spaces then { widths := shrink spaces (n - m), offset := 0, loose := false }
  else { widths := spaces.map (·.min), offset := 0, loose := false }

/-- The flash position of an accumulated position P (R66). -/
def flashPosition (truncate : Bool) (p : Nat) : Nat :=
  if truncate then p / 16
  else if p % 16 < 8 then p / 16
  else if p % 16 > 8 then p / 16 + 1
  else if p / 16 % 2 = 0 then p / 16 else p / 16 + 1

/-- The glyphs of the items with their flash positions, from position `p` on with the given final widths (R66). -/
def placeItems (truncate : Bool) : List LineItem → List Nat → Nat → List SetGlyph
  | [], _, _ => []
  | .glyph g :: rest, ws, p =>
    { code := g.code, slot := g.slot, size := g.size, x := flashPosition truncate p, absent := g.absent } ::
      placeItems truncate rest ws (p + g.advance)
  | .space sp :: rest, ws, p =>
    if sp.isInterword then placeItems truncate rest ws.tail (p + ws.headD sp.opt)
    else placeItems truncate rest ws (p + sp.opt)

/-! ### The commit (R67, R68) -/

/-- The parameters that a line latches when it opens (R41). -/
def latchFrom (x : Galley) : Latched :=
  { measure := x.measure * 160, spaceMin := x.spaceMin, spaceOpt := x.spaceOpt, spaceMax := x.spaceMax,
    minLeft := x.minLeft, minRight := x.minRight, hyphenate := x.hyphenate, rules := x.rules, ladder := x.ladder }

/-- The spacing of a line, from the quad mode as it stands (R63). -/
def lineSpacing (x : Galley) (e : LineEnd) : Spacing :=
  spacing x.quad e.byBreak (interwords e.items) x.builder.latched.measure (naturalWidth e.items)

/-- The flags of the line: those of the settle and the setting, MISSING, and the held marks (R67). -/
def lineFlags (x : Galley) (e : LineEnd) (glyphs : List SetGlyph) : LineFlags :=
  { e.flags with
    loose := (lineSpacing x e).loose
    overset := e.flags.overset || x.builder.heldOverset
    missing := glyphs.any (·.absent)
    fontSubst := x.builder.heldFont
    sizeSubst := x.builder.heldSize }

/-- The glyph list of the line. -/
def lineGlyphs (truncate : Bool) (x : Galley) (e : LineEnd) : List SetGlyph :=
  placeItems truncate e.items (lineSpacing x e).widths (lineSpacing x e).offset

/-- The line record (R67). -/
def lineRecord (truncate : Bool) (g : GalleyId) (x : Galley) (e : LineEnd) : LineRecord :=
  let glyphs := lineGlyphs truncate x e
  { galley := g, seq := x.seq, depth := (x.leading : Int) - x.pendingReverse, flags := lineFlags x e glyphs,
    glyphs := glyphs, film := x.mode.usesFilm, proof := x.mode.usesProof, filmProgress := .notBegun,
    proofProgress := .notBegun }

/-- The builder after a commit: emptied, with the carried glyphs as the current word of a newly opened line (R68). -/
def builderAfter (x : Galley) (e : LineEnd) : Builder :=
  { Builder.blank with
    isOpen := e.carry != []
    latched := if e.carry = [] then x.builder.latched else latchFrom x
    word := e.carry
    marks := e.marks
    afterBreak := e.afterBreak
    hyphCount := if e.hyphenBreak then min 255 (x.builder.hyphCount + 1) else 0 }

def LineItem.usesSlot (i : FontSlot) : LineItem → Bool
  | .glyph g => g.slot == i
  | .space _ => false

/-- The partial line and the current word hold a glyph of the slot (R8, R49). -/
def Builder.usesSlot (b : Builder) (i : FontSlot) : Bool :=
  b.items.any (LineItem.usesSlot i) || b.word.any fun g => g.slot == i

/-- The slots of the partial line and current word. -/
def Builder.slots (b : Builder) : List FontSlot := (List.finRange 32).filter b.usesSlot

def engineIdle (s : State) : State := s.modEngine fun e => { e with state := .idle }

/-- The commit: the record, the galley, the report, and the end of the service (R67, R68). Without a free slot it waits
(log 36). -/
def commit (g : GalleyId) (e : LineEnd) (s : State) : State :=
  match s.freeSlot with
  | none => s
  | some i =>
    let x := s.galley g
    let r := lineRecord s.truncates g x e
    let b := builderAfter x e
    let s1 := (putLine i r s).modGalley g fun x =>
      { x with pendingReverse := 0, seq := x.seq + 1, sticky := x.sticky ||| r.flags.sticky, builder := b }
    engineIdle (commitReport r.fontSlots (x.builder.slots.filter fun k => !b.usesSlot k) s1)

/-! ### Settling a word (R57 to R61) -/

/-- The tests of R57: the width and the glyph cap. -/
def fitsWidth (b : Builder) : Bool := b.nMin + gapMin b.gap + wordWidth b.word ≤ b.latched.measure
def fitsCap (b : Builder) : Bool := b.glyphCount + b.word.length ≤ 240

/-- The word is placed whole (R57). -/
def placeWord (b : Builder) : Builder :=
  { b with
    items := b.items ++ b.gap.map .space ++ b.word.map .glyph
    n := b.n + gapOpt b.gap + wordWidth b.word
    nMin := b.nMin + gapMin b.gap + wordWidth b.word
    nMax := b.nMax + gapMax b.gap + wordWidth b.word
    glyphCount := b.glyphCount + b.word.length
    spaceCount := b.spaceCount + (b.gap.filter BSpace.isInterword).length
    gap := []
    word := []
    marks := [] }

/-- The first `j` glyphs of the word as the end of a line, with the hyphen glyph unless glyph `j` is a hard hyphen
(R58). -/
def divided (s : State) (w : List BGlyph) (j : Nat) : List BGlyph :=
  match w[j - 1]? with
  | some g =>
    if isHyphen s g then w.take (j - 1) ++ [naturalGlyph g]
    else w.take (j - 1) ++ [kernGlyph s g s.hyphenCode, measureGlyph s g.slot g.size g.track s.hyphenCode]
  | none => w

/-- The line candidate passes: Nmin at most M and at most 240 glyphs (R58). -/
def candidateFits (s : State) (b : Builder) (c : Candidate) : Bool :=
  let p := divided s b.word c.j
  decide (b.nMin + gapMin b.gap + wordWidth p ≤ b.latched.measure ∧ b.glyphCount + p.length ≤ 240)

/-- The rightmost candidate that passes (R58). -/
def bestCandidate (s : State) (b : Builder) (cs : List Candidate) : Option Candidate :=
  cs.reverse.find? (candidateFits s b)

/-- The marks among the glyphs after place `j` (R58, R90). -/
def carriedMarks (marks : List Nat) (j len : Nat) : List Nat :=
  (marks.filter fun m => decide (j < m ∧ m < len)).map (· - j)

/-- A line divided at a candidate (R58, R98). -/
def dividedEnd (s : State) (b : Builder) (c : Candidate) : LineEnd :=
  { items := b.items ++ b.gap.map .space ++ (divided s b.word c.j).map .glyph, byBreak := true, hyphenBreak := true,
    flags := { hyphenated := true, doubtful := c.source == .rule }, carry := b.word.drop c.j,
    marks := carriedMarks b.marks c.j b.word.length, afterBreak := false }

/-- A line committed without the word (R59). CROWDED when the glyph cap alone failed. -/
def withoutEnd (b : Builder) : LineEnd :=
  { items := b.items, byBreak := true, hyphenBreak := false, flags := { crowded := fitsWidth b }, carry := b.word,
    marks := carriedMarks b.marks 0 b.word.length, afterBreak := false }

/-- The first `k` glyphs with glyph `k` at its natural advance (R60). -/
def prefixGlyphs (w : List BGlyph) (k : Nat) : List BGlyph :=
  match w[k - 1]? with
  | some g => w.take (k - 1) ++ [naturalGlyph g]
  | none => w

/-- The largest `k` that fits after the leading gap, and 1 if none does (R60). -/
def cutPlace (b : Builder) : Nat :=
  ((((List.range b.word.length).map (· + 1)).reverse).find? fun k =>
    decide (gapMin b.gap + wordWidth (prefixGlyphs b.word k) ≤ b.latched.measure)).getD 1

/-- A word cut without a hyphen on an empty line (R60, R61). -/
def oversetEnd (b : Builder) : LineEnd :=
  let k := cutPlace b
  { items := b.gap.map .space ++ (prefixGlyphs b.word k).map .glyph, byBreak := true, hyphenBreak := false,
    flags := { overset := true }, carry := b.word.drop k, marks := carriedMarks b.marks k b.word.length,
    afterBreak := b.word.drop k == [] }

/-- The end of the line after the break search (R58 to R60). -/
def searchEnd (s : State) (b : Builder) (cs : List Candidate) : LineEnd :=
  match bestCandidate s b cs with
  | some c => dividedEnd s b c
  | none => if b.glyphCount = 0 then oversetEnd b else withoutEnd b

/-- The break search with its candidate list. -/
def breakSearch (g : GalleyId) (cs : List Candidate) (s : State) : State :=
  commit g (searchEnd s (s.galley g).builder cs) s

/-- The engine presents a lookup and waits in LOOKUP (R92). -/
def presentLookup (g : GalleyId) (core : List Nat) (s : State) : State :=
  (s.modDict fun d => { d with presentedLookup := some { galley := g, core := core } }).modEngine
    fun e => { e with state := .lookup g }

/-- The settle (R57, R58). -/
def settle (g : GalleyId) (s : State) : State :=
  let b := (s.galley g).builder
  if fitsWidth b && fitsCap b then s.modBuilder g placeWord
  else
    match lookupCore s b with
    | some core => presentLookup g core s
    | none => breakSearch g (candidates s b) s

/-! ### Choosing a galley (R44, R45, R47) -/

/-- R44. -/
def State.eligible (g : GalleyId) (s : State) : Bool :=
  let x := s.galley g
  x.state == .opened && (headItem x.buffer).isSome && decide (1 ≤ x.priority) && s.mayCommit g

/-- The order g+1, g+2, …, g+8 modulo 8 (R45). -/
def roundFrom (g : GalleyId) : List GalleyId :=
  (List.range 8).map fun k => ⟨(g.val + 1 + k) % 8, Nat.mod_lt _ (by decide)⟩

/-- The galley that an arbitration chooses (R45). -/
def State.arbitration (s : State) : Option GalleyId :=
  let es := (roundFrom s.engine.lastServed).filter fun g => s.eligible g
  let top := es.foldl (fun m g => max m (s.galley g).priority) 0
  es.find? fun g => (s.galley g).priority == top

/-- An arbitration of the idle engine. -/
def tryArbitrate (s : State) : Option State :=
  if s.engine.state = .idle then
    s.arbitration.map fun g => s.modEngine fun _ => { state := .serving g, lastServed := g }
  else none

/-- A service that has no complete item, or no open galley, ends (R47). -/
def tryEndService (s : State) : Option State :=
  match s.engine.state with
  | .serving g =>
    if (s.galley g).state = .opened ∧ (headItem (s.galley g).buffer).isSome then none else some (engineIdle s)
  | _ => none

/-! ### Emptying (R48) and the composition reset (R69) -/

/-- The line builder is emptied at a cancel, with the report of its partial references. -/
def emptyBuilder (g : GalleyId) (s : State) : State :=
  partialGone (s.galley g).builder.slots (s.modBuilder g fun _ => Builder.blank)

def engineReset (s : State) : State := s.modEngine fun _ => Engine.powerOn

end Sys2Proof.Machine
end

