-- ==== Sys2Proof/Machine/Dictionary.lean ====
section
/-! DEFINITION. The Exception Dictionary (spec 04): buckets, the arbiter, lookups, and the effect of each operation. -/

namespace Sys2Proof.Machine

/-! ### Buckets and entries (R70, R72) -/

/-- "h = (1 × letter_1 + 2 × letter_2 + … + L × letter_L) mod 512". -/
def bucketOf (w : List Nat) : Fin 512 :=
  ⟨((w.zipIdx 1).map fun (l, i) => i * l).sum % 512, Nat.mod_lt _ (by decide)⟩

def chainOf (w : List Nat) (chains : Vector (List Entry) 512) : List Entry := vget chains (bucketOf w)

def findEntry (w : List Nat) (chains : Vector (List Entry) 512) : Option Entry :=
  (chainOf w chains).find? fun e => e.word == w

/-- The number of entries held. -/
def entryCount (chains : Vector (List Entry) 512) : Nat := (chains.toList.map (·.length)).sum

/-- A new entry at the head of its word's chain. -/
def insertEntry (e : Entry) (chains : Vector (List Entry) 512) : Vector (List Entry) 512 :=
  vset chains (bucketOf e.word) (e :: chainOf e.word chains)

/-- The entry of a word replaced at its place. -/
def replaceEntry (e : Entry) (chains : Vector (List Entry) 512) : Vector (List Entry) 512 :=
  vset chains (bucketOf e.word) ((chainOf e.word chains).map fun x => if x.word = e.word then e else x)

def removeEntry (w : List Nat) (chains : Vector (List Entry) 512) : Vector (List Entry) 512 :=
  vset chains (bucketOf w) ((chainOf w chains).filter fun x => x.word != w)

/-- What a composition lookup answers (R76). -/
def answerOf (core : List Nat) (chains : Vector (List Entry) 512) : LookupAnswer :=
  match findEntry core chains with
  | some e =>
    match e.kind with
    | .allow => .allow e.positions
    | .never => .never
  | none => .absent

/-! ### The arbiter (R73, R74) -/

/-- A channel presents a dictionary request. -/
def present (ch : ChannelId) (r : Request) (s : State) : State :=
  s.modDict fun d => { d with presented := vset d.presented ch (some r) }

def setRunning (j : Option DictJob) (s : State) : State := s.modDict fun d => { d with running := j }

/-- PURGE DESK passes its checks (R82). -/
def purgeAllowed (r : Request) (s : State) : Bool := !s.writeProtect && decide (r.block.target.toNat ≤ 15)

/-- The operation that the taking of a channel request begins. A purge that passes its checks begins with bucket 0. -/
def beginRequest (ch : ChannelId) (r : Request) (s : State) : State :=
  if r.code = 0x24 ∧ purgeAllowed r s then
    s.modDict fun d =>
      { d with purge := some { channel := ch, tag := r.block.target.toNat, next := 0, removed := 0 },
               running := some .bucket }
  else setRunning (some (.request ch r s.writeProtect s.codeMap)) s

/-- The presented request of a channel is granted. -/
def grantChannel (ch : ChannelId) (s : State) : State :=
  match vget s.dict.presented ch with
  | some r =>
    beginRequest ch r (s.modDict fun d =>
      { d with presented := vset d.presented ch none, lastKind := .channel, lastChannel := ch })
  | none => s

/-- The next bucket operation of a purge is granted. -/
def grantBucket (p : Purge) (s : State) : State :=
  s.modDict fun d => { d with running := some .bucket, lastKind := .channel, lastChannel := p.channel }

/-- The composition lookup is granted. -/
def grantLookup (l : Lookup) (s : State) : State :=
  s.modDict fun d =>
    { d with running := some (.lookup l.core true), presentedLookup := none, lastKind := .composition }

/-- The channel other than a given one. -/
def otherChannel (ch : ChannelId) : ChannelId := if ch = 0 then 1 else 0

/-- The channel-kind grant, if there is a candidate of that kind (R74). -/
def channelGrant (s : State) : Option State :=
  let other := otherChannel s.dict.lastChannel
  match s.dict.purge with
  | some p => some (grantBucket p s)
  | none =>
    if (vget s.dict.presented other).isSome then some (grantChannel other s)
    else if (vget s.dict.presented s.dict.lastChannel).isSome then some (grantChannel s.dict.lastChannel s)
    else none

/-- One grant of the free dictionary (R74). -/
def tryGrant (s : State) : Option State :=
  match s.dict.running, s.dict.presentedLookup with
  | some _, _ => none
  | none, none => channelGrant s
  | none, some l =>
    match s.dict.lastKind with
    | .channel => some (grantLookup l s)
    | .composition => (channelGrant s).orElse fun _ => some (grantLookup l s)

/-! ### The operations (R77 to R82) -/

/-- The entries of ADD WORDS in payload order, from the `added`-th on: the completion, the number added, and the chains
(R78). -/
def addEntries (m : Vector Byte 96) (tag : Nat) :
    Nat → Nat → List Byte → Vector (List Entry) 512 → Completion × Nat × Vector (List Entry) 512
  | 0, added, _, chains => (.done, added, chains)
  | n + 1, added, p, chains =>
    match takeEntry m tag p with
    | none => (.badArgument, added, chains)
    | some (e, rest) =>
      if (findEntry e.word chains).isSome then (.alreadyExists, added, chains)
      else if entryCount chains ≥ 2048 then (.full, added, chains)
      else addEntries m tag n (added + 1) rest (insertEntry e chains)

def setChains (c : Vector (List Entry) 512) (s : State) : State := s.modDict fun d => { d with chains := c }

/-- R78. A payload without its entry count is refused as one that ends inside an entry (log 23). -/
def completeAddWords (ch : ChannelId) (b : Block) (prot : Bool) (m : Vector Byte 96) (s : State) : State :=
  if prot then finish ch .isProtected 0 s
  else if b.target.toNat > 15 ∨ b.payload.length < 2 then finish ch .badArgument 0 s
  else
    let (c, added, chains) := addEntries m b.target.toNat (u16 b.payload 0) 0 (b.payload.drop 2) s.dict.chains
    finish ch c added (setChains chains s)

/-- R79. -/
def completeAmendWord (ch : ChannelId) (b : Block) (prot : Bool) (m : Vector Byte 96) (s : State) : State :=
  if prot then finish ch .isProtected 0 s
  else if b.target.toNat > 15 then refuse ch .badArgument s
  else
    match takeEntry m b.target.toNat b.payload with
    | some (e, []) =>
      match findEntry e.word s.dict.chains with
      | some old => finish ch .done old.tag (setChains (replaceEntry e s.dict.chains) s)
      | none => refuse ch .notFound s
    | _ => refuse ch .badArgument s

/-- R80. -/
def completeDeleteWord (ch : ChannelId) (b : Block) (prot : Bool) (m : Vector Byte 96) (s : State) : State :=
  if prot then finish ch .isProtected 0 s
  else
    match parseWord m b.payload with
    | none => refuse ch .badArgument s
    | some w =>
      match findEntry w s.dict.chains with
      | some e => finish ch .done e.tag (setChains (removeEntry w s.dict.chains) s)
      | none => refuse ch .notFound s

/-- The whole reply at NOT_FOUND, and the head of the reply at DONE (10.7). -/
def lookupHead (w : List Nat) (chains : Vector (List Entry) 512) : List Byte :=
  le16 (chainOf w chains).length ++ le16 (entryCount chains)

/-- The place of a word in its chain, 1 for the head. -/
def chainPlace (w : List Nat) (chains : Vector (List Entry) 512) : Nat :=
  (((chainOf w chains).findIdx? fun e => e.word == w).getD 0) + 1

def EntryKind.toNat : EntryKind → Nat
  | .allow => 0
  | .never => 1

/-- The positions of an entry as the reply gives them: a count followed by that many position bytes. -/
def positionsBytes (ps : List Nat) : List Byte := byteOf ps.length :: ps.map byteOf

def entryReply (e : Entry) (chains : Vector (List Entry) 512) : List Byte :=
  lookupHead e.word chains ++ le16 (chainPlace e.word chains) ++
  [byteOf e.kind.toNat, byteOf e.tag, byteOf e.word.length] ++ e.word.map byteOf ++ positionsBytes e.positions

/-- R81. -/
def completeLookUpWord (ch : ChannelId) (b : Block) (m : Vector Byte 96) (s : State) : State :=
  match parseWord m b.payload with
  | none => finish ch .badArgument 0 s
  | some w =>
    let c := s.dict.chains
    match findEntry w c with
    | some e => complete ch .done (BitVec.ofNat 16 (bucketOf w).val) (entryReply e c) s
    | none => complete ch .notFound (BitVec.ofNat 16 (bucketOf w).val) (lookupHead w c) s

/-- A PURGE DESK that failed a check (R77, R82, log 35). -/
def completeRefusedPurge (ch : ChannelId) (prot : Bool) (s : State) : State :=
  if prot then finish ch .isProtected 0 s else refuse ch .badArgument s

/-- The end of a channel request's operation. -/
def completeRequest (ch : ChannelId) (r : Request) (prot : Bool) (m : Vector Byte 96) (s : State) : State :=
  match r.code.toNat with
  | 0x20 => completeAddWords ch r.block prot m s
  | 0x21 => completeAmendWord ch r.block prot m s
  | 0x22 => completeDeleteWord ch r.block prot m s
  | 0x23 => completeLookUpWord ch r.block m s
  | _ => completeRefusedPurge ch prot s

/-- The bucket that a purge works on. -/
def Purge.bucket (p : Purge) : Fin 512 := ⟨p.next % 512, Nat.mod_lt _ (by decide)⟩

/-- The end of a bucket operation (R82). -/
def completeBucket (p : Purge) (s : State) : State :=
  let chain := vget s.dict.chains p.bucket
  let kept := chain.filter fun e => e.tag != p.tag
  let removed := p.removed + (chain.length - kept.length)
  let s1 := setChains (vset s.dict.chains p.bucket kept) s
  if p.next ≥ 511 then finish p.channel .done removed (s1.modDict fun d => { d with purge := none })
  else s1.modDict fun d => { d with purge := some { p with next := p.next + 1, removed := removed } }

/-- The answer reaches the engine that waits for it: the list is finished and the break search runs (R92). A lookup that
is no longer wanted is discarded (R76). -/
def deliverAnswer (core : List Nat) (s : State) : State :=
  match s.engine.state with
  | .lookup g =>
    let s1 := s.modEngine fun e => { e with state := .serving g }
    breakSearch g (answeredCandidates s1 (s1.galley g).builder (answerOf core s1.dict.chains)) s1
  | _ => s

/-- The end of the operation that runs. -/
def completeOperation (s : State) : State :=
  let s1 := setRunning none s
  match s.dict.running with
  | none => s
  | some (.lookup core wanted) => if wanted then deliverAnswer core s1 else s1
  | some (.request ch r prot m) => completeRequest ch r prot m s1
  | some .bucket =>
    match s.dict.purge with
    | some p => completeBucket p s1
    | none => s1

/-! ### Composition reset (R75, R76, R84) -/

def dictionaryReset (s : State) : State :=
  s.modDict fun d =>
    { d with
      presentedLookup := none
      running := match d.running with
        | some (.lookup core _) => some (.lookup core false)
        | other => other }

end Sys2Proof.Machine
end

