-- ==== Sys2Proof/Machine/Photo.lean ====
section
/-! DEFINITION. The Photo Unit (spec 07): disc timing and lock, the flash, the drives of turret, lens, carriage and
shutter, the visits of VERIFY STATIONS, and the reply of QUERY PHOTO UNIT. -/

namespace Sys2Proof.Machine

/-! ### Times in ticks -/

/-- The noise rejection time: the low four bits of 06H, times 8 (R116). -/
def State.rejectionTime (s : State) : Nat := (s.setting 0x06 % 16) * 8
def State.turretTime (s : State) : Nat := s.setting1 0x08 * mechUnit
def State.lensTime (s : State) : Nat := s.setting1 0x09 * mechUnit
def State.lockTime (s : State) : Nat := s.setting1 0x0B * mechUnit
def State.carriagePeriod (s : State) : Nat := s.setting1 0x0C * 4
def State.rechargeTime (s : State) : Nat := s.setting 0x07 * 64

/-! ### Disc timing and lock (R117 to R120) -/

/-- The count of ticks stays at 2^24 - 1 (R118). -/
def maxCount : Nat := 16777215

/-- Ticks pass on the count since the last index pulse; before the first pulse there is none (R118). -/
def advanceCount (n : Nat) (s : State) : State :=
  s.modPhoto fun p => { p with count := if p.counting then min maxCount (p.count + n) else p.count }

def Turret.isMoving : Turret → Bool
  | .moving _ _ => true
  | _ => false

/-- Conditions 1 to 4 of R119, for the period `t` measured at the pulse. -/
def cleanPulse (t : Nat) (s : State) : Bool :=
  s.photo.counting && s.photo.slotCount == 96 && decide (distance t s.tNom * 50 ≤ s.tNom) && !s.photo.disturbed

/-- The table of R119. -/
def nextDisc (d : DiscState) (clean : Bool) : DiscState :=
  match clean, d with
  | false, _ => .unlocked
  | true, .unlocked => .proving
  | true, .proving => .locked
  | true, .locked => .locked

/-- The lock watch is started or restarted; with the disc LOCKED it stops in the same event (R129). -/
def startLockWatch (s : State) : State :=
  s.modPhoto fun p => { p with lockWatch := if p.disc = .locked then none else some s.lockTime }

/-- The disc goes to UNLOCKED by an index pulse or the index timeout. From LOCKED this cancels a running delay and
starts the lock watch (R119, R120). -/
def loseLock (s : State) : State :=
  if s.photo.disc = .locked then
    startLockWatch (s.modPhoto fun p => { p with disc := .unlocked, delay := none })
  else s.modPhoto fun p => { p with disc := .unlocked }

/-- The lock test at an index pulse (R119). A pulse that takes the disc from PROVING to LOCKED stops the lock watch. -/
def lockTest (clean : Bool) (s : State) : State :=
  match nextDisc s.photo.disc clean with
  | .unlocked => loseLock s
  | .proving => s.modPhoto fun p => { p with disc := .proving }
  | .locked => s.modPhoto fun p => { p with disc := .locked, lockWatch := none }

/-- An index pulse (R117, R118, R119, R120). -/
def indexPulse (s : State) : State :=
  let t := if s.photo.counting then s.photo.count else s.photo.period
  let s1 := lockTest (cleanPulse t s) s
  s1.modPhoto fun p =>
    { p with
      period := t, count := 0, counting := true, slotCount := 0, disturbed := p.disturbed && p.turret.isMoving,
      indexTimer := some (2 * s.tNom) }

/-- The start of a turret move, commanded or not (R120, R124, R129). -/
def turretMoveStart (s : State) : State :=
  s.modPhoto fun p =>
    { p with disc := .unlocked, disturbed := true, delay := none, lockWatch := none, latched := none }

/-! ### The flash (R121 to R124) -/

/-- The flash conditions of R122. -/
def flashConditions (q : FlashRequest) (s : State) : Bool :=
  s.photo.disc == .locked &&
  (match (s.font q.slot).placement with
   | some p =>
     s.photo.turret == .standing (s.stationMap p.station) && (s.font q.slot).verification == .verified &&
     s.photo.shutter == p.track
   | none => false) &&
  s.photo.lens == .standing q.lens && s.photo.carriage == .settled && s.photo.position == q.x &&
  s.photo.lamp == .ready && s.lidClosed

/-- "delay = floor((φ × T + 12,288) / 24,576) ticks" (R122). -/
def flashDelay (phi t : Nat) : Nat := (phi * t + 12288) / 24576

/-- The arrival of slot `g`: the armed request for that code starts its delay if the conditions hold (R122). -/
def slotArrival (g : Nat) (s : State) : State :=
  match s.photo.flash with
  | some q =>
    if q.code.val = g ∧ s.photo.delay = none ∧ flashConditions q s then
      s.modPhoto fun p => { p with delay := some (flashDelay (s.setting 0x03) p.period) }
    else s
  | none => s

/-- A slot pulse (R117). -/
def slotPulse (s : State) : State :=
  let c := min 255 (s.photo.slotCount + 1)
  let s1 := s.modPhoto fun p => { p with slotCount := c }
  if c ≤ 96 then slotArrival (c - 1) s1 else s1

/-- The flash request is withdrawn and its delay cancelled (R121, R124). -/
def withdrawFlash (s : State) : State := s.modPhoto fun p => { p with flash := none, delay := none }

/-- A flash request is armed (R121). -/
def armFlash (q : FlashRequest) (s : State) : State := s.modPhoto fun p => { p with flash := some q, delay := none }

/-- The lamp is triggered and begins to recharge (R123). -/
def fireLamp (s : State) : State :=
  (s.modPhoto fun p =>
    { p with flash := none, flashReported := true,
             lamp := if s.rechargeTime = 0 then .ready else .recharging s.rechargeTime }).pulse .lamp

/-! ### The turret (R126) -/

/-- A command to a physical station at which the turret does not stand: the move is driven. -/
def driveTurret (q : Station) (r : Requester) (s : State) : State :=
  ((turretMoveStart s).modPhoto fun p =>
      { p with turret := .moving (some q) (some r), turretTimer := some s.turretTime, turretExpired := false }).modDrives
    (fun d => { d with turretTarget := q }) |>.pulse (.turretMove q)

/-- The DISC_CODE lines are latched at a station and reported to the catalogue, without a move (R127 steps 1 and 3;
R132, R140). -/
def latchHere (q : Station) (s : State) : State :=
  verifyAt q s.discCodeLines (s.modPhoto fun p => { p with latched := some s.discCodeLines })

/-- The arrival of the turret at station `q` with the code on the lines (R127). -/
def turretArrives (q : Station) (code : BitVec 4) (s : State) : State :=
  startLockWatch
    (verifyAt q code
      (s.modPhoto fun p => { p with latched := some code, turret := .standing q, turretTimer := none }))

/-! ### The lens (R130), the carriage (R131) and the shutter (R125) -/

/-- The lowest-numbered position of the lens table whose size equals the glyph's (R140). -/
def State.lensFor (size : Nat) (s : State) : Option LensPos :=
  (List.finRange 8).find? fun p => s.lensSize p != 0 && s.lensSize p == size

def driveLens (p : LensPos) (s : State) : State :=
  ((s.modPhoto fun x => { x with lens := .moving p, lensTimer := some s.lensTime, lensExpired := false }).modDrives
    fun d => { d with lensTarget := p }).pulse (.lensMove p)

/-- A carriage command (R131). Where the position equals the target the carriage is SETTLED. -/
def commandCarriage (x : Nat) (s : State) : State :=
  let t := min 17280 x
  match s.photo.carriage with
  | .homing n _ => s.modPhoto fun p => { p with carriage := .homing n (some t) }
  | .settled =>
    if s.photo.position = t then s
    else s.modPhoto fun p => { p with carriage := .stepping t, carriageTimer := some s.carriagePeriod }
  | .stepping _ =>
    if s.photo.position = t then s.modPhoto fun p => { p with carriage := .settled, carriageTimer := none }
    else s.modPhoto fun p => { p with carriage := .stepping t }

/-- The carriage is SETTLED at `x`. -/
def State.settledAt (x : Nat) (s : State) : Bool :=
  s.photo.carriage == .settled && s.photo.position == min 17280 x

/-- The end of the home run (R131): SETTLED at 0, or stepping toward the target that a command left. -/
def endHoming (target : Option Nat) (s : State) : State :=
  match target with
  | some (t + 1) =>
    s.modPhoto fun p => { p with position := 0, carriage := .stepping (t + 1), carriageTimer := some s.carriagePeriod }
  | _ => s.modPhoto fun p => { p with position := 0, carriage := .settled, carriageTimer := none }

/-- The step pulse, with the direction line set accordingly. -/
def pulseCarriage (forward : Bool) (s : State) : State :=
  (s.modDrives fun d => { d with carriageForward := forward }).pulse (.carriageStep forward)

/-- One step of the carriage (R131). -/
def stepCarriage (s : State) : State :=
  match s.photo.carriage with
  | .homing n target =>
    let s1 := pulseCarriage false s
    if n ≤ 1 then endHoming target s1
    else s1.modPhoto fun p => { p with carriage := .homing (n - 1) target, carriageTimer := some s.carriagePeriod }
  | .stepping t =>
    let forward : Bool := s.photo.position < t
    let pos := if forward then s.photo.position + 1 else s.photo.position - 1
    let s1 := pulseCarriage forward s
    if pos = t then s1.modPhoto fun p => { p with position := pos, carriage := .settled, carriageTimer := none }
    else s1.modPhoto fun p => { p with position := pos, carriageTimer := some s.carriagePeriod }
  | .settled => s.modPhoto fun p => { p with carriageTimer := none }

def setShutter (t : Track) (s : State) : State := s.modPhoto fun p => { p with shutter := t }

/-! ### VERIFY STATIONS (R132) -/

/-- Whether a LIVE or RETIRING record is placed at a logical station that maps to `q`, and satisfies `f`. -/
def State.anyPlacedAt (q : Station) (f : FontRecord → Bool) (s : State) : Bool :=
  (List.finRange 32).any fun i =>
    let r := s.font i
    r.inUse && (r.placement.any fun p => s.stationMap p.station == q) && f r

/-- The visit list: ascending physical stations with a placed record. -/
def State.visitList (s : State) : List Station := (List.finRange 4).filter fun q => s.anyPlacedAt q fun _ => true

def stationBit (q : Station) : BitVec 4 := 1#4 <<< q.val

/-- The MISMATCH mask after a visit that reached `q`. -/
def maskMismatch (q : Station) (m : BitVec 4) (s : State) : BitVec 4 :=
  if s.anyPlacedAt q fun r => r.verification == .mismatch then m ||| stationBit q else m

def setVerify (v : Option VerifyRun) (s : State) : State := s.modPhoto fun p => { p with verify := v }

/-- The visits from the head of the list on: stations at which the turret stands are visited at once, the first other
one is commanded, and an empty list completes the request. -/
def visit (ch : ChannelId) : List Station → BitVec 4 → BitVec 4 → State → State
  | [], m, n, s => finish ch .done (n.toNat * 256 + m.toNat) (setVerify none s)
  | q :: rest, m, n, s =>
    if s.photo.turret = .standing q then
      let s1 := latchHere q s
      visit ch rest (maskMismatch q m s1) n s1
    else driveTurret q .verify (setVerify (some { channel := ch, visits := q :: rest, mismatch := m, notReached := n }) s)

/-- The visit under way ends, correctly or not. -/
def visitEnds (reached : Bool) (s : State) : State :=
  match s.photo.verify with
  | some { channel := ch, visits := q :: rest, mismatch := m, notReached := n } =>
    if reached then visit ch rest (maskMismatch q m s) n s else visit ch rest m (n ||| stationBit q) s
  | _ => s

/-! ### QUERY PHOTO UNIT (R133; 10.7) -/

def DiscState.toNat : DiscState → Nat
  | .unlocked => 0
  | .proving => 1
  | .locked => 2

def turretBytes (s : State) : List Byte :=
  match s.photo.turret with
  | .unknown => 0 :: unstated s 12 1
  | .standing q => [1, byteOf q.val]
  | .moving (some q) _ => [2, byteOf q.val]
  | .moving none _ => 2 :: unstated s 12 1

/-- FFH stands for no position. -/
def lensBytes (s : State) : List Byte :=
  match s.photo.lens with
  | .unknown => [0, 0xFF]
  | .standing p => [1, byteOf p.val]
  | .moving p => [2, byteOf p.val]

def carriageBytes (s : State) : List Byte :=
  match s.photo.carriage with
  | .homing _ none => 0 :: (le16 s.photo.position ++ unstated s 19 2)
  | .homing _ (some t) => 0 :: (le16 s.photo.position ++ le16 t)
  | .stepping t => 1 :: (le16 s.photo.position ++ le16 t)
  | .settled => 2 :: (le16 s.photo.position ++ unstated s 19 2)

def flashBytes (s : State) : List Byte :=
  match s.photo.flash with
  | some q => [byteOf q.code.val, byteOf q.slot.val, byteOf q.lens.val] ++ le16 q.x
  | none => unstated s 23 1 ++ [0xFF, 0xFF] ++ unstated s 26 2

def photoReply (s : State) : List Byte :=
  let p := s.photo
  [byteOf p.disc.toNat,
   byteOf (bitByte p.disturbed 0 + bitByte (p.turret.isMoving && p.turretExpired) 1 + bitByte p.latched.isSome 2 +
     bitByte p.flash.isSome 3 + bitByte p.delay.isSome 4 + bitByte p.lockWatch.isSome 5 + bitByte p.verify.isSome 6)] ++
  le32 p.period ++ le32 s.tNom ++ [byteOf p.slotCount] ++ turretBytes s ++
  (match p.latched with
   | some c => [byteOf c.toNat]
   | none => unstated s 13 1) ++
  lensBytes s ++ carriageBytes s ++ [byteOf p.shutter.val, byteOf (if p.lamp = .ready then 0 else 1)] ++ flashBytes s

def takeQueryPhoto (ch : ChannelId) (s : State) : State := reply ch s.photo.disc.toNat (photoReply s) s

/-! ### Composition reset (R134) -/

def Turret.withdrawExposure : Turret → Turret
  | .moving t (some .exposure) => .moving t none
  | t => t

/-- The request is withdrawn, the delay cancelled, the lock watch stopped; a recharge ends with no report, and a move
of Exposure Control ends with no requester. -/
def photoReset (s : State) : State :=
  s.modPhoto fun p =>
    { p with flash := none, delay := none, lockWatch := none, flashReported := false,
             turret := p.turret.withdrawExposure }

end Sys2Proof.Machine
end

