-- ==== Sys2Proof/Machine/Exposure.lean ====
section
/-! DEFINITION. Exposure Control and Film Transport (spec 08). -/

namespace Sys2Proof.Machine

/-! ### The exposure state (R135) -/

def ExposureWork.isLine : ExposureWork → Bool
  | .line _ => true
  | _ => false

/-- The state of Exposure Control. -/
def Exposure.state (e : Exposure) : ExposureState :=
  if e.hold.isSome then .held
  else
    match e.work with
    | .none => .idle
    | .line _ => .line
    | .gap _ | .cut _ _ => .filmEnd
    | .advanceFilm _ _ | .cutFilm _ _ => .freeMove

/-- Hold reasons (10.6). -/
def HoldReason.code : HoldReason → Nat
  | .filmOut => 1
  | .cassetteOut => 2
  | .lidOpen => 3
  | .fontUnplaced => 4
  | .discMismatch => 5
  | .turretJam => 6
  | .lensJam => 7
  | .discFault => 8
  | .cutJam => 9

def setWork (w : ExposureWork) (s : State) : State := s.modExposure fun e => { e with work := w }

/-- The line in exposure, at a step. -/
def setStep (l : LineWork) (st : LineStep) (s : State) : State := setWork (.line { l with step := st }) s

def stopFilm (s : State) : State := s.modFilm fun f => { f with move := none, timer := none }

/-- A hold is taken in the event of its cause (R144). While HELD, a further cause changes nothing. -/
def takeHold (r : HoldReason) (s : State) : State :=
  if s.exposure.hold.isSome then s
  else
    ((stopFilm (withdrawFlash s)).modExposure fun e => { e with hold := some r, cutTimer := none }).raise .expHold

/-! ### Film Transport (R138, R147) -/

/-- Film low: "while a cassette is loaded and the film remaining is less than the low film threshold" (R147). -/
def State.filmLow (s : State) : Bool :=
  s.film.loaded && decide (s.film.length - s.film.deepest < s.setting 0x0F * 1440)

/-- Low film is judged: FILM_LOW is raised in the event in which film becomes low (R147, log 29). -/
def judgeLow (s : State) : State :=
  if s.filmLow && !s.film.lowNoted then (s.modFilm fun f => { f with lowNoted := true }).raise .filmLow else s

def State.filmPeriod (s : State) : Nat := s.setting1 0x0D * 64

/-- A film move begins (R138). -/
def startFilm (forward : Bool) (n : Nat) (s : State) : State :=
  (s.modFilm fun f => { f with move := some { forward := forward, remaining := n }, timer := some s.filmPeriod }).modDrives
    fun d => { d with filmForward := forward }

/-- One step of the film, less what follows a last step. -/
def moveFilm (m : FilmMove) (s : State) : State :=
  let pos := if m.forward then s.film.position + 1 else s.film.position - 1
  let left := m.remaining - 1
  let s1 :=
    (s.modFilm fun f =>
      { f with
        position := pos, deepest := max f.deepest pos,
        move := if left = 0 then none else some { m with remaining := left },
        timer := if left = 0 then none else some s.filmPeriod }).pulse (.filmStep m.forward)
  if s.film.deepest < pos then judgeLow s1 else s1

/-! ### Glyph steps (R140 to R142) -/

/-- The glyph at the next glyph index, counted from 1. -/
def LineWork.glyph (l : LineWork) : Option SetGlyph := l.order[l.next - 1]?

/-- The line is done: its film is reported done and the state becomes IDLE (R142). -/
def lineDone (l : LineWork) (s : State) : State := filmDone l.slot (setWork .none s)

/-- The shutter sub-step and the arming (R141, R142). A placement that has gone meanwhile holds with FONT_UNPLACED at
the glyph decision (log 18). -/
def shutterStep (l : LineWork) (g : SetGlyph) (s : State) : State :=
  match (s.font g.slot).placement, s.lensFor g.size with
  | some p, some lens =>
    setStep l .armed (armFlash { code := g.code, slot := g.slot, lens := lens, x := g.x } (setShutter p.track s))
  | _, _ => takeHold .fontUnplaced (setStep l .decision s)

/-- The carriage sub-step. -/
def carriageStep (l : LineWork) (g : SetGlyph) (s : State) : State :=
  let s1 := commandCarriage g.x (setStep l .carriage s)
  if s1.settledAt g.x then shutterStep l g s1 else s1

/-- The lens sub-step, which the end of the turret sub-step begins. A size that no lens sets waits here (log 32). -/
def lensStep (l : LineWork) (g : SetGlyph) (s : State) : State :=
  let s1 := setStep l .lens (s.modExposure fun e => { e with turretAt := s.photo.turret.station })
  match s1.lensFor g.size with
  | some p => if s1.photo.lens = .standing p then carriageStep l g s1 else driveLens p s1
  | none => s1

/-- The turret sub-step with the placement's station (R141). When the command completes at once, the verification is
judged again. -/
def turretStep (l : LineWork) (g : SetGlyph) (p : Placement) (s : State) : State :=
  let s1 := setStep l .turret s
  let q := s1.stationMap p.station
  if s1.photo.turret = .standing q then
    if (s1.font g.slot).verification = .mismatch then takeHold .discMismatch (setStep l .decision s1)
    else lensStep l g s1
  else driveTurret q .exposure s1

/-- The rest of the glyph decision after check 4: check 3 again, then the disc fault note (R143, log 17). -/
def decidePlaced (l : LineWork) (g : SetGlyph) (p : Placement) (s : State) : State :=
  if (s.font g.slot).verification = .mismatch then takeHold .discMismatch s
  else if s.exposure.note ∧ s.photo.disc ≠ .locked then takeHold .discFault s
  else turretStep l g p (s.modExposure fun e => { e with note := false })

/-- The glyph decision (R140). -/
def glyphDecision (l : LineWork) (g : SetGlyph) (s : State) : State :=
  let s1 := setStep l .decision s
  if !s1.film.loaded then takeHold .cassetteOut s1
  else
    match (s1.font g.slot).placement with
    | none => takeHold .fontUnplaced s1
    | some p =>
      let q := s1.stationMap p.station
      if (s1.font g.slot).verification = .unverified ∧ s1.photo.turret = .standing q then
        decidePlaced l g p (latchHere q s1)
      else decidePlaced l g p s1

/-- The glyph step of the glyph at the next index, or the end of the line when none remains (R142). -/
def nextGlyph (l : LineWork) (s : State) : State :=
  match l.glyph with
  | some g => glyphDecision l g s
  | none => lineDone l s

/-! ### The film advance of a line (R137) -/

/-- Film moves that a line's advance makes: the number of steps after the clamp at the galley start. -/
def State.backSteps (n : Nat) (s : State) : Nat := min n (s.film.position - s.film.galleyStart)

/-- A line's advance is begun or retried with `n` steps to move. Of 0 steps it is complete at once (log 41). -/
def beginAdvance (l : LineWork) (forward : Bool) (n : Nat) (s : State) : State :=
  let s1 := setStep l (.advance forward n) s
  if n = 0 then nextGlyph l s1
  else if !s1.film.loaded then takeHold .cassetteOut s1
  else if forward then
    if s1.film.position + n > s1.film.length then takeHold .filmOut s1 else startFilm true n s1
  else
    let k := s1.backSteps n
    let s2 := if k < n then s1.addSticky l.galley stickyReverseClamped else s1
    if k = 0 then nextGlyph l s2 else startFilm false k (setStep l (.advance false k) s2)

/-! ### Taking a line (R136, R139) -/

/-- The group key of grouped order: physical station, none when unplaced, and lens position. -/
def groupKey (s : State) (g : SetGlyph) : Option Station × Option LensPos :=
  ((s.font g.slot).placement.map fun p => s.stationMap p.station, s.lensFor g.size)

/-- The glyphs in groups, ordered by the first glyph of each group (R139). -/
def groupGlyphs {κ : Type} [DecidableEq κ] (key : SetGlyph → κ) (gs : List SetGlyph) : List SetGlyph :=
  ((gs.map key).eraseDups).flatMap fun k => gs.filter fun g => decide (key g = k)

/-- The exposure order of a line (R139). -/
def exposureOrder (s : State) (gs : List SetGlyph) : List SetGlyph :=
  let flashed := gs.filter fun g => !g.absent
  if s.grouped then groupGlyphs (groupKey s) flashed else flashed

/-- Exposure Control takes the next film line (R136). -/
def takeLine (i : LineSlot) (r : LineRecord) (s : State) : State :=
  let l : LineWork :=
    { slot := i, galley := r.galley, seq := r.seq, order := exposureOrder s r.glyphs, next := 1, step := .decision }
  beginAdvance l (0 ≤ r.depth) (r.depth.natAbs * 10) (modLine i (fun r => { r with filmProgress := .inExposure }) s)

/-- Nothing is in exposure and nothing is held. -/
def State.exposureIdle (s : State) : Bool := s.exposure.work == .none && s.exposure.hold.isNone

def tryTakeLine (s : State) : Option State :=
  if s.exposureIdle && s.photo.verify.isNone then
    s.nextFilmLine.bind fun i => (s.lineAt i).map fun r => takeLine i r s
  else none

/-! ### The end action on film (R148) -/

/-- The film figures that were deferred to the end of a free move (R136). -/
def applyDeferred (s : State) : State :=
  if s.exposure.figuresDeferred then
    let s1 := s.modExposure fun e => { e with figuresDeferred := false }
    if s1.store.filmHolder.isSome then setFilmFigures s1 else s1
  else s

def State.cutTime (s : State) : Nat := s.setting1 0x0A * mechUnit

/-- The cut is begun or retried: the line is pulsed if CUTTER_HOME is true (R148 step 2, R151). -/
def startCut (work : CutPhase → ExposureWork) (s : State) : State :=
  let s1 := s.modExposure fun e =>
    { e with cutTimer := some s.cutTime, work := work (if s.cutterHome then .awaitFall else .awaitRise) }
  if s.cutterHome then s1.pulse .cut else s1

/-- The separation gap, begun or retried toward its target (R148 step 1). -/
def beginGap (target : Nat) (s : State) : State :=
  let s1 := setWork (.gap target) s
  if !s1.film.loaded then takeHold .cassetteOut s1
  else if target > s1.film.length then takeHold .filmOut s1
  else if target ≤ s1.film.position then startCut (.cut target) s1
  else startFilm true (target - s1.film.position) s1

def State.gapSteps (s : State) : Nat := s.setting 0x0E * 10

/-- The end action on film begins. -/
def tryFilmEnd (s : State) : Option State :=
  if s.exposureIdle then
    s.filmFinished.map fun _ =>
      beginGap (s.film.deepest + s.gapSteps) (s.modStore fun t => { t with filmEndBegun := true })
  else none

/-- The free move ends: the state becomes IDLE, the request completes, and deferred figures are set. -/
def endFreeMove (ch : ChannelId) (c : Completion) (detail : Nat) (s : State) : State :=
  applyDeferred (finish ch c detail
    ((stopFilm s).modExposure fun e => { e with work := .none, cutTimer := none }))

/-- The end of a film move (R137, R148, R150). -/
def filmMoveDone (s : State) : State :=
  match s.exposure.work with
  | .line l => nextGlyph l s
  | .gap t => startCut (.cut t) s
  | .advanceFilm ch clamped => endFreeMove ch (doneOr clamped) 0 s
  | _ => s

/-- The steps still to move are kept in the exposure record (R138). -/
def noteRemaining (m : FilmMove) (s : State) : State :=
  match s.exposure.work with
  | .line l => setStep l (.advance m.forward (m.remaining - 1)) s
  | _ => s

/-- One film step (R138). -/
def stepFilm (s : State) : State :=
  match s.film.move with
  | some m =>
    let s1 := noteRemaining m (moveFilm m s)
    if m.remaining ≤ 1 then filmMoveDone s1 else s1
  | none => stopFilm s

/-- CUTTER_HOME falls after the cut pulse (R148). Reports are not taken while HELD (R144, log 39). -/
def cutterFell (s : State) : State :=
  match s.exposure.work, s.exposure.hold with
  | .cut t .awaitFall, none => setWork (.cut t .awaitRise) s
  | .cutFilm ch .awaitFall, _ => setWork (.cutFilm ch .awaitRise) s
  | _, _ => s

def setGalleyStart (s : State) : State := s.modFilm fun f => { f with galleyStart := f.position }

/-- CUTTER_HOME rises: a cut that has fallen is complete (R148 step 3, R151). -/
def cutterRose (s : State) : State :=
  match s.exposure.work, s.exposure.hold with
  | .cut _ .awaitRise, none =>
    ((setGalleyStart s).modExposure fun e => { e with work := .none, cutTimer := none }).modStore
      fun t => { t with filmEndDone := true }
  | .cutFilm ch .awaitRise, _ => endFreeMove ch .done 0 (setGalleyStart s)
  | _, _ => s

/-- The cut timeout (R148, R151). -/
def cutTimedOut (s : State) : State :=
  let s1 := s.modExposure fun e => { e with cutTimer := none }
  match s1.exposure.work with
  | .cut _ _ => takeHold .cutJam s1
  | .cutFilm ch _ => endFreeMove ch .wrongState 1 s1
  | _ => s1

/-! ### Reports to Exposure Control (R141 to R145) -/

/-- The line in exposure when it is not held, with its glyph. -/
def State.activeGlyph (s : State) : Option (LineWork × SetGlyph) :=
  match s.exposure.work, s.exposure.hold with
  | .line l, none => l.glyph.map fun g => (l, g)
  | _, _ => none

/-- An arrival at the end of the turret sub-step (R141). A font that the arrival leaves UNVERIFIED is decided again
(log 18). -/
def turretReached (l : LineWork) (g : SetGlyph) (s : State) : State :=
  match (s.font g.slot).verification with
  | .mismatch => takeHold .discMismatch (setStep l .decision s)
  | .verified => lensStep l g s
  | .unverified => glyphDecision l g s

/-- The report of an arrival or a timeout to Exposure Control as the requester. -/
def turretReport (correct : Bool) (s : State) : State :=
  match s.activeGlyph with
  | some (l, g) =>
    if l.step = .turret then if correct then turretReached l g s else takeHold .turretJam s else s
  | none => s

def lensReport (arrived : Bool) (s : State) : State :=
  match s.activeGlyph with
  | some (l, g) =>
    if l.step = .lens then if arrived then carriageStep l g s else takeHold .lensJam s else s
  | none => s

/-- The settling report. -/
def carriageReport (s : State) : State :=
  match s.activeGlyph with
  | some (l, g) => if l.step = .carriage ∧ s.settledAt g.x then shutterStep l g s else s
  | none => s

def LineStep.pastTurret : LineStep → Bool
  | .lens | .carriage | .shutter | .armed => true
  | .advance _ _ | .decision | .turret => false

def LineStep.pastLens : LineStep → Bool
  | .carriage | .shutter | .armed => true
  | .advance _ _ | .decision | .turret | .lens => false

/-- The loss of the turret's station (R143). -/
def stationLost (s : State) : State :=
  match s.activeGlyph with
  | some (l, _) => if l.step.pastTurret then takeHold .turretJam (setStep l .turret s) else s
  | none => s

/-- The loss of the lens position (R143). -/
def lensLost (s : State) : State :=
  match s.activeGlyph with
  | some (l, _) => if l.step.pastLens then takeHold .lensJam (setStep l .lens s) else s
  | none => s

/-- The expiry of the lock watch (R143). While a line is HELD the reason stands and the note is set, so that the retry
finds the fault again (R144; log 42). -/
def discFault (s : State) : State :=
  if s.exposure.work.isLine && s.exposure.hold.isNone then takeHold .discFault s
  else s.modExposure fun e => { e with note := true }

/-- The placement of a record has changed (R143). -/
def placementChanged (i : FontSlot) (s : State) : State :=
  match s.activeGlyph, s.photo.flash with
  | some (l, g), some q => if q.slot = i then glyphDecision l g (withdrawFlash s) else s
  | _, _ => s

/-- The flash complete report (R142; R144 while HELD). A request armed meanwhile is withdrawn (log 19). -/
def flashReport (s : State) : State :=
  match s.exposure.work with
  | .line l =>
    let l1 : LineWork := { l with next := l.next + 1, step := .decision }
    let s1 := setWork (.line l1) (withdrawFlash s)
    if s1.exposure.hold.isSome then s1 else nextGlyph l1 s1
  | _ => s

/-- LID_CLOSED falls (R124, R145). -/
def lidFell (s : State) : State :=
  let s1 := s.modPhoto fun p => { p with delay := none }
  if s1.exposure.work.isLine then takeHold .lidOpen s1 else s1

/-- CASSETTE_PRESENT falls (R145, R147, R150). -/
def cassetteFell (s : State) : State :=
  let s1 := s.modFilm fun f => { f with loaded := false, lowNoted := false }
  match s1.exposure.work with
  | .line _ | .gap _ | .cut _ _ => takeHold .cassetteOut s1
  | .advanceFilm ch _ => (endFreeMove ch .wrongState (Config.unstatedDetail s1.free).toNat s1).bumpFree
  | .none | .cutFilm _ _ => s1

/-! ### Requests -/

/-- R149. -/
def loadCassette (inches : Nat) (s : State) : State :=
  let s1 := s.modFilm fun f =>
    { f with loaded := true, length := inches * 1440, position := 0, deepest := 0, galleyStart := 0 }
  let s2 :=
    match s1.exposure.work with
    | .gap _ => setWork (.gap s1.gapSteps) s1
    | _ => s1
  if s2.filmLow then judgeLow s2 else s2.modFilm fun f => { f with lowNoted := false }

/-- Check 2 of R149. -/
def State.cassetteAllowed (s : State) : Bool :=
  (s.store.filmHolder.isNone && s.exposureIdle) ||
  s.exposure.hold == some .filmOut || s.exposure.hold == some .cassetteOut

def takeLoadCassette (ch : ChannelId) (b : Block) (s : State) : State :=
  if b.payload.length ≠ 2 then refuse ch .badArgument s
  else if !s.cassettePresent then refuse ch .wrongState s
  else if !s.cassetteAllowed then refuse ch .busy s
  else
    let n := clampNat 1 1200 (u16 b.payload 0)
    finish ch (doneOr (n != u16 b.payload 0)) n (loadCassette n s)

/-- The causes of another reason that the retry of the turret or the lens sub-step finds again: no cassette loaded, and
the disc fault note with the disc not LOCKED. A retry that passes clears the note, as a decision does (R144; log 42). -/
def retryPositioning (k : State → State) (s : State) : State :=
  if !s.film.loaded then takeHold .cassetteOut s
  else if s.exposure.note ∧ s.photo.disc ≠ .locked then takeHold .discFault s
  else k (s.modExposure fun e => { e with note := false })

/-- The turret sub-step retried. A placement cleared while HELD gives no station: the glyph decision is made, and holds
with FONT_UNPLACED (R146; log 18). -/
def retryTurret (l : LineWork) (g : SetGlyph) (s : State) : State :=
  match (s.font g.slot).placement with
  | some p => turretStep l g p s
  | none => glyphDecision l g s

/-- The turret stands at the station of the glyph's placement. -/
def State.turretPlaced (g : SetGlyph) (s : State) : Bool :=
  (s.font g.slot).placement.any fun p => s.photo.turret == .standing (s.stationMap p.station)

/-- The turret stands where the turret sub-step of the glyph reached has ended. -/
def State.stationKept (s : State) : Bool := s.exposure.turretAt.any fun q => s.photo.turret == .standing q

/-- The lens sub-step retried: the lens move is commanded again (R146), also where the placement was moved or cleared
while HELD. A station lost while HELD is found again (R144; log 42). With the turret at the placement's station a
verification of MISMATCH holds with DISC_MISMATCH at the glyph decision instead, and no lens move is commanded: the
model's choice (log 45). -/
def retryLens (l : LineWork) (g : SetGlyph) (s : State) : State :=
  if s.turretPlaced g && (s.font g.slot).verification == .mismatch then takeHold .discMismatch (setStep l .decision s)
  else if s.turretPlaced g || s.stationKept then lensStep l g s
  else takeHold .turretJam (setStep l .turret s)

/-- The retry of the held step (R146). -/
def retryStep (s : State) : State :=
  match s.exposure.work with
  | .line l =>
    match l.step, l.glyph with
    | .advance forward n, _ => beginAdvance l forward n s
    | _, none => lineDone l s
    | .turret, some g => retryPositioning (retryTurret l g) s
    | .lens, some g => retryPositioning (retryLens l g) s
    | _, some g => glyphDecision l g s
  | .gap t => beginGap t s
  | .cut t _ => if s.film.loaded then startCut (.cut t) s else takeHold .cassetteOut s
  | _ => s

/-- The retry after a hold of the given reason. -/
def retry (r : HoldReason) (s : State) : State :=
  match r with
  | .discFault => retryStep ((startLockWatch s).modExposure fun e => { e with note := false })
  | .lidOpen => if s.lidClosed then retryStep s else takeHold .lidOpen s
  | _ => retryStep s

/-- R146. -/
def takeResume (ch : ChannelId) (s : State) : State :=
  match s.exposure.hold with
  | none => refuse ch .wrongState s
  | some r => retry r (finish ch .done r.code (s.modExposure fun e => { e with hold := none }))

/-- R150. -/
def takeAdvanceFilm (ch : ChannelId) (b : Block) (s : State) : State :=
  if b.payload.length ≠ 2 then refuse ch .badArgument s
  else if !s.film.loaded then refuse ch .wrongState s
  else if s.store.filmHolder.isSome || !s.exposureIdle then refuse ch .busy s
  else
    let want := s.film.position + u16 b.payload 0 * 10
    let clamped : Bool := want > s.film.length
    let n := min want s.film.length - s.film.position
    if n = 0 then finish ch (doneOr clamped) 0 s else startFilm true n (setWork (.advanceFilm ch clamped) s)

/-- R151. -/
def takeCutFilm (ch : ChannelId) (s : State) : State :=
  if !s.film.loaded then refuse ch .wrongState s
  else if s.store.filmHolder.isSome || !s.exposureIdle || !s.cutterHome then refuse ch .busy s
  else startCut (.cutFilm ch) s

/-! ### QUERY EXPOSURE (R152; 10.7) -/

def ExposureState.toNat : ExposureState → Nat
  | .idle => 0
  | .line => 1
  | .filmEnd => 2
  | .freeMove => 3
  | .held => 4

def LineStep.code : LineStep → Nat
  | .advance _ _ => 0
  | .decision => 1
  | .turret => 2
  | .lens => 3
  | .carriage => 4
  | .shutter => 5
  | .armed => 6

/-- Byte 2: the step reached. -/
def stepBytes (s : State) : List Byte :=
  match s.exposure.work with
  | .line l => [byteOf l.step.code]
  | .gap _ => [7]
  | .cut _ _ => [8]
  | _ => unstated s 2 1

/-- Bytes 3-8: the line in exposure. -/
def lineBytes (s : State) : List Byte :=
  match s.exposure.work with
  | .line l =>
    [byteOf l.slot.val, byteOf l.galley.val] ++ le16 l.seq.toNat ++ [byteOf l.order.length, byteOf l.next]
  | _ => [0xFF, 0xFF] ++ unstated s 5 4

/-- Bytes 30-33: the gap target. -/
def gapBytes (s : State) : List Byte :=
  match s.exposure.work with
  | .gap t | .cut t _ => le32 t
  | _ => unstated s 30 4

/-- The steps still to move. -/
def State.stepsLeft (s : State) : Nat :=
  match s.film.move, s.exposure.work with
  | some m, _ => m.remaining
  | none, .line l =>
    match l.step with
    | .advance _ n => n
    | _ => 0
  | none, _ => 0

def ExposureWork.isCut : ExposureWork → Bool
  | .cut _ _ => true
  | _ => false

def State.holdCode (s : State) : Nat := (s.exposure.hold.map HoldReason.code).getD 0

def exposureReply (s : State) : List Byte :=
  let f := s.film
  [byteOf s.exposure.state.toNat, byteOf s.holdCode] ++ stepBytes s ++ lineBytes s ++
  [byteOf (bitByte s.exposure.work.isCut 0 + bitByte s.exposure.note 1 + bitByte f.loaded 2 + bitByte s.filmLow 3 +
     bitByte f.move.isSome 4 + bitByte s.cutterHome 5)] ++
  le32 f.length ++ le32 f.position ++ le32 f.galleyStart ++ le32 f.deepest ++ le32 (f.length - f.deepest) ++
  gapBytes s ++ le32 s.stepsLeft

def takeQueryExposure (ch : ChannelId) (s : State) : State := reply ch s.holdCode (exposureReply s) s

/-- VERIFY STATIONS, which Exposure Control's line keeps off (R132). -/
def takeVerify (ch : ChannelId) (s : State) : State :=
  if s.exposure.work.isLine || s.photo.verify.isSome then refuse ch .busy s else visit ch s.visitList 0 0 s

/-! ### Composition reset (R153) -/

/-- An ADVANCE FILM or CUT FILM in progress completes RESET; its detail is not stated (log 7). -/
def resetFreeMove (s : State) : State :=
  match s.exposure.work with
  | .advanceFilm ch _ | .cutFilm ch _ => completeUnstated ch .reset s
  | _ => s

def exposureReset (s : State) : State :=
  (stopFilm (resetFreeMove s)).modExposure fun _ => Exposure.powerOn

end Sys2Proof.Machine
end

