-- ==== Sys2Proof/Machine/Galleys.lean ====
section
/-! DEFINITION. Galley Intake (spec 02): the waiting text, the text items, and the five galley requests. -/

namespace Sys2Proof.Machine

/-! ### The text buffer and the waiting text (R28 to R30) -/

/-- The room of a buffer: 1,024 less the fill. -/
def Galley.room (x : Galley) : Nat := 1024 - x.buffer.length

/-- The waiting text served from its head: each request that fits is appended and completes DONE with the number of bytes
appended; serving stops at the first that does not fit (R29). -/
def serveTexts (g : GalleyId) : List WaitingText → State → State
  | [], s => s.modGalley g fun x => { x with waiting := [] }
  | t :: rest, s =>
    if t.text.length ≤ (s.galley g).room then
      serveTexts g rest
        (finish t.channel .done t.text.length (s.modGalley g fun x => { x with buffer := x.buffer ++ t.text }))
    else s.modGalley g fun x => { x with waiting := t :: rest }

def serveWaiting (g : GalleyId) (s : State) : State := serveTexts g (s.galley g).waiting s

/-- The requests of a waiting text complete WRONG_STATE, with detail 0 (R30). -/
def refuseTexts (ts : List WaitingText) (s : State) : State :=
  ts.foldl (fun s t => finish t.channel .wrongState 0 s) s

/-- The requests of a waiting text complete RESET; the detail is not stated (R30, R43, log 7). -/
def resetTexts (ts : List WaitingText) (s : State) : State :=
  ts.foldl (fun s t => completeUnstated t.channel .reset s) s

/-- The waiting text completes WRONG_STATE, with nothing appended (R30). -/
def refuseWaiting (g : GalleyId) (s : State) : State :=
  refuseTexts (s.galley g).waiting (s.modGalley g fun x => { x with waiting := [] })

/-! ### Items (R36 to R42, R54 to R56, R62) -/

/-- A line is opened if none is: the latched parameters are read (R41). -/
def openLine (x : Galley) : Builder :=
  if x.builder.isOpen then x.builder else { x.builder with isOpen := true, latched := latchFrom x }

/-- The slot in which the next glyph is set. Every OPEN galley has a current font (R25); without one, slot 0. -/
def Galley.fontSlot (x : Galley) : FontSlot := x.font.getD 0

/-- The builder with a glyph taken into the current word (R55). -/
def addGlyph (s : State) (x : Galley) (c : GlyphCode) : Builder :=
  let b := openLine x
  let g := measureGlyph s x.fontSlot x.size x.track c
  { b with afterBreak := false, word := kernLast s b.word g ++ [g] }

/-- A glyph item (R55), with its entry report (R49). -/
def takeGlyph (g : GalleyId) (c : GlyphCode) (s : State) : State :=
  let x := s.galley g
  let s1 := s.modGalley g fun y => { y with builder := addGlyph s x c }
  if x.builder.usesSlot x.fontSlot then s1 else raisePartial x.fontSlot s1

/-- The builder with a space taken (R56). -/
def addSpace (x : Galley) (k : SpaceKind) : Builder :=
  if x.builder.afterBreak then x.builder
  else
    let b := openLine x
    let p := measureSpace b.latched k x.size
    if b.glyphCount = 0 ∧ b.latched.measure < gapMin b.gap + p.min then { b with heldOverset := true }
    else { b with gap := b.gap ++ [p] }

/-- A discretionary hyphen: a mark after the last glyph of the word. Before the first glyph it is dropped, and several
marks at one place give the place once (R56, R90). -/
def addMark (b : Builder) : Builder :=
  if b.word = [] ∨ b.marks.contains b.word.length then b else { b with marks := b.marks ++ [b.word.length] }

/-- A line-end item commits the partial line, or a blank line (R62). -/
def paragraphEnd (b : Builder) : LineEnd :=
  { items := b.items, byBreak := false, hyphenBreak := false, flags := {}, carry := [], marks := [],
    afterBreak := false }

/-- What follows the taking of an end-galley item, once its line is committed (R38). -/
def galleyEnding (g : GalleyId) (s : State) : State :=
  let s1 := if (s.galley g).buffer = [] then s else s.addSticky g stickyBadItem
  refuseWaiting g (s1.modGalley g fun x => { x with state := .ending, buffer := [], builder := Builder.blank })

/-- An end-galley item (R38, R62). -/
def takeEndGalley (g : GalleyId) (s : State) : State :=
  let b := (s.galley g).builder
  galleyEnding g (if b.glyphCount = 0 then s else commit g (paragraphEnd b) s)

/-- A font-select item (R39). -/
def takeFontSelect (g : GalleyId) (n : Nat) (s : State) : State :=
  match s.resolve n with
  | none => s.modBuilder g fun b => { b with heldFont := true }
  | some i =>
    if (s.galley g).font = some i then s
    else
      let s1 := raiseCurrent i (s.modGalley g fun x => { x with font := some i })
      match (s.galley g).font with
      | some old => currentGone old s1
      | none => s1

/-- A size item (R27, R40). -/
def takeSize (g : GalleyId) (n : Nat) (s : State) : State :=
  match nearestLens n s with
  | none => s
  | some size =>
    s.modGalley g fun x =>
      { x with size := size, builder := { x.builder with heldSize := x.builder.heldSize || size != n } }

/-- A parameter written, with CLAMPED when it was brought into range (R26, R35). -/
def setParameter (g : GalleyId) (clamped : Bool) (f : Galley → Galley) (s : State) : State :=
  let s1 := s.modGalley g f
  if clamped then s1.addSticky g stickyClamped else s1

/-- A reverse lead item adds to the pending reverse, at most 288 (R40). -/
def takeReverse (g : GalleyId) (n : Nat) (s : State) : State :=
  let sum := (s.galley g).pendingReverse + min 288 n
  setParameter g (n > 288 || sum > 288) (fun x => { x with pendingReverse := min 288 sum }) s

/-- A quad-mode item; a value that names no mode is dropped with BAD_ITEM (R36). -/
def takeQuad (g : GalleyId) (v : Nat) (s : State) : State :=
  match quadModeOf v with
  | some q => s.modGalley g fun x => { x with quad := q }
  | none => s.addSticky g stickyBadItem

def takeSpaces (g : GalleyId) (a b c : Nat) (s : State) : State :=
  let v := spaceValues a b c
  setParameter g (spacesClamped a b c) (fun x => { x with spaceMin := v.1, spaceOpt := v.2.1, spaceMax := v.2.2 }) s

/-- The effect of an item that has left the buffer. -/
def applyItem (g : GalleyId) (i : Item) (s : State) : State :=
  match i with
  | .glyph c => takeGlyph g c s
  | .space k => s.modGalley g fun x => { x with builder := addSpace x k }
  | .discretionary => s.modBuilder g addMark
  | .lineEnd => commit g (paragraphEnd (s.galley g).builder) s
  | .endGalley => takeEndGalley g s
  | .fontSelect n => takeFontSelect g n s
  | .size n => takeSize g n s
  | .leading n => setParameter g (n > 288) (fun x => { x with leading := min 288 n }) s
  | .reverse n => takeReverse g n s
  | .measure n => setParameter g (n < 72 || n > 1440) (fun x => { x with measure := clampNat 72 1440 n }) s
  | .quad v => takeQuad g v s
  | .spaces a b c => takeSpaces g a b c s
  | .track t => setParameter g (t < -4 || t > 4) (fun x => { x with track := clampInt (-4) 4 t }) s
  | .hyphControl f n =>
    setParameter g (n > 7)
      (fun x => { x with hyphenate := f.getLsbD 0, rules := f.getLsbD 1, ladder := min 7 n }) s
  | .zones l r =>
    setParameter g (zoneClamped l || zoneClamped r) (fun x => { x with minLeft := zone 2 l, minRight := zone 3 r }) s
  | .bad => s.addSticky g stickyBadItem

/-- A word-ending item for a word of `n` glyphs (R54). -/
def Item.endsWord (n : Nat) : Item → Bool
  | .space _ | .lineEnd | .endGalley => true
  | .glyph _ => n ≥ 64
  | _ => false

/-- The galley that the engine serves in SERVING, with the complete item at its head and the bytes after it. -/
def State.servedItem (s : State) : Option (GalleyId × Item × List Byte) :=
  match s.engine.state with
  | .serving g => if (s.galley g).state = .opened then (headItem (s.galley g).buffer).map fun (i, rest) => (g, i, rest)
    else none
  | _ => none

/-- The engine settles the current word before it takes the item (R54). The item at the head is judged by the word as it
stands: after a settle that committed and carried fewer than 64 glyphs, a glyph item ends the word no longer and is
taken into it (log 43). -/
def State.mustSettle (g : GalleyId) (i : Item) (s : State) : Bool :=
  (s.galley g).builder.word != [] && i.endsWord (s.galley g).builder.word.length

/-- The item's taking commits a line. -/
def State.itemCommits (g : GalleyId) (i : Item) (s : State) : Bool :=
  match i with
  | .lineEnd => true
  | .endGalley => (s.galley g).builder.glyphCount != 0
  | _ => false

/-- The item at the head may be taken: no word is to be settled before it, and a slot is free for a line that it
commits (log 36). -/
def State.mayTake (g : GalleyId) (i : Item) (s : State) : Bool :=
  !s.mustSettle g i && (!s.itemCommits g i || s.freeSlot.isSome)

/-- The taking of an item: its bytes leave the buffer, it has its effect, and the waiting text is served again
(R30, R36). -/
def takeItem (g : GalleyId) (i : Item) (rest : List Byte) (s : State) : State :=
  serveWaiting g (applyItem g i (s.modGalley g fun x => { x with buffer := rest }))

/-! ### Requests (R25, R29, R31, R32, R34) -/

/-- The galley that OPEN GALLEY sets up, in range, with its line builder emptied (R25, R42, R48). -/
def openedGalley (a : OpenArgs) (size : Nat) (font : FontSlot) (x : Galley) : Galley :=
  { openParameters a size font x with
    state := .opened, pendingReverse := 0, buffer := [], waiting := [], seq := 0, sticky := 0,
    builder := { Builder.blank with heldSize := size != a.size } }

/-- R25. -/
def takeOpenGalley (ch : ChannelId) (b : Block) (s : State) : State :=
  match galleyOf b.target, parseOpenGalley b.payload with
  | some g, some a =>
    if (s.galley g).state ≠ .closed then refuse ch .wrongState s
    else
      match s.resolve a.fontNumber with
      | none => refuse ch .notFound s
      | some i =>
        match nearestLens a.size s with
        | none => refuse ch .wrongState s
        | some size =>
          let s1 := raiseCurrent i (s.modGalley g (openedGalley a size i))
          finish ch (doneOr (openClamped a || size != a.size)) 0 (joinQueues g a.mode s1)
  | _, _ => refuse ch .badArgument s

/-- R29. -/
def takeSetText (ch : ChannelId) (b : Block) (s : State) : State :=
  match galleyOf b.target with
  | none => refuse ch .badArgument s
  | some g =>
    if (s.galley g).state ≠ .opened then refuse ch .wrongState s
    else
      serveWaiting g (s.modGalley g fun x => { x with waiting := x.waiting ++ [{ channel := ch, text := b.payload }] })

/-- R31. -/
def takeSetPriority (ch : ChannelId) (b : Block) (s : State) : State :=
  match galleyOf b.target, b.payload with
  | some g, [p] =>
    if p.toNat > 3 then refuse ch .badArgument s
    else
      match (s.galley g).state with
      | .opened | .ending =>
        finish ch .done (s.galley g).priority (s.modGalley g fun x => { x with priority := p.toNat })
      | .closed | .cancelling => refuse ch .wrongState s
  | _, _ => refuse ch .badArgument s

/-- The engine stops serving a galley that is cancelled; a lookup presented for it is withdrawn, and the answer of one
taken will be discarded (R32, R46, R75, R76). -/
def stopServing (g : GalleyId) (s : State) : State :=
  match s.engine.state with
  | .serving h => if h = g then engineIdle s else s
  | .lookup h =>
    if h = g then
      (engineIdle s).modDict fun d =>
        { d with
          presentedLookup := none
          running := match d.running with
            | some (.lookup core _) => some (.lookup core false)
            | other => other }
    else s
  | .idle => s

/-- The steps of a cancel, with the number of stored lines discarded (R32, R112). -/
def cancelGalley (g : GalleyId) (s : State) : State × Nat :=
  let s1 := refuseWaiting g (s.modGalley g fun x => { x with state := .cancelling, buffer := [] })
  let s2 := stopServing g (emptyBuilder g s1)
  let (s3, n) := discardLines (s2.linesOf g) s2
  (leaveQueues g s3, n)

/-- A galley that holds neither resource and has no stored line closes at once, before the cancel's completion is
reported (R32, R33). -/
def closeAtOnce (g : GalleyId) (s : State) : State := if s.closable g then closeGalley g s else s

/-- R32. -/
def takeCancelGalley (ch : ChannelId) (b : Block) (s : State) : State :=
  match galleyOf b.target with
  | none => refuse ch .badArgument s
  | some g =>
    match (s.galley g).state with
    | .opened | .ending =>
      let (s1, n) := cancelGalley g s
      finish ch .done n (closeAtOnce g s1)
    | .closed | .cancelling => refuse ch .wrongState s

def GalleyState.toNat : GalleyState → Nat
  | .closed => 0
  | .opened => 1
  | .ending => 2
  | .cancelling => 3

def OutputMode.toNat : OutputMode → Nat
  | .film => 0
  | .proof => 1
  | .both => 2

def QuadMode.toNat : QuadMode → Nat
  | .left => 0
  | .right => 1
  | .centre => 2
  | .justify => 3

/-- Font number and slot of the current font: 0 and FFH for none. -/
def currentFontBytes (s : State) (x : Galley) : List Byte :=
  match x.font with
  | some i => [byteOf (s.font i).number, byteOf i.val]
  | none => [0, 0xFF]

def positionByte (p : Option Nat) : Byte := (p.map byteOf).getD 0xFF

/-- The 33 bytes of QUERY GALLEY's reply (R34; 10.7). -/
def galleyReply (g : GalleyId) (s : State) : List Byte :=
  let x := s.galley g
  [byteOf x.state.toNat, byteOf x.mode.toNat, byteOf x.priority] ++ currentFontBytes s x ++
  le16 x.size ++ le16 x.leading ++ le16 x.pendingReverse ++ le16 x.measure ++ [byteOf x.quad.toNat] ++
  [byteOf x.spaceMin, byteOf x.spaceOpt, byteOf x.spaceMax, signedByte x.track] ++
  [byteOf (bitByte x.hyphenate 0 + bitByte x.rules 1), byteOf x.ladder, byteOf x.minLeft, byteOf x.minRight] ++
  le16 x.buffer.length ++ [byteOf x.waiting.length, byteOf (s.linesOf g).length] ++ le16 x.seq.toNat ++
  [positionByte (queuePosition g s.store.filmQueue), positionByte (queuePosition g s.store.paperQueue),
   byteOf (bitByte (s.holdsFilm g) 0 + bitByte (s.holdsPaper g) 1)] ++ le16 x.sticky.toNat

/-- R34. -/
def takeQueryGalley (ch : ChannelId) (b : Block) (s : State) : State :=
  match galleyOf b.target with
  | none => refuse ch .badArgument s
  | some g =>
    reply ch (s.galley g).state.toNat (galleyReply g s) (s.modGalley g fun x => { x with sticky := 0 })

/-! ### Composition reset (R43) -/

/-- One galley: its waiting text completes RESET; the other parameters keep their values. -/
def resetGalley (s : State) (g : GalleyId) : State :=
  resetTexts (s.galley g).waiting (s.modGalley g fun x =>
    { x with state := .closed, font := none, pendingReverse := 0, buffer := [], waiting := [], seq := 0, sticky := 0,
             builder := Builder.blank })

def galleysReset (s : State) : State := (List.finRange 8).foldl resetGalley s

end Sys2Proof.Machine
end

