-- ==== Sys2Proof/Machine/Proof.lean ====
section
/-! DEFINITION. The Proof Generator (spec 09): cells, bands, band buffers, the printer port, paper, and its two
requests. -/

namespace Sys2Proof.Machine

/-! ### The band (R154 to R157) -/

/-- "Width 8 dots, with every dot of every row set" (R154). -/
def solidBox : Cell := { width := 8, rows := Vector.replicate 12 0x00FF#16 }

/-- The dots that a cell deposits in a row: bits 0 to w-1 (R154). -/
def Cell.dots (c : Cell) (r : Fin 12) : BitVec 16 := vget c.rows r &&& BitVec.ofNat 16 (2 ^ c.width - 1)

/-- c = floor(x × 5 / 72) (R156). -/
def glyphColumn (x : Nat) : Nat := x * 5 / 72

/-- The columns of the text field, 0 to 1,199. -/
def textField : BitVec 1248 := BitVec.ofNat 1248 (2 ^ 1200 - 1)

/-- The dots of one row of a cell placed at a column; dots at column 1,200 or beyond are dropped (R156). -/
def deposit (c : Cell) (column : Nat) (r : Fin 12) : BitVec 1248 :=
  ((c.dots r).setWidth 1248 <<< column) &&& textField

/-- The cell of a glyph (R157). -/
def glyphCell (s : State) (g : SetGlyph) : Cell :=
  if g.absent then solidBox else vget (vget s.proof.cells (s.font g.slot).proofSet) g.code

/-- The text field of one row: the OR of every cell deposited (R156). -/
def textRow (s : State) (gs : List SetGlyph) (r : Fin 12) : BitVec 1248 :=
  gs.foldl (fun acc g => acc ||| deposit (glyphCell s g) (glyphColumn g.x) r) 0

/-- The flags that have a cell, in the order of their columns (R157). -/
def LineFlags.drawn (f : LineFlags) : List Bool :=
  [f.loose, f.doubtful, f.overset, f.crowded, f.missing, f.fontSubst || f.sizeSubst]

/-- The 12 rows of 8 dots of the solid box. -/
def solidPattern : Vector Byte 12 := Vector.replicate 12 0xFF

/-- Seven patterns that differ: those of the numbers 0 to 5, and the solid one. -/
def seedPattern (k : Nat) : Vector Byte 12 := Vector.replicate 12 (byteOf k)

/-- The rows of flag cell `k`, 0-5. The patterns are free, but "they differ from one another and from the solid box"
(R154): a rearrangement that leaves the solid pattern in its place takes the six seeds to them (log 8). -/
def flagCell (k : Nat) : Vector Byte 12 :=
  Equiv.swap (Config.flagPatterns solidPattern) solidPattern (Config.flagPatterns (seedPattern k))

/-- The flag field of one row; flag cell `k` stands at column 1,200 + 8k (R157). -/
def flagRow (f : LineFlags) (r : Fin 12) : BitVec 1248 :=
  f.drawn.zipIdx.foldl
    (fun acc (on, k) => if on then acc ||| ((vget (flagCell k) r).setWidth 1248 <<< (1200 + 8 * k)) else acc) 0

/-- The band of a line, assembled whole. -/
def assemble (s : State) (i : LineSlot) (r : LineRecord) : Band :=
  { slot := i, galley := r.galley, seq := r.seq,
    rows := Vector.ofFn fun k => textRow s r.glyphs k ||| flagRow r.flags k }

/-- Byte `k` of a row: its most significant bit carries column 8k (R159). -/
def rowByte (row : BitVec 1248) (k : Nat) : Byte :=
  byteOf (((List.range 8).map fun i => if row.getLsbD (8 * k + i) then 2 ^ (7 - i) else 0).sum)

/-! ### Band buffers (R158) -/

def BandBuffer.isEmpty : BandBuffer → Bool
  | .empty => true
  | _ => false
def BandBuffer.isReady : BandBuffer → Bool
  | .ready _ => true
  | _ => false
def BandBuffer.isSending : BandBuffer → Bool
  | .sending _ => true
  | _ => false
def BandBuffer.band : BandBuffer → Option Band
  | .empty => none
  | .ready b | .sending b => some b

/-- The lowest-numbered buffer in a state. -/
def State.bufferIn (p : BandBuffer → Bool) (s : State) : Option (Fin 2) :=
  (List.finRange 2).find? fun i => p (vget s.proof.buffers i)

def setBuffer (i : Fin 2) (b : BandBuffer) (s : State) : State :=
  s.modProof fun p => { p with buffers := vset p.buffers i b }

/-- The Proof Generator takes the next proof line into the lowest-numbered EMPTY buffer (R158). -/
def tryTakeProofLine (s : State) : Option State :=
  if (s.bufferIn BandBuffer.isReady).isSome then none
  else
    (s.bufferIn BandBuffer.isEmpty).bind fun b =>
    s.nextProofLine.bind fun i =>
    (s.lineAt i).map fun r =>
      setBuffer b (.ready (assemble s i r)) (modLine i (fun r => { r with proofProgress := .inBand }) s)

/-! ### The port (R159 to R161) -/

/-- The port begins work: HELD before its first transfer, with PROOF_HOLD, when paper is absent (R160). -/
def startPort (w : PortWork) (s : State) : State :=
  if s.paperPresent then
    s.modProof fun p => { p with port := match w with | .sending => .sending | .endFeed => .endFeed }
  else (s.modProof fun p => { p with port := .held w }).raise .proofHold

/-- A READY buffer starts sending when the port is IDLE; the start is reported to the store (R158). -/
def tryStartBand (s : State) : Option State :=
  if s.proof.port = .idle then
    (s.bufferIn BandBuffer.isReady).bind fun i =>
    (vget s.proof.buffers i).band.map fun b =>
      let s1 := modLine b.slot (fun r => { r with proofProgress := .sent }) (setBuffer i (.sending b) s)
      startPort .sending (s1.modProof fun p => { p with row := 0, pos := 0 })
  else none

/-- The end action on paper begins: 48 feeds (R161). -/
def tryPaperEnd (s : State) : Option State :=
  if s.proof.port = .idle then
    s.paperFinished.map fun _ =>
      startPort .endFeed ((s.modStore fun t => { t with paperEndBegun := true }).modProof
        fun p => { p with feeds := 48 })
  else none

/-- The band being sent, with its buffer. -/
def State.sendingBand (s : State) : Option (Fin 2 × Band) :=
  (s.bufferIn BandBuffer.isSending).bind fun i => (vget s.proof.buffers i).band.map fun b => (i, b)

/-- A byte is placed on the data lines and strobed. -/
def strobe (data : Byte) (s : State) : State :=
  (s.modDrives fun d => { d with data := data }).pulse (.strobe data)

/-- The band has ended: the buffer becomes EMPTY and the line's proof is done (R158). -/
def bandEnd (i : Fin 2) (b : Band) (s : State) : State :=
  proofDone b.slot (setBuffer i .empty (s.modProof fun p => { p with port := .idle, row := 0, pos := 0 }))

/-- The next transfer of a band: 156 bytes and a feed for each row, then four feeds (R159). -/
def sendTransfer (i : Fin 2) (b : Band) (s : State) : State :=
  let row := s.proof.row
  let pos := s.proof.pos
  if h : row < 12 then
    if pos < 156 then (strobe (rowByte (vget b.rows ⟨row, h⟩) pos) s).modProof fun p => { p with pos := pos + 1 }
    else (s.pulse .rowFeed).modProof fun p => { p with row := row + 1, pos := 0 }
  else if pos < 3 then (s.pulse .rowFeed).modProof fun p => { p with pos := pos + 1 }
  else bandEnd i b (s.pulse .rowFeed)

/-- The next end feed; with the 48th the end action on paper is complete (R161). -/
def feedTransfer (s : State) : State :=
  let s1 := (s.pulse .rowFeed).modProof fun p => { p with feeds := p.feeds - 1 }
  if s.proof.feeds ≤ 1 then
    (s1.modProof fun p => { p with port := .idle }).modStore fun t => { t with paperEndDone := true }
  else s1

/-- Whether the port may issue a transfer now (R159). -/
def State.portReady (s : State) : Bool :=
  (s.proof.port == .sending || s.proof.port == .endFeed) && !s.printerBusy

/-- One transfer (R159). -/
def transfer (s : State) : State :=
  match s.proof.port with
  | .endFeed => feedTransfer s
  | .sending =>
    match s.sendingBand with
    | some (i, b) => sendTransfer i b s
    | none => s
  | _ => s

/-- PAPER_PRESENT falls (R160). -/
def paperFell (s : State) : State :=
  match s.proof.port with
  | .sending => (s.modProof fun p => { p with port := .held .sending }).raise .proofHold
  | .endFeed => (s.modProof fun p => { p with port := .held .endFeed }).raise .proofHold
  | _ => s

/-- PAPER_PRESENT rises: a HELD port returns to the state it left (R160). -/
def paperRose (s : State) : State :=
  match s.proof.port with
  | .held .sending => s.modProof fun p => { p with port := .sending }
  | .held .endFeed => s.modProof fun p => { p with port := .endFeed }
  | _ => s

/-! ### Requests (R155, R162) -/

/-- The cells of a run of codes replaced. -/
def replaceCells (set : Fin 4) (first : Nat) (cells : List Cell) (s : State) : State :=
  s.modProof fun p =>
    { p with
      cells := vset p.cells set (Vector.ofFn fun code : Fin 96 =>
        if first ≤ code.val then cells.getD (code.val - first) (vget (vget p.cells set) code)
        else vget (vget p.cells set) code) }

/-- R155. -/
def takeLoadCells (ch : ChannelId) (b : Block) (s : State) : State :=
  if h : b.target.toNat < 4 then
    match parseCells b.payload with
    | some (first, cs) =>
      finish ch (doneOr (cs.any (·.2))) cs.length (replaceCells ⟨b.target.toNat, h⟩ first (cs.map (·.1)) s)
    | none => refuse ch .badArgument s
  else refuse ch .badArgument s

def PortState.toNat : PortState → Nat
  | .idle => 0
  | .sending => 1
  | .endFeed => 2
  | .held _ => 3

/-- Byte 1: the state left when HELD. -/
def portLeft (s : State) : List Byte :=
  match s.proof.port with
  | .held .sending => [1]
  | .held .endFeed => [2]
  | _ => unstated s 1 1

/-- Bytes 2-4: the place in the band being sent. -/
def placeBytes (s : State) : List Byte :=
  match s.proof.port with
  | .sending | .held .sending => byteOf s.proof.row :: le16 s.proof.pos
  | _ => unstated s 2 3

/-- Bytes 6-10 or 11-15: one band buffer. -/
def bufferBytes (s : State) (i : Fin 2) : List Byte :=
  match vget s.proof.buffers i with
  | .empty => [0, 0xFF, 0xFF] ++ unstated s (9 + 5 * i.val) 2
  | .ready b => [1, byteOf b.slot.val, byteOf b.galley.val] ++ le16 b.seq.toNat
  | .sending b => [2, byteOf b.slot.val, byteOf b.galley.val] ++ le16 b.seq.toNat

/-- The reply of QUERY PROOF (10.7). -/
def proofReply (s : State) : List Byte :=
  [byteOf s.proof.port.toNat] ++ portLeft s ++ placeBytes s ++ [byteOf s.proof.feeds] ++
  bufferBytes s 0 ++ bufferBytes s 1 ++
  [byteOf (bitByte s.paperPresent 0 + bitByte s.printerBusy 1),
   (s.store.paperHolder.map fun g => byteOf g.val).getD 0xFF] ++
  (s.proof.cells.toList.flatMap fun set => set.toList.map fun c => byteOf c.width)

def takeQueryProof (ch : ChannelId) (s : State) : State := reply ch s.proof.port.toNat (proofReply s) s

/-! ### Composition reset (R163) -/

def proofReset (s : State) : State :=
  s.modProof fun p =>
    { p with buffers := Vector.replicate 2 .empty, port := .idle, row := 0, pos := 0, feeds := 0 }

end Sys2Proof.Machine
end

