-- ==== Sys2Proof/Machine/Channels.lean ====
section
/-! DEFINITION. The Request Channels (spec 10): walking a block, the handover, posting, termination and reset. -/

namespace Sys2Proof.Machine

/-! ### Termination (R169, R171) -/

/-- The code of each termination (R171). -/
def termNormalEnd : BitVec 3 := 1
def termStopAfter : BitVec 3 := 2
def termStopped : BitVec 3 := 3
def termFetchFault : BitVec 3 := 4
def termPostFault : BitVec 3 := 5
def termBadBlock : BitVec 3 := 6

/-- "At every termination the channel becomes TERMINATED. The termination status takes the termination's code, the stop
pending mark is cleared, and CHn attention is raised" (R169). -/
def terminate (ch : ChannelId) (code : BitVec 3) (s : State) : State :=
  (s.modChannel ch fun k =>
    { k with state := .terminated, term := code, stop := false, blockRead := none, posting := none }).raise (.channel ch)

/-- The channel is running in FETCHING, WAITING and POSTING (R164). -/
def Channel.running (k : Channel) : Bool :=
  match k.state with
  | .fetching | .waiting | .posting => true
  | .idle | .terminated => false

/-! ### The handover (R167) -/

/-- The Font Catalogue takes PLACE FONT, and reports the completed placement to Exposure Control (R14, R143). -/
def placeFontReported (ch : ChannelId) (b : Block) (s : State) : State :=
  match takePlaceFont ch b s with
  | (s1, some i) => placementChanged i s1
  | (s1, none) => s1

/-- The owner takes the request, by its code. The dictionary's requests are presented to its arbiter. NO-OP and unknown
codes complete at the channel. -/
def ownerTakes (ch : ChannelId) (r : Request) (s : State) : State :=
  match r.code.toNat with
  | 0x00 => finish ch .done 0 s
  | 0x10 => takeLoadFont ch r.block s
  | 0x11 => takeAmendFont ch r.block s
  | 0x12 => placeFontReported ch r.block s
  | 0x13 => takeRetireFont ch r.block s
  | 0x14 => takeQueryFont ch r.block s
  | 0x20 => present ch r s
  | 0x21 => present ch r s
  | 0x22 => present ch r s
  | 0x23 => present ch r s
  | 0x24 => present ch r s
  | 0x30 => takeOpenGalley ch r.block s
  | 0x31 => takeSetText ch r.block s
  | 0x32 => takeSetPriority ch r.block s
  | 0x33 => takeCancelGalley ch r.block s
  | 0x34 => takeQueryGalley ch r.block s
  | 0x40 => takeLoadCassette ch r.block s
  | 0x41 => takeResume ch s
  | 0x42 => takeAdvanceFilm ch r.block s
  | 0x43 => takeCutFilm ch s
  | 0x44 => takeQueryExposure ch s
  | 0x50 => takeVerify ch s
  | 0x51 => takeQueryPhoto ch s
  | 0x60 => takeLoadCells ch r.block s
  | 0x61 => takeQueryProof ch s
  | _ => finish ch .unknownRequest 0 s

/-- The channel becomes WAITING with the request in flight, and the owner takes it in the same event (R167). -/
def handOver (ch : ChannelId) (r : Request) (s : State) : State :=
  ownerTakes ch r (s.modChannel ch fun k =>
    { k with state := .waiting, inFlight := some r, blockRead := none, posting := none })

/-- A channel in FETCHING that has not yet read its block. -/
def State.fetching (ch : ChannelId) (s : State) : Bool :=
  (s.channel ch).state == .fetching && (s.channel ch).blockRead.isNone

/-- The block has been read. While the detached mark is set the channel waits with it (R166). -/
def blockArrives (ch : ChannelId) (r : Request) (s : State) : State :=
  if (s.channel ch).detached then s.modChannel ch fun k => { k with blockRead := some r } else handOver ch r s

/-- A payload above 1,024 bytes is a malformed header (R166). -/
def requestArrives (ch : ChannelId) (r : Request) (s : State) : State :=
  if r.block.payload.length ≤ 1024 then blockArrives ch r s else terminate ch termBadBlock s

/-- The end of a fetch (R166). -/
def fetchArrives (ch : ChannelId) (f : Fetched) (s : State) : State :=
  match f with
  | .busError => terminate ch termFetchFault s
  | .block h p =>
    match parseBlock h p with
    | some r => requestArrives ch r s
    | none => terminate ch termBadBlock s

/-- The block that waits for the detached mark is handed over once the mark is clear (R166). -/
def tryHandOver (ch : ChannelId) (s : State) : Option State :=
  let k := s.channel ch
  if k.state = .fetching ∧ k.detached = false then k.blockRead.map fun r => handOver ch r s else none

/-! ### Posting (R168, R169) -/

/-- The reply bytes written: the lesser of the reply's length and the reply capacity. -/
def Posting.replyWritten (p : Posting) : List Byte := p.reply.take p.request.block.replyCap.toNat

/-- The 8-byte posted status (10.6). -/
def Posting.status (p : Posting) : List Byte :=
  [p.completion.code, p.request.code] ++ le16 p.detail.toNat ++ le16 p.replyWritten.length ++ le16 p.reply.length

/-- Bytes at consecutive host addresses. An address that passes FFFFFFFFH goes on at 0: the model's choice (log 44). -/
def bytesAt (a : Word) (bs : List Byte) : List (Word × Byte) := bs.zipIdx.map fun (b, i) => (a + BitVec.ofNat 32 i, b)

/-- All that the posting writes, in its order: the reply, then the status if POST is set. -/
def Posting.writes (p : Posting) : List (Word × Byte) :=
  bytesAt p.request.block.replyAddr p.replyWritten ++
  (if postFlag p.request.block then bytesAt p.request.block.statusAddr p.status else [])

/-- What follows a block posted without fault (R169). -/
def chainNext (ch : ChannelId) (b : Block) (s : State) : State :=
  if stopAfterFlag b then terminate ch termStopAfter s
  else if blockAddress b.link = 0 then terminate ch termNormalEnd s
  else if (s.channel ch).stop then terminate ch termStopped s
  else s.modChannel ch fun k => { k with state := .fetching, blockRead := none, posting := none }

/-- The bytes that a posting has written, and the block's link in the chain register (R168, R169). -/
def recordPosting (ch : ChannelId) (p : Posting) (written : List (Word × Byte)) (s : State) : State :=
  s.modChannel ch fun k => { k with written := written, chain := blockAddress p.request.block.link }

/-- The posting ends, with a bus error after `k` bytes or without (R168). -/
def postingEnds (ch : ChannelId) (p : Posting) (fault : Option Nat) (s : State) : State :=
  match fault with
  | some k => terminate ch termPostFault (recordPosting ch p (p.writes.take k) s)
  | none =>
    let s1 := recordPosting ch p p.writes s
    chainNext ch p.request.block (if signalFlag p.request.block then s1.raise (.channel ch) else s1)

/-- The posting that a channel makes. -/
def State.postingOf (ch : ChannelId) (s : State) : Option Posting :=
  if (s.channel ch).state = .posting then (s.channel ch).posting else none

/-! ### Start, stop and reset (R165, R170, R172) -/

/-- The start bit written, with or without the stop bit (R165, R170). -/
def startChannel (ch : ChannelId) (stopBit : Bool) (s : State) : State :=
  let s1 := s.modChannel ch fun k => { k with stop := stopBit }
  if (s1.channel ch).chain = 0 then terminate ch termNormalEnd s1
  else if stopBit then terminate ch termStopped s1
  else s1.modChannel ch fun k => { k with state := .fetching, blockRead := none, posting := none }

/-- The stop bit written to a running channel (R170). In FETCHING it is honoured at once (log 12). -/
def stopChannel (ch : ChannelId) (s : State) : State :=
  if (s.channel ch).state = .fetching then terminate ch termStopped s
  else s.modChannel ch fun k => { k with stop := true }

/-- The request in flight of a channel that is reset: withdrawn if the dictionary has not taken it, detached otherwise
(R172). -/
def detach (ch : ChannelId) (s : State) : State :=
  match (s.channel ch).inFlight with
  | none => s
  | some _ =>
    if (vget s.dict.presented ch).isSome then s.modDict fun d => { d with presented := vset d.presented ch none }
    else s.modChannel ch fun k => { k with detached := true }

/-- A posting under way is abandoned: how much of it was written is a free value (R172, log 25). -/
def abandonPosting (ch : ChannelId) (s : State) : State :=
  match s.postingOf ch with
  | some p =>
    (s.modChannel ch fun k => { k with written := p.writes.take (Config.writesBeforeAbandon s.free) }).bumpFree
  | none => s

/-- A channel reset (R172). -/
def resetChannel (ch : ChannelId) (s : State) : State :=
  (abandonPosting ch (detach ch s)).modChannel ch fun k =>
    { k with state := .idle, chain := 0, term := 0, stop := false, inFlight := none, blockRead := none, posting := none }

/-! ### The detached mark (R172) -/

/-- Some owner still holds a request that the channel brought: a held amend, a waiting text, a dictionary operation, a
visit of VERIFY STATIONS or a free move of the film. -/
def State.ownerHolds (ch : ChannelId) (s : State) : Bool :=
  ((List.finRange 32).any fun i => (s.font i).amend.any fun a => a.channel == ch) ||
  ((List.finRange 8).any fun g => (s.galley g).waiting.any fun t => t.channel == ch) ||
  (match s.dict.running with
   | some (.request c _ _ _) => c == ch
   | _ => false) ||
  (s.dict.purge.any fun p => p.channel == ch) ||
  (s.photo.verify.any fun v => v.channel == ch) ||
  (match s.exposure.work with
   | .advanceFilm c _ | .cutFilm c _ => c == ch
   | _ => false)

/-! ### The register window (R164, R165, R170, R172; 10.5) -/

def ChannelState.toNat : ChannelState → Nat
  | .idle => 0
  | .fetching => 1
  | .waiting => 2
  | .posting => 3
  | .terminated => 4

/-- What a read of a channel's control register returns. -/
def State.controlRead (ch : ChannelId) (s : State) : Word :=
  let k := s.channel ch
  BitVec.ofNat 32 (bitByte k.running 0 + bitByte k.stop 1 + k.state.toNat * 256 + bitByte k.detached 11)

end Sys2Proof.Machine
end

