-- ==== Sys2Proof/Machine/React.lean ====
section
/-! DEFINITION. What comes about of itself in the event that makes it possible (log 4): closes, assignments, end actions,
lines taken, bands started, arbitrations, dictionary grants and waiting handovers. -/

namespace Sys2Proof.Machine

/-- The first of two reactions that applies. -/
def firstOf (a b : State → Option State) (s : State) : Option State := (a s).orElse fun _ => b s

/-- One reaction, in the model's order. -/
def reactOnce : State → Option State :=
  firstOf tryClose <|                -- R33
  firstOf tryAssign <|               -- R105, R106
  firstOf tryFilmEnd <|              -- R111, R148
  firstOf tryPaperEnd <|             -- R111, R161
  firstOf tryTakeLine <|             -- R136
  firstOf tryStartBand <|            -- R158
  firstOf tryTakeProofLine <|        -- R158
  firstOf tryEndService <|           -- R47
  firstOf tryArbitrate <|            -- R45
  firstOf tryGrant <|                -- R74
  firstOf (tryHandOver 0) (tryHandOver 1) -- R166

/-- Reactions until none applies, at most `n`. -/
def reactN : Nat → State → State
  | 0, s => s
  | n + 1, s =>
    match reactOnce s with
    | some s1 => reactN n s1
    | none => s

/-- The bound on the reactions of one event. Each reaction uses up a galley's close, a holding, a line, a band, a service,
a piece of work or a block, of which far fewer exist (log 4). -/
def reactBound : Nat := 1000

def react (s : State) : State := reactN reactBound s

/-- An event with all that follows from it. -/
def eventReact (arises : Bool) (f : State → State) (s : State) : Answer := event arises (fun s => react (f s)) s

end Sys2Proof.Machine
end

