-- ==== Sys2Proof/Machine/ChannelEvents.lean ====
section
/-! DEFINITION. The meanings of the commands of the channels and of the attention registers. -/

namespace Sys2Proof.Machine

/-- A start: ignored while the channel is running, where the stop bit of the same write still counts (R165, R170). -/
def execStart (ch : ChannelId) (stopBit : Bool) (s : State) : Answer :=
  event (stopBit || !(s.channel ch).running)
    (fun s => if (s.channel ch).running then stopChannel ch s else startChannel ch stopBit s) s

/-- A stop written to a channel that is not running is ignored (R170). -/
def execStop (ch : ChannelId) (s : State) : Answer := event (s.channel ch).running (stopChannel ch) s

/-- R172. -/
def execChannelReset (ch : ChannelId) (s : State) : Answer := event true (resetChannel ch) s

/-- While the channel is running the write is ignored (R164). -/
def execChainRegisterWrite (ch : ChannelId) (v : Word) (s : State) : Answer :=
  event (!(s.channel ch).running) (fun s => s.modChannel ch fun k => { k with chain := blockAddress v }) s

/-- R166. -/
def execFetchComplete (ch : ChannelId) (f : Fetched) (s : State) : Answer :=
  eventReact (s.fetching ch) (fetchArrives ch f) s

/-- The detached request is in flight at no owner any more: the mark clears (R172; log 10). -/
def execDetachedMarkClear (ch : ChannelId) (s : State) : Answer :=
  eventReact ((s.channel ch).detached && !s.ownerHolds ch)
    (fun s => s.modChannel ch fun k => { k with detached := false }) s

/-- R168, R169. A bus error comes on a write, so fewer bytes than all were written before it. The size of a bus write is
not stated: any such number of bytes is allowed (log 25). -/
def execPostingComplete (ch : ChannelId) (fault : Option Nat) (s : State) : Answer :=
  match s.postingOf ch with
  | some p => event (fault.all fun k => decide (k < p.writes.length)) (postingEnds ch p fault) s
  | none => .next s

/-- "A read returns the code and sets the register to 0 in the same event" (R171). -/
def execTerminationStatusRead (ch : ChannelId) (s : State) : Answer :=
  event true
    (fun s => ({ s with readData := (s.channel ch).term.setWidth 32 }).modChannel ch fun k => { k with term := 0 }) s

/-- "Writing 1 to a flag's bit clears it, and writing 0 leaves it" (R173). -/
def execAttnWrite (v : Word) (s : State) : Answer :=
  event true (fun s => { s with attn := s.attn &&& ~~~(v.setWidth 16) }) s

/-- "ATTN_EN holds one enable for each flag. A write replaces it whole" (R173). -/
def execAttnEnWrite (v : Word) (s : State) : Answer :=
  event true (fun s => { s with attnEn := v.setWidth 16 &&& attnDefined }) s

end Sys2Proof.Machine
end

