-- ==== Sys2Proof/Machine/Composition.lean ====
section
/-! DEFINITION. The meanings of the commands of the Composition Engine and of the end of a dictionary operation. -/

namespace Sys2Proof.Machine

/-- The engine takes the item at the head of the served galley's buffer (R47), when no word is to be settled first. -/
def execTakeItem (s : State) : Answer :=
  match s.servedItem with
  | some (g, i, rest) => eventReact (s.mayTake g i) (takeItem g i rest) s
  | none => .next s

/-- Before a word-ending item the engine settles the current word (R54, R57). -/
def execSettleWord (s : State) : Answer :=
  match s.servedItem with
  | some (g, i, _) => eventReact (s.mustSettle g i) (settle g) s
  | none => .next s

/-- The operation that runs is a composition lookup. -/
def State.lookupRuns (s : State) : Bool :=
  match s.dict.running with
  | some (.lookup _ _) => true
  | _ => false

/-- The dictionary answers the lookup that runs (R76, R92). It is the end of that operation (log 9). -/
def execLookupAnswer (s : State) : Answer := eventReact s.lookupRuns completeOperation s

/-- The operation that runs completes: its effect and its outcome come in this event (R73). -/
def execDictionaryOperationComplete (s : State) : Answer := eventReact s.dict.running.isSome completeOperation s

end Sys2Proof.Machine
end

