-- ==== Sys2Proof/Machine/Lines.lean ====
section
/-! DEFINITION. The sensor and encoder lines (11.5): acceptance of changes and what each accepted change reports; and the
arrivals and timeouts of turret and lens (R126 to R130). -/

namespace Sys2Proof.Machine

/-! ### Turret and lens (R126 to R130) -/

/-- The report of an arrival or a timeout to the move's requester. -/
def reportToRequester (r : Requester) (correct : Bool) (s : State) : State :=
  match r with
  | .exposure => turretReport correct s
  | .verify => visitEnds correct s

/-- TURRET_READY rises (R127). While STANDING it has no effect. -/
def turretRises (s : State) : State :=
  let q := s.turretPosLines
  match s.photo.turret with
  | .standing _ => s
  | .unknown => turretArrives q s.discCodeLines s
  | .moving target requester =>
    let s1 := turretArrives q s.discCodeLines s
    match target, requester with
    | some p, some r => if s.photo.turretExpired then s1 else reportToRequester r (q == p) s1
    | _, _ => s1

/-- TURRET_READY falls: while STANDING or UNKNOWN it is an uncommanded move (R126). -/
def turretFalls (s : State) : State :=
  match s.photo.turret with
  | .moving _ _ => s
  | _ =>
    stationLost ((turretMoveStart s).modPhoto fun p =>
      { p with turret := .moving none none, turretTimer := none, turretExpired := false })

/-- The turret timeout expires (R128). -/
def turretTimesOut (s : State) : State :=
  let s1 := s.modPhoto fun p => { p with turretTimer := none, turretExpired := true }
  match s.photo.turret with
  | .moving _ (some r) => reportToRequester r false s1
  | _ => s1

/-- LENS_READY rises (R130). -/
def lensRises (s : State) : State :=
  match s.photo.lens with
  | .moving p =>
    let s1 := s.modPhoto fun x => { x with lens := .standing p, lensTimer := none }
    if s.photo.lensExpired then s1 else lensReport true s1
  | _ => s

/-- LENS_READY falls (R130). -/
def lensFalls (s : State) : State :=
  match s.photo.lens with
  | .standing _ => lensLost (s.modPhoto fun x => { x with lens := .unknown })
  | _ => s

/-- The lens timeout expires (R130). -/
def lensTimesOut (s : State) : State :=
  let s1 := s.modPhoto fun x => { x with lensTimer := none, lensExpired := true }
  match s.photo.lens with
  | .moving _ => lensReport false s1
  | _ => s1

/-! ### The encoder lines (R116) -/

def State.encoder (l : EncoderLine) (s : State) : LineFilter :=
  match l with
  | .index => s.sensors.index
  | .slot => s.sensors.slot

def setEncoder (l : EncoderLine) (f : LineFilter) (s : State) : State :=
  match l with
  | .index => s.modSensors fun x => { x with index := f }
  | .slot => s.modSensors fun x => { x with slot := f }

/-- A change is accepted. To the true level it is an index pulse or a slot pulse. -/
def acceptEncoder (l : EncoderLine) (level : Bool) (s : State) : State :=
  let s1 := setEncoder l { accepted := level, timing := none } s
  if level then
    match l with
    | .index => indexPulse s1
    | .slot => slotPulse s1
  else s1

/-- A change being timed whose time is up at this moment is accepted before the line changes back: its level has held
for the rejection time (R116). -/
def acceptHeldEncoder (l : EncoderLine) (s : State) : State :=
  if (s.encoder l).timing = some 0 then acceptEncoder l (!s.conditioned (encoderBit l)) s else s

/-- The new conditioned level of an encoder line: the rejection time begins, or a return cancels the change (R116). -/
def encoderEdge (l : EncoderLine) (s : State) : State :=
  let level := s.conditioned (encoderBit l)
  if level = (s.encoder l).accepted then setEncoder l { accepted := level, timing := none } s
  else if s.rejectionTime = 0 then acceptEncoder l level s
  else setEncoder l { accepted := !level, timing := some s.rejectionTime } s

/-- The conditioned level of an encoder line has changed (R116). -/
def encoderChanged (l : EncoderLine) (s : State) : State := encoderEdge l (acceptHeldEncoder l s)

/-! ### The debounced lines (R180, R181) -/

def State.debouncer (l : DebouncedLine) (s : State) : LineFilter :=
  match l with
  | .cassettePresent => s.sensors.cassette
  | .lidClosed => s.sensors.lid
  | .paperPresent => s.sensors.paper

def setDebouncer (l : DebouncedLine) (f : LineFilter) (s : State) : State :=
  match l with
  | .cassettePresent => s.modSensors fun x => { x with cassette := f }
  | .lidClosed => s.modSensors fun x => { x with lid := f }
  | .paperPresent => s.modSensors fun x => { x with paper := f }

/-- The place of a line in 15H and 17H; its rise is bit 2n of 16H and its fall bit 2n + 1. -/
def debounceIndex : DebouncedLine → Nat
  | .cassettePresent => 0
  | .lidClosed => 1
  | .paperPresent => 2

def State.debounceEnabled (l : DebouncedLine) (s : State) : Bool := (s.entry 0x15).getLsbD (debounceIndex l)

/-- The event status bit of a line and direction (16H). -/
def eventBit (l : DebouncedLine) (level : Bool) : BitVec 6 :=
  1#6 <<< (2 * debounceIndex l + if level then 0 else 1)

/-- The report of an accepted change to the block that acts on it (R181). -/
def reportDebounced (l : DebouncedLine) (level : Bool) (s : State) : State :=
  match l, level with
  | .cassettePresent, false => cassetteFell s
  | .lidClosed, false => lidFell s
  | .paperPresent, false => paperFell s
  | .paperPresent, true => paperRose s
  | .cassettePresent, true | .lidClosed, true => s

/-- An accepted change sets its event status bit, shows in 17H, raises SENSOR and is reported (R181). -/
def acceptDebounced (l : DebouncedLine) (level : Bool) (s : State) : State :=
  let s1 := setDebouncer l { accepted := level, timing := none } s
  let s2 := (s1.modSensors fun x => { x with events := x.events ||| eventBit l level }).raise .sensor
  reportDebounced l level s2

/-- A change being timed whose 10 ms are up at this moment is accepted before the line changes back (R180). -/
def acceptHeldDebounced (l : DebouncedLine) (s : State) : State :=
  if (s.debouncer l).timing = some 0 then acceptDebounced l (!s.conditioned (debouncedBit l)) s else s

/-- The new conditioned level of a debounced line: with debounce enabled the 10 ms begin, or a return cancels the change;
with debounce disabled it is accepted (R180). -/
def debouncedEdge (l : DebouncedLine) (s : State) : State :=
  let level := s.conditioned (debouncedBit l)
  if level = (s.debouncer l).accepted then setDebouncer l { accepted := level, timing := none } s
  else if s.debounceEnabled l then setDebouncer l { accepted := !level, timing := some mechUnit } s
  else acceptDebounced l level s

/-- The conditioned level of a debounced line has changed (R180). -/
def debouncedChanged (l : DebouncedLine) (s : State) : State := debouncedEdge l (acceptHeldDebounced l s)

/-! ### The other lines -/

/-- The conditioned level of a line has changed (R180, R181). -/
def sensorChanged (l : SensorLine) (s : State) : State :=
  match l with
  | .turretReady => if s.conditioned (sensorBit .turretReady) then turretRises s else turretFalls s
  | .lensReady => if s.conditioned (sensorBit .lensReady) then lensRises s else lensFalls s
  | .cutterHome => if s.cutterHome then cutterRose s else cutterFell s
  | .debounced d => debouncedChanged d s
  | .turretPos _ | .discCode _ | .printerBusy => s

/-- The sensor lines other than the encoder lines, in ascending bit order. -/
def sensorLines : List SensorLine :=
  [.turretReady, .turretPos 0, .turretPos 1, .discCode 0, .discCode 1, .discCode 2, .discCode 3, .lensReady,
   .cutterHome, .debounced .cassettePresent, .debounced .lidClosed, .debounced .paperPresent, .printerBusy]

def encoderLines : List EncoderLine := [.index, .slot]

/-- The levels on TURRET_POS and DISC_CODE. -/
def setTurretLines (q : Station) (code : BitVec 4) (s : State) : State :=
  let s1 := (List.finRange 2).foldl (fun s b => s.setConditioned (sensorBit (.turretPos b)) (q.val.testBit b.val)) s
  (List.finRange 4).foldl (fun s b => s.setConditioned (sensorBit (.discCode b)) (code.getLsbD b.val)) s1

end Sys2Proof.Machine
end

