-- ==== Sys2Proof/Machine/Configuration.lean ====
section
/-! DEFINITION. The configuration space (spec 11): the map's groups, writes and their refusal, reads, and the register
window. -/

namespace Sys2Proof.Machine

/-! ### Storing and refusing (R176, R178) -/

def storeEntry (i : Nat) (v : Byte) (s : State) : State :=
  s.modConfig fun c => { c with entries := Vector.ofFn fun k : Fin 201 => if k.val = i then v else vget c.entries k }

/-- The index at which CFG_DATA writes. -/
def State.cfgIndex (s : State) : Nat := s.config.index.toNat

/-- "CONFIG_REJECT is raised in the attention flags, and bits 6-0 of entry C8H take the code of the refusal" (R178). -/
def refuseWrite (code : BitVec 7) (s : State) : State :=
  (s.modConfig fun c => { c with lastRefusal := code }).raise .configReject

/-- The bits that an entry defines; the others "are ignored when written and read as 0" (11.2). -/
def definedBits (i : Nat) : Byte :=
  if i = 0x01 ∨ i = 0x02 ∨ i = 0x10 then 0x01
  else if i = 0x06 then 0x0F
  else if i = 0x14 then 0x7F
  else if i = 0x15 then 0x07
  else if 0x80 ≤ i ∧ i ≤ 0xA7 then 0x01
  else 0xFF

/-- An accepted write. -/
def acceptWrite (v : Byte) (s : State) : State := storeEntry s.cfgIndex (v &&& definedBits s.cfgIndex) s

/-- The entries that accept every write and have no further effect: 01H-03H, 06H-10H. -/
def plainEntry (i : Nat) : Bool := (1 ≤ i && i ≤ 3) || (6 ≤ i && i ≤ 0x10)

/-! ### T_nom (R177) -/

/-- The value that a write to 05H forms. -/
def State.newTNom (v : Byte) (s : State) : Nat := (s.config.tNomPending.getD (s.entry 0x04)).toNat + 256 * v.toNat

def writeTNomHigh (v : Byte) (s : State) : State :=
  let n := s.newTNom v
  let s1 := s.modConfig fun c => { c with tNomPending := none }
  if 2500 ≤ n ∧ n ≤ 10000 then storeEntry 0x05 v (storeEntry 0x04 (byteOf n) s1) else refuseWrite 1 s1

/-! ### Entries that are written while quiescent only (R178) -/

/-- The refusal code of the group of an entry that is quiescent only, other than 12H. -/
def quiescentGroup (i : Nat) : Option (BitVec 7) :=
  if i = 0x11 then some 2
  else if 0x18 ≤ i ∧ i ≤ 0x1F then some 4
  else if 0x20 ≤ i ∧ i ≤ 0x7F then some 5
  else if 0x80 ≤ i ∧ i ≤ 0xA7 then some 6
  else if 0xA8 ≤ i ∧ i ≤ 0xC7 then some 7
  else none

/-- The values that 11H and the code map accept. -/
def quiescentValue (i : Nat) (v : Byte) : Bool :=
  if i = 0x11 then v.toNat ≤ 95
  else if 0x20 ≤ i ∧ i ≤ 0x7F then v.toNat ≤ 40
  else true

def writeQuiescent (v : Byte) (s : State) : State :=
  if s.quiescent && quiescentValue s.cfgIndex v then acceptWrite v s
  else refuseWrite ((quiescentGroup s.cfgIndex).getD 0) s

/-- No two logical stations map to one physical station. -/
def isPermutation (v : Byte) : Bool :=
  ((List.range 4).map fun l => v.toNat / 4 ^ l % 4).Nodup

/-- R16, R178. -/
def writeStationMap (v : Byte) (s : State) : State :=
  if s.quiescent && isPermutation v then unverifyAll (storeEntry 0x12 v s) else refuseWrite 3 s

/-! ### Sensor conditioning (R180) -/

/-- A write to 13H or 14H: each line that it flips changes its conditioned level, taken in ascending bit order
(log 16). -/
def writeInversion (v : Byte) (s : State) : State :=
  let s1 := acceptWrite v s
  let flipped := s.inversion ^^^ s1.inversion
  let s2 := (encoderLines.filter fun l => flipped.getLsbD (encoderBit l)).foldl (fun s l => encoderChanged l s) s1
  (sensorLines.filter fun l => flipped.getLsbD (sensorBit l)).foldl (fun s l => sensorChanged l s) s2

/-- A change being timed on a line whose debounce is now disabled is accepted (R180). -/
def acceptUndebounced (l : DebouncedLine) (s : State) : State :=
  if !s.debounceEnabled l && (s.debouncer l).timing.isSome then
    acceptDebounced l (s.conditioned (debouncedBit l)) s
  else s

/-- A write to 15H. Changes being timed on several lines whose debounce it disables are accepted in ascending bit order:
CASSETTE_PRESENT, LID_CLOSED, PAPER_PRESENT (log 16). -/
def writeDebounce (v : Byte) (s : State) : State :=
  acceptUndebounced .paperPresent (acceptUndebounced .lidClosed (acceptUndebounced .cassettePresent (acceptWrite v s)))

/-! ### Read-only entries and indexes that name none (R178) -/

/-- The refusal code of 16H, 17H, C8H and of C9H-FFH. -/
def readOnlyCode (i : Nat) : Option (BitVec 7) :=
  if i = 0x16 ∨ i = 0x17 ∨ i = 0xC8 then some 8 else if 0xC9 ≤ i then some 9 else none

/-! ### Reads (R175; 11.2) -/

/-- 17H: the accepted levels. -/
def State.sensorLevels (s : State) : Byte :=
  byteOf (bitByte s.cassettePresent 0 + bitByte s.lidClosed 1 + bitByte s.paperPresent 2)

/-- C8H: quiescence and the last refusal. -/
def State.statusEntry (s : State) : Byte := byteOf (bitByte s.quiescent 7 + s.config.lastRefusal.toNat)

/-- What a read of CFG_DATA returns at an index. A read of 16H also clears it (`execSensorEventStatusRead`). -/
def State.cfgRead (i : Nat) (s : State) : Byte :=
  if i = 0x00 then 0
  else if i = 0x16 then s.sensors.events.setWidth 8
  else if i = 0x17 then s.sensorLevels
  else if i = 0xC8 then s.statusEntry
  else s.entry i

/-- What a read of the window returns at a byte offset (10.5); none where there is no register. A read of a termination
status or of CFG_DATA at 16H also clears what it returns, by its own command. -/
def State.windowRead (offset : Nat) (s : State) : Option Word :=
  match offset with
  | 0x00 => some (s.channel 0).chain
  | 0x04 => some (s.controlRead 0)
  | 0x08 => some ((s.channel 0).term.setWidth 32)
  | 0x0C => some (s.channel 1).chain
  | 0x10 => some (s.controlRead 1)
  | 0x14 => some ((s.channel 1).term.setWidth 32)
  | 0x18 => some (s.attn.setWidth 32)
  | 0x1C => some (s.attnEn.setWidth 32)
  | 0x20 => some (s.config.index.setWidth 32)
  | 0x24 => some ((s.cfgRead s.cfgIndex).setWidth 32)
  | _ => none

/-! ### The composition reset (R179) -/

/-- Each block takes up the state that its own chapter gives for a composition reset. -/
def compositionReset (s : State) : State :=
  proofReset (exposureReset (photoReset (dictionaryReset (engineReset (galleysReset (catalogueReset (storeReset s)))))))

end Sys2Proof.Machine
end

