-- ==== Sys2Proof/Machine/ConfigWrites.lean ====
section
/-! DEFINITION. The meanings of the writes of the configuration space, and of the two resets of the part. A command of a
write to CFG_DATA arises where the configuration index names an entry of its row (log 11). -/

namespace Sys2Proof.Machine

/-- Every block in its power-up state. The levels on the pins, the queue and the count of free values stay (log 28). -/
def execPowerOnReset (s : State) : Answer := .next (State.powerOn s.sensors.inputs s.pending s.free)

/-- A write of 01H to entry 00H (R179). -/
def execCompositionReset (s : State) : Answer := eventReact (s.cfgIndex == 0x00) compositionReset s

/-- "A write to CFG_INDEX sets the configuration index to its bits 7-0" (R175). -/
def execCfgIndexWrite (v : Word) (s : State) : Answer :=
  event true (fun s => s.modConfig fun c => { c with index := v.setWidth 8 }) s

/-- A write to an entry that accepts every write (R176). A write to 00H stores nothing; of 01H it is a composition
reset. -/
def execConfigWrite (v : Byte) (s : State) : Answer :=
  if s.cfgIndex = 0x00 then eventReact (v == 0x01) compositionReset s
  else event (plainEntry s.cfgIndex) (acceptWrite v) s

/-- A write to 04H (R177). -/
def execTNomLowWrite (v : Byte) (s : State) : Answer :=
  event (s.cfgIndex == 0x04) (fun s => s.modConfig fun c => { c with tNomPending := some v }) s

/-- A write to 05H (R177). -/
def execTNomHighWrite (v : Byte) (s : State) : Answer := event (s.cfgIndex == 0x05) (writeTNomHigh v) s

/-- R178. -/
def execQuiescentConfigWrite (v : Byte) (s : State) : Answer :=
  event (quiescentGroup s.cfgIndex).isSome (writeQuiescent v) s

/-- A write to 12H (R16, R178). -/
def execStationMapWrite (v : Byte) (s : State) : Answer := event (s.cfgIndex == 0x12) (writeStationMap v) s

/-- A write to 13H or 14H (R180). -/
def execSensorInversionWrite (v : Byte) (s : State) : Answer :=
  eventReact (s.cfgIndex == 0x13 || s.cfgIndex == 0x14) (writeInversion v) s

/-- A write to 15H (R180). -/
def execDebounceEnableWrite (v : Byte) (s : State) : Answer := eventReact (s.cfgIndex == 0x15) (writeDebounce v) s

/-- R178. -/
def execReadOnlyEntryWrite (_v : Byte) (s : State) : Answer :=
  event (readOnlyCode s.cfgIndex).isSome (fun s => refuseWrite ((readOnlyCode s.cfgIndex).getD 0) s) s

end Sys2Proof.Machine
end

