-- ==== Sys2Proof/Machine/FilmEvents.lean ====
section
/-! DEFINITION. The meanings of the commands of the film stepper and the cutter. -/

namespace Sys2Proof.Machine

/-- R138. -/
def execFilmStep (s : State) : Answer := eventReact s.film.timer.isSome stepFilm s

/-- CUTTER_HOME rises (R148, R151). -/
def execCutComplete (s : State) : Answer :=
  eventReact true (fun s => cutterRose (s.setConditioned (sensorBit .cutterHome) true)) s

/-- R148, R151. -/
def execCutTimeout (s : State) : Answer := eventReact s.exposure.cutTimer.isSome cutTimedOut s

/-- CUTTER_HOME falls (R148, R151). -/
def execCutterHomeFall (s : State) : Answer :=
  event true (fun s => cutterFell (s.setConditioned (sensorBit .cutterHome) false)) s

end Sys2Proof.Machine
end

