-- ==== Sys2Proof/Machine/Timing.lean ====
section
/-! DEFINITION. Time: what the passing of ticks of 0.5 µs does, and the commands of the timers that are due (log 1,
log 31). -/

namespace Sys2Proof.Machine

/-- A timer is due when no tick of it is left. -/
def due (t : Option Nat) : Bool := t == some 0

def commandIf (b : Bool) (c : Instr) : List Instr := if b then [c] else []

/-- The acceptance of a debounced line's change to a level, as its own row has it. -/
def acceptanceOf (l : DebouncedLine) (level : Bool) : Instr :=
  match l, level with
  | .cassettePresent, false => .cassettePresentFall
  | .lidClosed, false => .lidClosedFall
  | .paperPresent, false => .paperPresentFall
  | .paperPresent, true => .paperPresentRise
  | l, level => .sensorChangeAccepted l level

/-- The acceptance of an encoder line's change to a level. -/
def encoderAcceptance (l : EncoderLine) (level : Bool) : Instr :=
  match l, level with
  | .index, true => .indexPulse 0
  | .slot, true => .slotPulse
  | l, false => .falseLevelAccepted l

def Lamp.timer : Lamp → Option Nat
  | .ready => none
  | .recharging n => some n

/-- The commands of the timers that are due, in the model's order of events of one moment (log 27). -/
def dueCommands (s : State) : List Instr :=
  let p := s.photo
  commandIf (due p.delay) .flashDelayExpiry ++
  commandIf (due p.lamp.timer) .flashComplete ++
  (encoderLines.flatMap fun l =>
    commandIf (due (s.encoder l).timing) (encoderAcceptance l (s.conditioned (encoderBit l)))) ++
  ([DebouncedLine.cassettePresent, .lidClosed, .paperPresent].flatMap fun l =>
    commandIf (due (s.debouncer l).timing) (acceptanceOf l (s.conditioned (debouncedBit l)))) ++
  commandIf (due p.indexTimer) .indexTimeout ++
  commandIf (due p.turretTimer) .turretTimeout ++
  commandIf (due p.lensTimer) .lensTimeout ++
  commandIf (due p.lockWatch) .lockWatchExpiry ++
  commandIf (due p.carriageTimer) .carriageStep ++
  commandIf (due s.film.timer) .filmStep ++
  commandIf (due s.exposure.cutTimer) .cutTimeout

def countDown (n : Nat) (t : Option Nat) : Option Nat := t.map (· - n)

def LineFilter.countDown (n : Nat) (f : LineFilter) : LineFilter := { f with timing := Machine.countDown n f.timing }

def Lamp.countDown (n : Nat) : Lamp → Lamp
  | .ready => .ready
  | .recharging k => .recharging (k - n)

/-- `n` ticks pass on every timer and on the count since the index pulse. -/
def advanceTime (n : Nat) (s : State) : State :=
  (((advanceCount n s).modPhoto fun p =>
      { p with
        indexTimer := countDown n p.indexTimer, turretTimer := countDown n p.turretTimer,
        lensTimer := countDown n p.lensTimer, carriageTimer := countDown n p.carriageTimer, lamp := p.lamp.countDown n,
        delay := countDown n p.delay, lockWatch := countDown n p.lockWatch }).modSensors fun x =>
      { x with
        index := x.index.countDown n, slot := x.slot.countDown n, cassette := x.cassette.countDown n,
        lid := x.lid.countDown n, paper := x.paper.countDown n }).modFilm
    (fun f => { f with timer := countDown n f.timer }) |>.modExposure
    fun e => { e with cutTimer := countDown n e.cutTimer }

/-- The timers of the part, none for one that is stopped. -/
def State.timers (s : State) : List (Option Nat) :=
  let p := s.photo
  let x := s.sensors
  [p.indexTimer, p.turretTimer, p.lensTimer, p.carriageTimer, p.lamp.timer, p.delay, p.lockWatch, x.index.timing,
   x.slot.timing, x.cassette.timing, x.lid.timing, x.paper.timing, s.film.timer, s.exposure.cutTimer]

/-- No running timer falls due before `n` ticks have passed. -/
def State.quietFor (n : Nat) (s : State) : Bool := s.timers.all fun t => t.all fun k => decide (n ≤ k)

/-- What a step does when no command waits: the command of the first timer that is due is put in the queue, so that a
timer that this command restarts is due no longer (R120); when none is due, one tick passes (log 1, log 27). -/
def tick (s : State) : State :=
  match dueCommands s with
  | [] => advanceTime 1 s
  | c :: _ => { s with pending := s.pending ++ [c] }

end Sys2Proof.Machine
end

