-- ==== Sys2Proof/Machine/Optics.lean ====
section
/-! DEFINITION. The meanings of the commands of the optical train: encoder pulses, disc timers, the lamp, the turret, the
lens and the carriage. An acceptance or an arrival brings its line to its level (log 13). -/

namespace Sys2Proof.Machine

/-- A line is brought to the true level, and its change is accepted. -/
def pulseAccepted (l : EncoderLine) (s : State) : State := acceptEncoder l true (s.setConditioned (encoderBit l) true)

/-- An index pulse, `elapsed` ticks after the last moment of the model's time, in which every timer runs. It does not
arise where a timer falls due before it: that event comes first (R116 to R119; log 15). -/
def execIndexPulse (elapsed : Nat) (s : State) : Answer :=
  event (s.quietFor elapsed) (fun s => pulseAccepted .index (advanceTime elapsed s)) s

/-- A slot pulse (R117, R122). -/
def execSlotPulse (s : State) : Answer := event true (pulseAccepted .slot) s

/-- The index timeout expires, and stops until the next index pulse (R120). -/
def execIndexTimeout (s : State) : Answer :=
  event s.photo.indexTimer.isSome (fun s => loseLock (s.modPhoto fun p => { p with indexTimer := none })) s

/-- The flash fires; a recharge time of 0 makes it complete in the same event (R123). -/
def fireFlash (s : State) : State :=
  let s1 := fireLamp s
  if s1.photo.lamp = .ready then flashReport s1 else s1

/-- The flash delay expires and the conditions are judged again (R123). -/
def delayExpires (s : State) : State :=
  let s1 := s.modPhoto fun p => { p with delay := none }
  match s1.photo.flash with
  | some q => if flashConditions q s1 then fireFlash s1 else s1
  | none => s1

/-- R123. -/
def execFlashDelayExpiry (s : State) : Answer := eventReact s.photo.delay.isSome delayExpires s

/-- The recharge ends: the lamp is READY, and the flash is reported complete unless a composition reset came between
(R123, R134, R142). -/
def rechargeEnds (s : State) : State :=
  let s1 := s.modPhoto fun p => { p with lamp := .ready }
  if s.photo.flashReported then flashReport s1 else s1

def execFlashComplete (s : State) : Answer := eventReact (s.photo.lamp != .ready) rechargeEnds s

def Turret.isStanding : Turret → Bool
  | .standing _ => true
  | _ => false

/-- TURRET_READY rises with the station and the disc code on the lines (R127). -/
def turretArrival (q : Station) (code : BitVec 4) (s : State) : State :=
  turretRises ((setTurretLines q code s).setConditioned (sensorBit .turretReady) true)

def execTurretArrival (q : Station) (code : BitVec 4) (s : State) : Answer :=
  eventReact (!s.photo.turret.isStanding) (turretArrival q code) s

/-- TURRET_READY falls (R126, R143). -/
def execTurretReadyFall (s : State) : Answer :=
  event true (fun s => turretFalls (s.setConditioned (sensorBit .turretReady) false)) s

/-- R128. -/
def execTurretTimeout (s : State) : Answer := eventReact s.photo.turretTimer.isSome turretTimesOut s

/-- The lock watch expires and stops (R129). -/
def execLockWatchExpiry (s : State) : Answer :=
  event s.photo.lockWatch.isSome (fun s => discFault (s.modPhoto fun p => { p with lockWatch := none })) s

def Lens.isMoving : Lens → Bool
  | .moving _ => true
  | _ => false

/-- LENS_READY rises while the lens is MOVING (R130). -/
def execLensArrival (s : State) : Answer :=
  event s.photo.lens.isMoving (fun s => lensRises (s.setConditioned (sensorBit .lensReady) true)) s

/-- LENS_READY falls (R130, R143). -/
def execLensReadyFall (s : State) : Answer :=
  event true (fun s => lensFalls (s.setConditioned (sensorBit .lensReady) false)) s

/-- R130. -/
def execLensTimeout (s : State) : Answer := event s.photo.lensTimer.isSome lensTimesOut s

/-- One step of the carriage, with the settling report (R131). -/
def execCarriageStep (s : State) : Answer :=
  event s.photo.carriageTimer.isSome (fun s => carriageReport (stepCarriage s)) s

/-- The ticks left of a change being timed on an encoder line, where its time is up before `n` ticks have passed. -/
def State.timedWithin (l : EncoderLine) (n : Nat) (s : State) : Option Nat :=
  (s.encoder l).timing.filter fun k => decide (k < n)

/-- The change being timed on an encoder line is accepted at the end of its `k` ticks: the level has held for the
rejection time (R116). -/
def acceptAfter (l : EncoderLine) (k : Nat) (s : State) : State :=
  acceptEncoder l (s.conditioned (encoderBit l)) (advanceTime k s)

/-- The `n` ticks before a change on an encoder line; a change of the same line whose time is up in them is accepted on
the way. -/
def timeBefore (l : EncoderLine) (n : Nat) (s : State) : State :=
  match s.timedWithin l n with
  | some k => advanceTime (n - k) (acceptAfter l k s)
  | none => advanceTime n s

/-- No other timer falls due before the change (log 15). -/
def State.quietBefore (l : EncoderLine) (n : Nat) (s : State) : Bool :=
  match s.timedWithin l n with
  | some k => s.quietFor k && (acceptAfter l k s).quietFor (n - k)
  | none => s.quietFor n

/-- The conditioned level of an encoder line changes, `elapsed` ticks after the last moment of the model's time, in which
every timer runs (R116; log 15). -/
def execEncoderLevelChange (l : EncoderLine) (level : Bool) (elapsed : Nat) (s : State) : Answer :=
  event (s.conditioned (encoderBit l) != level && s.quietBefore l elapsed)
    (fun s => encoderChanged l ((timeBefore l elapsed s).setConditioned (encoderBit l) level)) s

/-- A change back to the false level is accepted; it is not a pulse (R116). -/
def execFalseLevelAccepted (l : EncoderLine) (s : State) : Answer :=
  event ((s.encoder l).accepted || (s.encoder l).timing.isSome)
    (fun s => acceptEncoder l false (s.setConditioned (encoderBit l) false)) s

end Sys2Proof.Machine
end

