-- ==== Sys2Proof/Machine/Requests.lean ====
section
/-! DEFINITION. The meanings of the request commands. Each is the end of the fetch of a well-formed block with the
request's code, its handover and its taking by the owner, in one event (R166, R167; log 3). What each request does is in
the owner's file; the dictionary's requests are presented here and have their effect at the end of their operation. -/

namespace Sys2Proof.Machine

/-- A block of the given request code has been read by a FETCHING channel. -/
def requestEvent (code : Byte) (ch : ChannelId) (b : Block) (s : State) : Answer :=
  eventReact (s.fetching ch) (requestArrives ch { code := code, block := b }) s

/-! ### Font Catalogue -/

/-- R10. -/
def execLoadFont (ch : ChannelId) (b : Block) (s : State) : Answer := requestEvent 0x10 ch b s
/-- R11. -/
def execAmendFont (ch : ChannelId) (b : Block) (s : State) : Answer := requestEvent 0x11 ch b s
/-- R14. -/
def execPlaceFont (ch : ChannelId) (b : Block) (s : State) : Answer := requestEvent 0x12 ch b s
/-- R17. -/
def execRetireFont (ch : ChannelId) (b : Block) (s : State) : Answer := requestEvent 0x13 ch b s
/-- R19. -/
def execQueryFont (ch : ChannelId) (b : Block) (s : State) : Answer := requestEvent 0x14 ch b s

/-! ### Galley Intake -/

/-- R25. -/
def execOpenGalley (ch : ChannelId) (b : Block) (s : State) : Answer := requestEvent 0x30 ch b s
/-- R29. -/
def execSetText (ch : ChannelId) (b : Block) (s : State) : Answer := requestEvent 0x31 ch b s
/-- R31. -/
def execSetPriority (ch : ChannelId) (b : Block) (s : State) : Answer := requestEvent 0x32 ch b s
/-- R32. -/
def execCancelGalley (ch : ChannelId) (b : Block) (s : State) : Answer := requestEvent 0x33 ch b s
/-- R34. -/
def execQueryGalley (ch : ChannelId) (b : Block) (s : State) : Answer := requestEvent 0x34 ch b s

/-! ### Exception Dictionary -/

/-- R78. -/
def execAddWords (ch : ChannelId) (b : Block) (s : State) : Answer := requestEvent 0x20 ch b s
/-- R79. -/
def execAmendWord (ch : ChannelId) (b : Block) (s : State) : Answer := requestEvent 0x21 ch b s
/-- R80. -/
def execDeleteWord (ch : ChannelId) (b : Block) (s : State) : Answer := requestEvent 0x22 ch b s
/-- R81. -/
def execLookUpWord (ch : ChannelId) (b : Block) (s : State) : Answer := requestEvent 0x23 ch b s
/-- R82. -/
def execPurgeDesk (ch : ChannelId) (b : Block) (s : State) : Answer := requestEvent 0x24 ch b s

/-! ### Photo Unit -/

/-- R132. -/
def execVerifyStations (ch : ChannelId) (b : Block) (s : State) : Answer := requestEvent 0x50 ch b s
/-- R133. -/
def execQueryPhotoUnit (ch : ChannelId) (b : Block) (s : State) : Answer := requestEvent 0x51 ch b s

/-! ### Exposure Control and Film Transport -/

/-- R149. -/
def execLoadCassette (ch : ChannelId) (b : Block) (s : State) : Answer := requestEvent 0x40 ch b s
/-- R146. -/
def execResumeExposure (ch : ChannelId) (b : Block) (s : State) : Answer := requestEvent 0x41 ch b s
/-- R150. -/
def execAdvanceFilm (ch : ChannelId) (b : Block) (s : State) : Answer := requestEvent 0x42 ch b s
/-- R151. -/
def execCutFilm (ch : ChannelId) (b : Block) (s : State) : Answer := requestEvent 0x43 ch b s
/-- R152. -/
def execQueryExposure (ch : ChannelId) (b : Block) (s : State) : Answer := requestEvent 0x44 ch b s

/-! ### Proof Generator -/

/-- R155. -/
def execLoadProofCells (ch : ChannelId) (b : Block) (s : State) : Answer := requestEvent 0x60 ch b s
/-- R162. -/
def execQueryProof (ch : ChannelId) (b : Block) (s : State) : Answer := requestEvent 0x61 ch b s

end Sys2Proof.Machine
end

