-- ==== Sys2Proof/Machine/SensorEvents.lean ====
section
/-! DEFINITION. The meanings of the commands of the sensor lines and of the printer port. -/

namespace Sys2Proof.Machine

/-- The line is brought to a level, and the change is accepted (log 13). -/
def acceptance (l : DebouncedLine) (level : Bool) (s : State) : State :=
  acceptDebounced l level (s.setConditioned (debouncedBit l) level)

/-- A change of a debounced line to a level, where it has not that level yet. -/
def acceptanceEvent (l : DebouncedLine) (level : Bool) (s : State) : Answer :=
  eventReact ((s.debouncer l).accepted != level) (acceptance l level) s

/-- R145, R124. -/
def execLidClosedFall (s : State) : Answer := acceptanceEvent .lidClosed false s

/-- R145. -/
def execCassettePresentFall (s : State) : Answer := acceptanceEvent .cassettePresent false s

/-- R160. -/
def execPaperPresentFall (s : State) : Answer := acceptanceEvent .paperPresent false s

/-- R160. -/
def execPaperPresentRise (s : State) : Answer := acceptanceEvent .paperPresent true s

/-- R181. -/
def execSensorChangeAccepted (l : DebouncedLine) (level : Bool) (s : State) : Answer := acceptanceEvent l level s

/-- The conditioned level of a line changes (R180; log 14). -/
def execSensorLevelChange (l : SensorLine) (level : Bool) (s : State) : Answer :=
  eventReact (s.conditioned (sensorBit l) != level)
    (fun s => sensorChanged l (s.setConditioned (sensorBit l) level)) s

/-- A read of 16H returns the event bits and clears them (R181). -/
def execSensorEventStatusRead (s : State) : Answer :=
  event (s.cfgIndex == 0x16)
    (fun s => ({ s with readData := s.sensors.events.setWidth 32 }).modSensors fun x => { x with events := 0 }) s

/-- The printer port reads the level at its next transfer (R159). -/
def execPrinterBusyChange (level : Bool) (s : State) : Answer :=
  event (s.printerBusy != level) (fun s => s.setConditioned (sensorBit .printerBusy) level) s

/-- R159, R161. -/
def execPortTransfer (s : State) : Answer := eventReact s.portReady transfer s

end Sys2Proof.Machine
end

