-- ==== Sys2Proof/Machine/Dispatch.lean ====
section
/-! DEFINITION. The meaning of each command. -/

namespace Sys2Proof.Machine

open Sys2Proof

def exec (i : Instr) (s : State) : Host.Outcome State Fault Refusal :=
  match i with
  | .powerOnReset => Sys2Proof.Machine.execPowerOnReset s
  | .compositionReset => Sys2Proof.Machine.execCompositionReset s
  | .loadFont ch b => Sys2Proof.Machine.execLoadFont ch b s
  | .amendFont ch b => Sys2Proof.Machine.execAmendFont ch b s
  | .placeFont ch b => Sys2Proof.Machine.execPlaceFont ch b s
  | .retireFont ch b => Sys2Proof.Machine.execRetireFont ch b s
  | .queryFont ch b => Sys2Proof.Machine.execQueryFont ch b s
  | .openGalley ch b => Sys2Proof.Machine.execOpenGalley ch b s
  | .setText ch b => Sys2Proof.Machine.execSetText ch b s
  | .setPriority ch b => Sys2Proof.Machine.execSetPriority ch b s
  | .cancelGalley ch b => Sys2Proof.Machine.execCancelGalley ch b s
  | .queryGalley ch b => Sys2Proof.Machine.execQueryGalley ch b s
  | .takeItem => Sys2Proof.Machine.execTakeItem s
  | .settleWord => Sys2Proof.Machine.execSettleWord s
  | .lookupAnswer => Sys2Proof.Machine.execLookupAnswer s
  | .dictionaryOperationComplete => Sys2Proof.Machine.execDictionaryOperationComplete s
  | .addWords ch b => Sys2Proof.Machine.execAddWords ch b s
  | .amendWord ch b => Sys2Proof.Machine.execAmendWord ch b s
  | .deleteWord ch b => Sys2Proof.Machine.execDeleteWord ch b s
  | .lookUpWord ch b => Sys2Proof.Machine.execLookUpWord ch b s
  | .purgeDesk ch b => Sys2Proof.Machine.execPurgeDesk ch b s
  | .indexPulse elapsed => Sys2Proof.Machine.execIndexPulse elapsed s
  | .slotPulse => Sys2Proof.Machine.execSlotPulse s
  | .indexTimeout => Sys2Proof.Machine.execIndexTimeout s
  | .flashDelayExpiry => Sys2Proof.Machine.execFlashDelayExpiry s
  | .flashComplete => Sys2Proof.Machine.execFlashComplete s
  | .turretArrival pos code => Sys2Proof.Machine.execTurretArrival pos code s
  | .turretReadyFall => Sys2Proof.Machine.execTurretReadyFall s
  | .turretTimeout => Sys2Proof.Machine.execTurretTimeout s
  | .lockWatchExpiry => Sys2Proof.Machine.execLockWatchExpiry s
  | .lensArrival => Sys2Proof.Machine.execLensArrival s
  | .lensReadyFall => Sys2Proof.Machine.execLensReadyFall s
  | .lensTimeout => Sys2Proof.Machine.execLensTimeout s
  | .carriageStep => Sys2Proof.Machine.execCarriageStep s
  | .verifyStations ch b => Sys2Proof.Machine.execVerifyStations ch b s
  | .queryPhotoUnit ch b => Sys2Proof.Machine.execQueryPhotoUnit ch b s
  | .filmStep => Sys2Proof.Machine.execFilmStep s
  | .cutComplete => Sys2Proof.Machine.execCutComplete s
  | .cutTimeout => Sys2Proof.Machine.execCutTimeout s
  | .loadCassette ch b => Sys2Proof.Machine.execLoadCassette ch b s
  | .resumeExposure ch b => Sys2Proof.Machine.execResumeExposure ch b s
  | .advanceFilm ch b => Sys2Proof.Machine.execAdvanceFilm ch b s
  | .cutFilm ch b => Sys2Proof.Machine.execCutFilm ch b s
  | .queryExposure ch b => Sys2Proof.Machine.execQueryExposure ch b s
  | .lidClosedFall => Sys2Proof.Machine.execLidClosedFall s
  | .cassettePresentFall => Sys2Proof.Machine.execCassettePresentFall s
  | .paperPresentFall => Sys2Proof.Machine.execPaperPresentFall s
  | .paperPresentRise => Sys2Proof.Machine.execPaperPresentRise s
  | .sensorChangeAccepted line level => Sys2Proof.Machine.execSensorChangeAccepted line level s
  | .printerBusyChange level => Sys2Proof.Machine.execPrinterBusyChange level s
  | .loadProofCells ch b => Sys2Proof.Machine.execLoadProofCells ch b s
  | .queryProof ch b => Sys2Proof.Machine.execQueryProof ch b s
  | .portTransfer => Sys2Proof.Machine.execPortTransfer s
  | .start ch stopBit => Sys2Proof.Machine.execStart ch stopBit s
  | .stop ch => Sys2Proof.Machine.execStop ch s
  | .channelReset ch => Sys2Proof.Machine.execChannelReset ch s
  | .chainRegisterWrite ch value => Sys2Proof.Machine.execChainRegisterWrite ch value s
  | .fetchComplete ch f => Sys2Proof.Machine.execFetchComplete ch f s
  | .detachedMarkClear ch => Sys2Proof.Machine.execDetachedMarkClear ch s
  | .postingComplete ch fault => Sys2Proof.Machine.execPostingComplete ch fault s
  | .terminationStatusRead ch => Sys2Proof.Machine.execTerminationStatusRead ch s
  | .attnWrite value => Sys2Proof.Machine.execAttnWrite value s
  | .attnEnWrite value => Sys2Proof.Machine.execAttnEnWrite value s
  | .cfgIndexWrite value => Sys2Proof.Machine.execCfgIndexWrite value s
  | .configWrite value => Sys2Proof.Machine.execConfigWrite value s
  | .tNomLowWrite value => Sys2Proof.Machine.execTNomLowWrite value s
  | .tNomHighWrite value => Sys2Proof.Machine.execTNomHighWrite value s
  | .quiescentConfigWrite value => Sys2Proof.Machine.execQuiescentConfigWrite value s
  | .stationMapWrite value => Sys2Proof.Machine.execStationMapWrite value s
  | .sensorInversionWrite value => Sys2Proof.Machine.execSensorInversionWrite value s
  | .debounceEnableWrite value => Sys2Proof.Machine.execDebounceEnableWrite value s
  | .sensorEventStatusRead => Sys2Proof.Machine.execSensorEventStatusRead s
  | .cutterHomeFall => Sys2Proof.Machine.execCutterHomeFall s
  | .encoderLevelChange line level elapsed => Sys2Proof.Machine.execEncoderLevelChange line level elapsed s
  | .falseLevelAccepted line => Sys2Proof.Machine.execFalseLevelAccepted line s
  | .sensorLevelChange line level => Sys2Proof.Machine.execSensorLevelChange line level s
  | .readOnlyEntryWrite value => Sys2Proof.Machine.execReadOnlyEntryWrite value s

end Sys2Proof.Machine
end

