-- ==== Sys2Proof/Safety.lean ====
section
/-! DEFINITION. What the statements say of a state: how an event and what follows of itself are written, how a
completed request stands in its channel, the fields of a reply, the requests that owners hold, what reports of references
and an ADD WORDS list do, the glyph steps of a line, the flash conditions in words of State, and the invariants. -/

namespace Sys2Proof.Machine

/-! ### Events -/

/-- Nothing comes about of itself in this state: no reaction applies (log 4). -/
def State.settled (s : State) : Bool := (reactOnce s).isNone

/-- The state at the start of an event: the pulses of the event before are over (log 26). -/
def State.fresh (s : State) : State := { s with pulses := [] }

/-- The event brings the part to `t`, and then what follows of itself comes about. From a settled state nothing
follows. -/
def EventTo (o : Answer) (s t : State) : Prop := o = .next (react t) ∧ (s.settled → o = .next t)

/-! ### Channels with a request -/

/-- The channel has no unfinished business with an owner and is fetching a block. -/
def State.readyFor (ch : ChannelId) (s : State) : Prop :=
  (s.channel ch).state = .fetching ∧ (s.channel ch).blockRead = none ∧ (s.channel ch).detached = false

/-- Channel `ch` waits with request `q` in flight, and its completion will be posted. -/
def State.handed (ch : ChannelId) (q : Request) (s : State) : Prop :=
  (s.channel ch).state = .waiting ∧ (s.channel ch).inFlight = some q ∧ (s.channel ch).blockRead = none ∧
  (s.channel ch).detached = false

/-- Channel `ch` waits for the owner of its request (R167). -/
def State.waits (ch : ChannelId) (r : Request) (s : State) : State :=
  s.modChannel ch fun k => { k with state := .waiting, inFlight := some r, blockRead := none, posting := none }

/-- The request of channel `ch` is completed and is being posted (R168). -/
def State.posts (ch : ChannelId) (r : Request) (c : Completion) (detail : Half) (reply : List Byte) (s : State) :
    State :=
  s.modChannel ch fun k =>
    { k with state := .posting, inFlight := none, blockRead := none,
             posting := some { request := r, completion := c, detail := detail, reply := reply } }

/-- The request is refused with a detail that the manual does not state: a free value (log 7). -/
def State.refuses (ch : ChannelId) (r : Request) (c : Completion) (s : State) : State :=
  (s.posts ch r c (Config.unstatedDetail s.free) []).bumpFree

/-- The channel has ended its chain with a code (R169). -/
def State.ended (ch : ChannelId) (code : BitVec 3) (s : State) : State :=
  (s.modChannel ch fun k =>
    { k with state := .terminated, term := code, stop := false, blockRead := none, posting := none }).raise (.channel ch)

/-- A reply holds a value of `n` bytes at byte `k`, the least significant byte first (10.7). -/
def Reports (reply : List Byte) (k n value : Nat) : Prop :=
  ∀ i, i < n → reply[k + i]? = some (BitVec.ofNat 8 (value / 256 ^ i))

/-! ### Requests that owners hold, references, lists of entries -/

/-- The channels of the requests that an owner holds: held amends (R11), waiting texts (R29), dictionary requests presented
and taken and a purge (R73, R82), a visit of the stations (R132) and a free film move (R150, R151). -/
def State.heldBy (s : State) : List ChannelId :=
  ((List.finRange 32).filterMap fun i => (s.font i).amend.map (·.channel)) ++
  ((List.finRange 8).flatMap fun g => (s.galley g).waiting.map (·.channel)) ++
  ((List.finRange 2).filter fun ch => (vget s.dict.presented ch).isSome) ++
  (match s.dict.running with
   | some (.request ch _ _ _) => [ch]
   | _ => []) ++
  (s.dict.purge.map (·.channel)).toList ++ (s.photo.verify.map (·.channel)).toList ++
  match s.exposure.work with
  | .advanceFilm ch _ | .cutFilm ch _ => [ch]
  | _ => []

/-- The request of channel `ch` is completed: it is posted, or dropped where the channel has been reset since (R167,
R172). -/
def State.answered (s t : State) (ch : ChannelId) (c : Completion) (detail : Half) : Prop :=
  (∀ r, s.handed ch r → t.channel ch = (s.posts ch r c detail []).channel ch) ∧
  ((s.channel ch).detached = true → t.channel ch = { s.channel ch with detached := false })

/-- A record after an event that raises its line references by `up` and lowers its line, partial and current references
(R6 to R9). One lowered to none is EMPTY if it was RETIRING; a held amend is applied where the last partial reference is
gone (R12). -/
def RecordAfter (r r' : FontRecord) (up line partials current : Nat) : Prop :=
  let counted := { r with
    lineRefs := r.lineRefs + up - line, partialRefs := r.partialRefs - partials,
    currentRefs := r.currentRefs - current }
  let lowered := 0 < line + partials + current
  let unreferenced := counted.lineRefs = 0 ∧ counted.partialRefs = 0 ∧ counted.currentRefs = 0
  (r.state = .empty → r' = counted) ∧
  (r.state = .live → (r.amend = none ∨ ¬ lowered ∨ 0 < counted.partialRefs) → r' = counted) ∧
  (∀ a, r.state = .live → r.amend = some a → lowered → counted.partialRefs = 0 →
    r' = { counted with
      widths := a.parts.widths.getD r.widths, kerning := a.parts.kerning.getD r.kerning,
      name := a.parts.name.getD r.name, proofSet := a.parts.proofSet.getD r.proofSet, revision := r.revision + 1,
      amend := none }) ∧
  (r.state = .retiring → (¬ lowered ∨ ¬ unreferenced) → r' = counted) ∧
  (r.state = .retiring → lowered → unreferenced → r'.state = .empty ∧ r'.kerning = [])

/-- An event's reports of references: every record as `RecordAfter` has it, and the request of each amend that it applies
completed with the new revision (R12). -/
def ReferencesReported (s t : State) (up line partials current : FontSlot → Nat) : Prop :=
  (∀ j, RecordAfter (s.font j) (t.font j) (up j) (line j) (partials j) (current j)) ∧
  ∀ j a, (s.font j).state = .live → (s.font j).amend = some a → (t.font j).amend = none →
    s.answered t a.channel (if a.clamped then .doneClamped else .done) (((s.font j).revision + 1).setWidth 16)

/-- The entries at the head of an ADD WORDS list, added in turn: each at the head of the chain of its word's bucket, none
present before and with room for it. `q` is what follows them in the payload, and `left` the dictionary with them (R78). -/
def EntriesAdded (m : Vector Byte 96) (tag : Nat) :
    List Entry → List Byte → Vector (List Entry) 512 → List Byte → Vector (List Entry) 512 → Prop
  | [], p, chains, q, left => q = p ∧ left = chains
  | e :: es, p, chains, q, left => ∃ rest, takeEntry m tag p = some (e, rest) ∧ findEntry e.word chains = none ∧
    entryCount chains < 2048 ∧
    EntriesAdded m tag es rest (vset chains (bucketOf e.word) (e :: vget chains (bucketOf e.word))) q left

/-- A stored line that has a glyph of font slot `j`. -/
def LineRecord.hasGlyphOf (r : LineRecord) (j : FontSlot) : Bool := r.glyphs.any fun g => g.slot == j

/-- A font slot has a glyph in a galley's partial line or current word (R8). -/
def Builder.hasGlyphOf (b : Builder) (j : FontSlot) : Bool :=
  (b.items.any fun i => match i with | .glyph g => g.slot == j | .space _ => false) || b.word.any fun g => g.slot == j

/-! ### The glyph steps of a line (R140 to R142) -/

/-- The line in exposure is at a step, and not held. -/
def AtStep (l : LineWork) (step : LineStep) (t : State) : Prop :=
  t.exposure.work = .line { l with step := step } ∧ t.exposure.hold = none

/-- The line is held at a step with a reason, in the event of its cause (R144). -/
def HeldAt (l : LineWork) (step : LineStep) (why : HoldReason) (t : State) : Prop :=
  t.exposure.work = .line { l with step := step } ∧ t.exposure.hold = some why ∧ t.raised .expHold = true ∧
  t.photo.flash = none ∧ t.photo.delay = none ∧ t.film.move = none

/-- The shutter is set to the placement's track, and the flash request of the glyph is armed (R125, R141, R142). -/
def GlyphArmed (l : LineWork) (g : SetGlyph) (p : Placement) (x : LensPos) (t : State) : Prop :=
  AtStep l .armed t ∧ t.photo.shutter = p.track ∧ t.photo.delay = none ∧
  t.photo.flash = some { code := g.code, slot := g.slot, lens := x, x := g.x }

/-- The carriage is commanded to the glyph's x, and the glyph is armed at once where it is settled there (R131, R141). -/
def CarriageCommanded (l : LineWork) (g : SetGlyph) (p : Placement) (x : LensPos) (s t : State) : Prop :=
  let target := min 17280 g.x
  t.photo.position = s.photo.position ∧
  match s.photo.carriage with
  | .homing n _ => AtStep l .carriage t ∧ t.photo.carriage = .homing n (some target)
  | .settled =>
    if s.photo.position = target then GlyphArmed l g p x t ∧ t.photo.carriage = .settled
    else AtStep l .carriage t ∧ t.photo.carriage = .stepping target ∧ t.photo.carriageTimer = some s.carriagePeriod
  | .stepping _ =>
    if s.photo.position = target then
      GlyphArmed l g p x t ∧ t.photo.carriage = .settled ∧ t.photo.carriageTimer = none
    else AtStep l .carriage t ∧ t.photo.carriage = .stepping target

/-- The lens is commanded to the glyph's lens position, and the carriage at once where it stands there (R130, R141). -/
def LensCommanded (l : LineWork) (g : SetGlyph) (p : Placement) (x : LensPos) (s t : State) : Prop :=
  if s.photo.lens = .standing x then t.photo.lens = .standing x ∧ t.pulses = s.pulses ∧ CarriageCommanded l g p x s t
  else
    AtStep l .lens t ∧ t.photo.lens = .moving x ∧ t.photo.lensTimer = some s.lensTime ∧ t.photo.lensExpired = false ∧
    t.drives.lensTarget = x ∧ t.pulses = s.pulses ++ [.lensMove x]

/-- The turret is commanded to a station at which it does not stand, which unlocks the disc (R120, R126, R141). -/
def TurretCommanded (l : LineWork) (q : Station) (s t : State) : Prop :=
  AtStep l .turret t ∧ t.photo.turret = .moving (some q) (some .exposure) ∧ t.photo.turretTimer = some s.turretTime ∧
  t.photo.turretExpired = false ∧ t.photo.disc = .unlocked ∧ t.photo.disturbed = true ∧ t.photo.delay = none ∧
  t.photo.lockWatch = none ∧ t.photo.latched = none ∧ t.drives.turretTarget = q ∧
  t.pulses = s.pulses ++ [.turretMove q]

/-- The glyph decision and the positioning that follows it (R140, R141; the disc fault note of R143, log 17). The
verification of a font whose station the turret stands at is judged by the code on the lines there (check 4). -/
def GlyphDecided (l : LineWork) (g : SetGlyph) (s t : State) : Prop :=
  let font := s.font g.slot
  let at_ := fun q : Station => s.photo.turret = .standing q
  (s.film.loaded = false → HeldAt l .decision .cassetteOut t) ∧
  (s.film.loaded = true → font.placement = none → HeldAt l .decision .fontUnplaced t) ∧
  ∀ p, s.film.loaded = true → font.placement = some p →
    let q := s.stationMap p.station
    let judged :=
      if font.verification = .unverified ∧ at_ q ∧ font.state ≠ .empty then
        if p.code = s.discCodeLines then Verification.verified else .mismatch
      else font.verification
    let fault := s.exposure.note = true ∧ s.photo.disc ≠ .locked
    (t.font g.slot).verification = judged ∧
    (judged = .mismatch → HeldAt l .decision .discMismatch t) ∧
    (judged ≠ .mismatch → fault → HeldAt l .decision .discFault t) ∧
    (judged ≠ .mismatch → ¬ fault → t.exposure.note = false ∧
      (¬ at_ q → TurretCommanded l q s t) ∧
      ∀ x, at_ q → s.lensFor g.size = some x → LensCommanded l g p x s t)

/-! ### Invariants -/

/-- Every value in the configuration space is one that a write may leave there (R176, R177, R178). -/
def ConfigLegal (c : ConfigSpace) : Prop :=
  (∀ i : Fin 201, vget c.entries i &&& ~~~definedBits i.val = 0) ∧
  (vget c.entries 0x11).toNat ≤ 95 ∧
  isPermutation (vget c.entries 0x12) ∧
  (∀ i : Fin 201, 0x20 ≤ i.val → i.val ≤ 0x7F → (vget c.entries i).toNat ≤ 40) ∧
  2500 ≤ (vget c.entries 0x04).toNat + 256 * (vget c.entries 0x05).toNat ∧
  (vget c.entries 0x04).toNat + 256 * (vget c.entries 0x05).toNat ≤ 10000 ∧
  c.lastRefusal.toNat ≤ 9

/-- The undefined bits of the window registers read 0 (R164). -/
def WindowLegal (s : State) : Prop :=
  s.attn &&& ~~~attnDefined = 0 ∧ s.attnEn &&& ~~~attnDefined = 0 ∧
  ∀ ch, (s.channel ch).chain &&& 3 = 0

/-- An entry has a well-formed word, legal positions and a legal desk tag (R70, R71, R78). -/
def EntryLegal (e : Entry) : Prop :=
  2 ≤ e.word.length ∧ e.word.length ≤ 32 ∧ (∀ l ∈ e.word, 1 ≤ l ∧ l ≤ 40) ∧ e.tag ≤ 15 ∧
  match e.kind with
  | .allow =>
    1 ≤ e.positions.length ∧ e.positions.length ≤ 15 ∧ e.positions.Pairwise (· < ·) ∧
    ∀ p ∈ e.positions, 1 ≤ p ∧ p < e.word.length
  | .never => e.positions = []

/-- Every entry is legal and stands in the chain of its word's bucket, no two entries share a word, and there are at
most 2,048 (R70, R72). The code map that a running request read at its taking has letter IDs of at most 40. -/
def DictionaryLegal (s : State) : Prop :=
  (∀ b : Fin 512, ∀ e ∈ vget s.dict.chains b, EntryLegal e ∧ bucketOf e.word = b) ∧
  (∀ b : Fin 512, ((vget s.dict.chains b).map (·.word)).Nodup) ∧
  entryCount s.dict.chains ≤ 2048 ∧
  ∀ ch r prot m, s.dict.running = some (.request ch r prot m) → ∀ i : Fin 96, (vget m i).toNat ≤ 40

/-- The conditions of R122 for a request, written out. -/
def FlashAllowed (q : FlashRequest) (s : State) : Prop :=
  s.photo.disc = .locked ∧
  (∃ p, (s.font q.slot).placement = some p ∧ s.photo.turret = .standing (s.stationMap p.station) ∧
    (s.font q.slot).verification = .verified ∧ s.photo.shutter = p.track) ∧
  s.photo.lens = .standing q.lens ∧ s.photo.carriage = .settled ∧ s.photo.position = q.x ∧
  s.photo.lamp = .ready ∧ s.lidClosed = true

/-- A flash delay runs only for an armed request, and only while the disc is LOCKED (R122, R124). -/
def DelayGuarded (s : State) : Prop :=
  s.photo.delay.isSome → s.photo.disc = .locked ∧ s.photo.flash.isSome

/-- No two LIVE records share a font number, and every LIVE record has one of 1-250 (R2, R10). -/
def FontNumbersUnique (s : State) : Prop :=
  (∀ i, (s.font i).state = .live → 1 ≤ (s.font i).number ∧ (s.font i).number ≤ 250) ∧
  ∀ i j, (s.font i).state = .live → (s.font j).state = .live → (s.font i).number = (s.font j).number → i = j

/-- A channel waits exactly while it has a request in flight, and posts exactly while it has a posting (R164, R167). -/
def ChannelConsistent (k : Channel) : Prop :=
  (k.state = .waiting ↔ k.inFlight.isSome) ∧ (k.state = .posting ↔ k.posting.isSome)

/-- No channel has two requests with owners. A channel whose request an owner holds waits for it, or has been reset since
(R167, R172). -/
def HeldOnce (s : State) : Prop :=
  s.heldBy.Nodup ∧ ∀ ch ∈ s.heldBy, (s.channel ch).state = .waiting ∨ (s.channel ch).detached = true

/-- The list of a galley names its stored lines, each once (R101, R102). -/
def StoreLegal (t : Store) : Prop :=
  (∀ g, (vget t.order g).Nodup) ∧ ∀ g k, k ∈ vget t.order g ↔ ∃ r, vget t.slots k = some r ∧ r.galley = g

end Sys2Proof.Machine
end

