-- ==== Sys2Proof/Certificates/Slice0/Obligations.lean ====
section
/-! DEFINITION. The statements for the provers, `def Obligations.<Name> : Prop` each. Where a statement says that an
event brings the part to a state (`EventTo`), the state is written out from the state before: what is not written is
unchanged. -/

open Sys2Proof Sys2Proof.Machine

/-! ### The machine -/

/-- A step of a state with a command at the front of its queue is that command's meaning on the state with the queue's
rest. -/
def Obligations.StepCarriesOutTheFrontCommand : Prop :=
  ∀ (c : Instr) (s : State), step { s with pending := c :: s.pending } = exec c s

/-- The model's choice (log 1, log 27, log 31): on an empty queue a step puts the command of the first timer that is due
in the queue. When no timer is due it lets one tick pass. Ticks that pass count every running timer down, those of the
five line filters and of the lamp among them, and the count since the index pulse up, at most to 16,777,215; they change
nothing else. -/
def Obligations.EmptyQueueLetsATickPass : Prop :=
  (∀ (n : Nat) (s : State),
    let down := fun t : Option Nat => t.map (· - n)
    let filter := fun f : LineFilter => { f with timing := down f.timing }
    advanceTime n s =
      { s with
        photo := { s.photo with
          count := if s.photo.counting then min 16777215 (s.photo.count + n) else s.photo.count
          indexTimer := down s.photo.indexTimer, turretTimer := down s.photo.turretTimer
          lensTimer := down s.photo.lensTimer, carriageTimer := down s.photo.carriageTimer
          delay := down s.photo.delay, lockWatch := down s.photo.lockWatch
          lamp := match s.photo.lamp with | .ready => .ready | .recharging k => .recharging (k - n) }
        sensors := { s.sensors with
          index := filter s.sensors.index, slot := filter s.sensors.slot, cassette := filter s.sensors.cassette
          lid := filter s.sensors.lid, paper := filter s.sensors.paper }
        film := { s.film with timer := down s.film.timer }
        exposure := { s.exposure with cutTimer := down s.exposure.cutTimer } }) ∧
  ∀ s : State, s.pending = [] →
    (dueCommands s = [] ↔ s.photo.lamp ≠ .recharging 0 ∧
      ∀ t ∈ [s.photo.indexTimer, s.photo.turretTimer, s.photo.lensTimer, s.photo.carriageTimer, s.photo.delay,
          s.photo.lockWatch, s.sensors.index.timing, s.sensors.slot.timing, s.sensors.cassette.timing,
          s.sensors.lid.timing, s.sensors.paper.timing, s.film.timer, s.exposure.cutTimer], t ≠ some 0) ∧
    ((.flashDelayExpiry ∈ dueCommands s ↔ s.photo.delay = some 0) ∧
      (.flashComplete ∈ dueCommands s ↔ s.photo.lamp = .recharging 0) ∧
      (.indexTimeout ∈ dueCommands s ↔ s.photo.indexTimer = some 0) ∧
      (.turretTimeout ∈ dueCommands s ↔ s.photo.turretTimer = some 0) ∧
      (.lensTimeout ∈ dueCommands s ↔ s.photo.lensTimer = some 0) ∧
      (.lockWatchExpiry ∈ dueCommands s ↔ s.photo.lockWatch = some 0) ∧
      (.carriageStep ∈ dueCommands s ↔ s.photo.carriageTimer = some 0) ∧
      (.filmStep ∈ dueCommands s ↔ s.film.timer = some 0) ∧
      (.cutTimeout ∈ dueCommands s ↔ s.exposure.cutTimer = some 0) ∧
      (.indexPulse 0 ∈ dueCommands s ↔ s.sensors.index.timing = some 0 ∧ s.conditioned 0 = true) ∧
      (.slotPulse ∈ dueCommands s ↔ s.sensors.slot.timing = some 0 ∧ s.conditioned 1 = true) ∧
      (∀ l, .falseLevelAccepted l ∈ dueCommands s ↔
        (s.encoder l).timing = some 0 ∧ s.conditioned (encoderBit l) = false) ∧
      ∀ l, (s.debouncer l).timing = some 0 →
        acceptanceOf l (s.conditioned (debouncedBit l)) ∈ dueCommands s) ∧
    (∀ c rest, dueCommands s = c :: rest → step s = .next { s with pending := [c] }) ∧
    (dueCommands s = [] → step s = .next (advanceTime 1 s))

/-- The model's choice: a command whose event cannot arise in the state leaves the state as it is (log 2), so every command
answers a next state; the model has no fault and refuses no command. No command touches the queue of those that wait
(log 1). -/
def Obligations.EveryCommandAnswersANextState : Prop :=
  ∀ (c : Instr) (s : State), ∃ t, exec c s = .next t ∧ t.pending = s.pending

/-! ### Invariants -/

/-- The state after power-on reset has every invariant below, and nothing comes about of itself in it. -/
def Obligations.ResetStateHasEveryInvariant : Prop :=
  ConfigLegal State.reset.config ∧ WindowLegal State.reset ∧ DictionaryLegal State.reset ∧ DelayGuarded State.reset ∧
  FontNumbersUnique State.reset ∧ (∀ ch, ChannelConsistent (State.reset.channel ch)) ∧ HeldOnce State.reset ∧
  StoreLegal State.reset.store ∧ State.reset.settled = true

/-- R176, R177, R178. Every step keeps the configuration space legal: the hyphen glyph code at most 95, the station map a
permutation, every code map entry at most 40, T_nom within 2,500 to 10,000, and no undefined bit set. -/
def Obligations.EveryStepKeepsTheConfigurationLegal : Prop :=
  ∀ s t : State, ConfigLegal s.config → step s = .next t → ConfigLegal t.config

/-- R164. Every step keeps the undefined bits of ATTN and ATTN_EN and the low two bits of the chain registers 0. -/
def Obligations.EveryStepKeepsTheWindowRegistersLegal : Prop :=
  ∀ s t : State, WindowLegal s → step s = .next t → WindowLegal t

/-- R70, R71, R72, R78, R79, R82. Every step keeps the dictionary legal: at most 2,048 entries, each in the chain of its
word's bucket, no two of one word, each with 2 to 32 letters of 1 to 40, legal positions and a legal desk tag. -/
def Obligations.EveryStepKeepsTheDictionaryLegal : Prop :=
  ∀ s t : State, ConfigLegal s.config → DictionaryLegal s → step s = .next t → DictionaryLegal t

/-- R122, R123, R124. The lamp is triggered by the expiry of a flash delay only, for the armed request and with all the flash
conditions holding: the disc LOCKED, the turret at the placement's station with the font VERIFIED, the lens, the carriage
and the shutter in position, the lamp READY and the lid closed. Every step keeps a flash delay running only for an armed
request and with the disc LOCKED. -/
def Obligations.LampFiresOnlyUnderTheFlashConditions : Prop :=
  (∀ s t : State, .lamp ∉ s.pulses → step s = .next t → .lamp ∈ t.pulses →
    ∃ rest q, s.pending = .flashDelayExpiry :: rest ∧ s.photo.delay.isSome ∧ s.photo.flash = some q ∧ FlashAllowed q s) ∧
  ∀ s t : State, DelayGuarded s → step s = .next t → DelayGuarded t

/-- R2. No step makes two LIVE records share a font number. -/
def Obligations.EveryStepKeepsFontNumbersUnique : Prop :=
  ∀ s t : State, FontNumbersUnique s → step s = .next t → FontNumbersUnique t

/-- R164, R167, R168. Every step keeps a channel WAITING exactly while a request of it is in flight, and POSTING exactly
while it has a posting. -/
def Obligations.EveryStepKeepsChannelsConsistent : Prop :=
  ∀ s t : State, (∀ ch, ChannelConsistent (s.channel ch)) → step s = .next t →
    ∀ ch, ChannelConsistent (t.channel ch)

/-- R101, R102, R167, R172. Every step keeps the requests that owners hold apart: at most one of a channel, whose channel
waits for it or has been reset since. And it keeps every galley's list the list of its stored lines, each once. -/
def Obligations.EveryStepKeepsHeldRequestsAndLineLists : Prop :=
  (∀ s t : State, (∀ ch, ChannelConsistent (s.channel ch)) → HeldOnce s → step s = .next t → HeldOnce t) ∧
  ∀ s t : State, StoreLegal s.store → step s = .next t → StoreLegal t.store

/-! ### Font Catalogue -/

/-- R10. The checks of LOAD FONT in their order, and the record that it makes in the lowest-numbered EMPTY slot. The
detail of a refusal is a free value (log 7). -/
def Obligations.LoadFontChecksThenFillsTheLowestEmptySlot : Prop :=
  ∀ (s : State) (ch : ChannelId) (b : Block), s.readyFor ch → b.payload.length ≤ 1024 →
    let r : Request := { code := 0x10, block := b }
    let n := b.target.toNat
    ((n < 1 ∨ 250 < n ∨ parseLoadFont b.payload = none) →
      EventTo (exec (.loadFont ch b) s) s (s.fresh.refuses ch r .badArgument)) ∧
    ∀ f, 1 ≤ n → n ≤ 250 → parseLoadFont b.payload = some f →
      ((∃ j, (s.font j).state = .live ∧ (s.font j).number = n) →
        EventTo (exec (.loadFont ch b) s) s (s.fresh.refuses ch r .alreadyExists)) ∧
      ((∀ j, (s.font j).state = .live → (s.font j).number ≠ n) →
        (((∀ j, (s.font j).state ≠ .empty) ∨ s.poolFree < f.kerning.length) →
          EventTo (exec (.loadFont ch b) s) s (s.fresh.refuses ch r .full)) ∧
        (∀ i, (s.font i).state = .empty → (∀ j, j < i → (s.font j).state ≠ .empty) →
          f.kerning.length ≤ s.poolFree →
          EventTo (exec (.loadFont ch b) s) s
            ((s.fresh.modFont i fun _ =>
                { state := .live, number := n, name := f.name, widths := f.widths, kerning := f.kerning,
                  proofSet := f.proofSet, placement := none, verification := .unverified, revision := 0,
                  lineRefs := 0, currentRefs := 0, partialRefs := 0, amend := none }).posts ch r
              (if f.clamped then .doneClamped else .done) (BitVec.ofNat 16 i.val) [])))

/-- R9, R11, R12, R13. AMEND FONT of a LIVE record without an amend pending: applied in the event when no galley holds a
glyph of it in progress, held otherwise; BUSY while one is held. Before that it is refused with BAD_ARGUMENT for a payload
that is none, with WRONG_STATE where the number is a RETIRING record's only, and with NOT_FOUND where it is none's; after it,
with FULL where the pool cannot supply the kerning list. A held amend is applied, and its request completed with the new
revision, by the line end that commits the last line in progress with a glyph of the font, and stays while another galley
holds one. The detail of a refusal is a free value (log 7). -/
def Obligations.AmendFontAppliesOrIsHeld : Prop :=
  (∀ (s : State) (ch : ChannelId) (b : Block) (p : AmendParts) (clamped : Bool) (i : FontSlot),
    s.readyFor ch → b.payload.length ≤ 1024 → parseAmendFont b.payload = some (p, clamped) →
    s.resolve b.target.toNat = some i →
    let r : Request := { code := 0x11, block := b }
    ((s.font i).amend.isSome → EventTo (exec (.amendFont ch b) s) s (s.fresh.refuses ch r .busy)) ∧
    ((s.font i).amend = none → (s.font i).partialRefs = 0 →
      (p.kerning = none ∨ (p.kerning.getD []).length ≤ s.poolFree + (s.font i).kerning.length) →
      EventTo (exec (.amendFont ch b) s) s
        ((s.fresh.modFont i fun x =>
            { x with
              widths := p.widths.getD x.widths, kerning := p.kerning.getD x.kerning, name := p.name.getD x.name,
              proofSet := p.proofSet.getD x.proofSet, revision := x.revision + 1, amend := none }).posts ch r
          (if clamped then .doneClamped else .done) (((s.font i).revision + 1).setWidth 16) [])) ∧
    ((s.font i).amend = none → 0 < (s.font i).partialRefs →
      (p.kerning = none ∨ (p.kerning.getD []).length ≤ s.poolFree) →
      EventTo (exec (.amendFont ch b) s) s
        ((s.fresh.modFont i fun x => { x with amend := some { parts := p, clamped := clamped, channel := ch } }).waits
          ch r)) ∧
    (∀ new, (s.font i).amend = none → p.kerning = some new →
      (if (s.font i).partialRefs = 0 then s.poolFree + (s.font i).kerning.length else s.poolFree) < new.length →
      EventTo (exec (.amendFont ch b) s) s (s.fresh.refuses ch r .full))) ∧
  -- the refusals before the record is found
  (∀ (s : State) (ch : ChannelId) (b : Block), s.readyFor ch → b.payload.length ≤ 1024 →
    let r : Request := { code := 0x11, block := b }
    let numbered := fun (state : FontState) => ∃ j, (s.font j).state = state ∧ (s.font j).number = b.target.toNat
    (parseAmendFont b.payload = none → EventTo (exec (.amendFont ch b) s) s (s.fresh.refuses ch r .badArgument)) ∧
    ((parseAmendFont b.payload).isSome → ¬ numbered .live → numbered .retiring →
      EventTo (exec (.amendFont ch b) s) s (s.fresh.refuses ch r .wrongState)) ∧
    ((parseAmendFont b.payload).isSome → ¬ numbered .live → ¬ numbered .retiring →
      EventTo (exec (.amendFont ch b) s) s (s.fresh.refuses ch r .notFound))) ∧
  -- the later application
  ∀ (s : State) (g : GalleyId) (rest : List Byte) (i : FontSlot) (a : HeldAmend), s.engine.state = .serving g →
    (s.galley g).state = .opened → headItem (s.galley g).buffer = some (.lineEnd, rest) →
    (s.galley g).builder.word = [] → (s.galley g).waiting = [] → s.freeSlot.isSome → HeldOnce s →
    (s.galley g).builder.hasGlyphOf i = true → (s.font i).state = .live → (s.font i).amend = some a →
    ∃ t, exec .takeItem s = .next (react t) ∧
      ((s.font i).partialRefs = 1 →
        t.font i = { s.font i with
          lineRefs := (t.font i).lineRefs, partialRefs := 0
          widths := a.parts.widths.getD (s.font i).widths, kerning := a.parts.kerning.getD (s.font i).kerning
          name := a.parts.name.getD (s.font i).name, proofSet := a.parts.proofSet.getD (s.font i).proofSet
          revision := (s.font i).revision + 1, amend := none } ∧
        s.answered t a.channel (if a.clamped then .doneClamped else .done) (((s.font i).revision + 1).setWidth 16)) ∧
      (1 < (s.font i).partialRefs →
        t.font i = { s.font i with lineRefs := (t.font i).lineRefs, partialRefs := (s.font i).partialRefs - 1 } ∧
        t.channel a.channel = s.channel a.channel)

/-- R14, R143. PLACE FONT is refused with BAD_ARGUMENT for a payload that is none and with NOT_FOUND where it addresses no
record; the detail of a refusal is a free value (log 7). Otherwise it sets or clears the placement of the record, which is
verified at once when the turret stands at its station, against the code latched there, and is UNVERIFIED otherwise. Where
the flash request armed for the line in exposure is one of that record, the request is withdrawn and the glyph decided
again: a placement cleared holds with FONT_UNPLACED, and one at another station moves the turret there. Nothing else
happens in the exposure. -/
def Obligations.PlaceFontSetsThePlacementAndItsVerification : Prop :=
  (∀ (s : State) (ch : ChannelId) (b : Block), s.readyFor ch → b.payload.length ≤ 1024 →
    let r : Request := { code := 0x12, block := b }
    (parsePlaceFont b.payload = none → EventTo (exec (.placeFont ch b) s) s (s.fresh.refuses ch r .badArgument)) ∧
    ∀ a, parsePlaceFont b.payload = some a → s.address a.selector b.target.toNat = none →
      EventTo (exec (.placeFont ch b) s) s (s.fresh.refuses ch r .notFound)) ∧
  ∀ (s : State) (ch : ChannelId) (b : Block) (a : PlaceArgs) (i : FontSlot),
    s.readyFor ch → b.payload.length ≤ 1024 → parsePlaceFont b.payload = some a →
    s.address a.selector b.target.toNat = some i →
    let exposed := fun (l : LineWork) (g : SetGlyph) =>
      s.exposure.work = .line l ∧ s.exposure.hold = none ∧ l.glyph = some g
    ∀ v : Verification,
      (v = match a.placement, s.photo.turret, s.photo.latched with
        | some p, .standing q, some code =>
          if s.stationMap p.station = q then (if p.code = code then .verified else .mismatch) else .unverified
        | _, _, _ => .unverified) →
      let placed := (s.fresh.modFont i fun x => { x with placement := a.placement, verification := v }).posts ch
        { code := 0x12, block := b } .done (match v with | .unverified => 0 | .verified => 1 | .mismatch => 2) []
      (((∀ q, s.photo.flash = some q → q.slot ≠ i) ∨ ∀ l g, ¬ exposed l g) →
        EventTo (exec (.placeFont ch b) s) s placed) ∧
      -- the request armed for the record is withdrawn (R143)
      ∀ q l g, s.photo.flash = some q → q.slot = i → exposed l g →
        exec (.placeFont ch b) s = .next (react (glyphDecision l g
          (placed.modPhoto fun x => { x with flash := none, delay := none }))) ∧
        (g.slot = i → s.film.loaded = true → ∃ t, exec (.placeFont ch b) s = .next (react t) ∧
          (a.placement = none → HeldAt l .decision .fontUnplaced t) ∧
          ∀ p, a.placement = some p → s.photo.turret ≠ .standing (s.stationMap p.station) →
            (s.exposure.note = false ∨ s.photo.disc = .locked) →
            TurretCommanded l (s.stationMap p.station) s.fresh t ∧ t.photo.flash = none)

/-- R17. RETIRE FONT: NOT_FOUND without a LIVE record, BUSY with an amend pending, EMPTY at once with detail 0 when all
three counts are 0, RETIRING with detail 1 otherwise. -/
def Obligations.RetireFontEmptiesOrRetires : Prop :=
  ∀ (s : State) (ch : ChannelId) (b : Block), s.readyFor ch → b.payload.length ≤ 1024 →
    let r : Request := { code := 0x13, block := b }
    ((∀ j, (s.font j).state = .live → (s.font j).number ≠ b.target.toNat) →
      EventTo (exec (.retireFont ch b) s) s (s.fresh.refuses ch r .notFound)) ∧
    ∀ i, s.resolve b.target.toNat = some i →
      ((s.font i).amend.isSome → EventTo (exec (.retireFont ch b) s) s (s.fresh.refuses ch r .busy)) ∧
      ((s.font i).amend = none →
        ((s.font i).lineRefs = 0 → (s.font i).currentRefs = 0 → (s.font i).partialRefs = 0 →
          ∃ t, EventTo (exec (.retireFont ch b) s) s t ∧ (t.font i).state = .empty ∧ (t.font i).kerning = [] ∧
            (∀ j, j ≠ i → t.font j = s.font j) ∧ t.channels = (s.posts ch r .done 0 []).channels ∧
            t.galleys = s.galleys ∧ t.store = s.store ∧ t.photo = s.photo ∧ t.exposure = s.exposure ∧
            t.film = s.film ∧ t.proof = s.proof ∧ t.dict = s.dict ∧ t.engine = s.engine ∧ t.attn = s.attn ∧
            t.config = s.config ∧ t.sensors = s.sensors ∧ t.pending = s.pending) ∧
        ((0 < (s.font i).lineRefs ∨ 0 < (s.font i).currentRefs ∨ 0 < (s.font i).partialRefs) →
          EventTo (exec (.retireFont ch b) s) s
            ((s.fresh.modFont i fun x => { x with state := .retiring }).posts ch r .done 1 [])))

/-- R19, R34, R133, R152, R162. The queries complete DONE in the event of their taking, with the detail that their rule
gives and the reply of the state before, of 33, 28, 38 and 402 bytes for the four of fixed length. Every byte of a reply
that 10.7 gives a meaning in the state reported is as 10.7 lays it out. The queries change nothing but the sticky flags
that QUERY GALLEY reads and clears; the count of free values moves on, since replies hold bytes of which the manual states
no value (log 7). A QUERY FONT or QUERY GALLEY that names no font or galley is refused; its detail is a free value (log 7).
That the cut-commanded bit is set while an end action's cut is under way, and that the steps still to move are 0 where no
film move is kept, are the model's choices (log 7). The record of QUERY FONT has a name of at most 12 characters, as
every record has (10.7). -/
def Obligations.QueriesReportAndChangeNothingElse : Prop :=
  (∀ (s : State) (ch : ChannelId) (b : Block), s.readyFor ch → b.payload.length ≤ 1024 →
    let rf : Request := { code := 0x14, block := b }
    let rg : Request := { code := 0x34, block := b }
    (parseQueryFont b.payload = none → EventTo (exec (.queryFont ch b) s) s (s.fresh.refuses ch rf .badArgument)) ∧
    (∀ sel, parseQueryFont b.payload = some sel → s.address sel b.target.toNat = none →
      EventTo (exec (.queryFont ch b) s) s (s.fresh.refuses ch rf .notFound)) ∧
    (∀ sel i, parseQueryFont b.payload = some sel → s.address sel b.target.toNat = some i →
      EventTo (exec (.queryFont ch b) s) s
        (s.fresh.posts ch rf .done (BitVec.ofNat 16 i.val) (fontReply i s)).bumpFree) ∧
    (galleyOf b.target = none → EventTo (exec (.queryGalley ch b) s) s (s.fresh.refuses ch rg .badArgument)) ∧
    (∀ g : GalleyId, galleyOf b.target = some g →
      EventTo (exec (.queryGalley ch b) s) s
        ((s.fresh.modGalley g fun x => { x with sticky := 0 }).posts ch rg .done
          (BitVec.ofNat 16 (s.galley g).state.toNat) (galleyReply g s)).bumpFree) ∧
    EventTo (exec (.queryPhotoUnit ch b) s) s
      (s.fresh.posts ch { code := 0x51, block := b } .done (BitVec.ofNat 16 s.photo.disc.toNat) (photoReply s)).bumpFree ∧
    EventTo (exec (.queryExposure ch b) s) s
      (s.fresh.posts ch { code := 0x44, block := b } .done (BitVec.ofNat 16 s.holdCode) (exposureReply s)).bumpFree ∧
    EventTo (exec (.queryProof ch b) s) s
      (s.fresh.posts ch { code := 0x61, block := b } .done (BitVec.ofNat 16 s.proof.port.toNat) (proofReply s)).bumpFree) ∧
  ∀ s : State,
    let bit := fun (b : Bool) (k : Nat) => if b then 2 ^ k else 0
    (∀ i, (fontReply i s).take 3 = [byteOf i.val, byteOf (s.font i).state.toNat, byteOf (s.font i).number]) ∧
    (∀ g, (galleyReply g s).length = 33 ∧
      (galleyReply g s).drop 31 = [(s.galley g).sticky.setWidth 8, ((s.galley g).sticky >>> 8).setWidth 8]) ∧
    (photoReply s).length = 28 ∧ (exposureReply s).length = 38 ∧ (proofReply s).length = 402 ∧
    -- QUERY FONT
    (∀ i, (s.font i).name.length ≤ 12 →
      let x := s.font i
      let r := fontReply i s
      let newList := fun a : HeldAmend => (a.parts.kerning.getD []).length
      let inUse := fun j => match (s.font j).state, (s.font j).amend with
        | .empty, _ => 0
        | _, none => (s.font j).kerning.length
        | _, some a => (s.font j).kerning.length + newList a
      r.length = 126 + 3 * x.kerning.length ∧ Reports r 0 1 i.val ∧
      Reports r 1 1 (match x.state with | .empty => 0 | .live => 1 | .retiring => 2) ∧ Reports r 2 1 x.number ∧
      Reports r 3 1 x.name.length ∧ (∀ k, k < x.name.length → r[4 + k]? = x.name[k]?) ∧ Reports r 16 1 x.proofSet.val ∧
      (match x.placement with
        | none => Reports r 17 1 0
        | some p => Reports r 17 1 1 ∧ Reports r 18 1 p.station.val ∧ Reports r 19 1 p.track.val ∧
          Reports r 20 1 p.code.toNat) ∧
      Reports r 21 1 (match x.verification with | .unverified => 0 | .verified => 1 | .mismatch => 2) ∧
      Reports r 22 1 x.revision.toNat ∧ Reports r 23 1 x.lineRefs ∧ Reports r 24 1 x.currentRefs ∧
      Reports r 25 1 x.partialRefs ∧
      Reports r 26 1 (match x.amend with
        | none => 0
        | some a => bit a.parts.widths.isSome 0 + bit a.parts.kerning.isSome 1 + bit a.parts.name.isSome 2 +
          bit a.parts.proofSet.isSome 3) ∧
      Reports r 27 1 x.kerning.length ∧ Reports r 28 2 (1024 - ((List.finRange 32).map inUse).sum) ∧
      (∀ c : GlyphCode, Reports r (30 + c.val) 1 (vget x.widths c)) ∧
      ∀ n k, x.kerning[n]? = some k → Reports r (126 + 3 * n) 1 k.left ∧ Reports r (127 + 3 * n) 1 k.right ∧
        r[128 + 3 * n]? = some (BitVec.ofInt 8 k.adjust)) ∧
    -- QUERY GALLEY
    (∀ g,
      let x := s.galley g
      let r := galleyReply g s
      let state := match x.state with | .closed => 0 | .opened => 1 | .ending => 2 | .cancelling => 3
      let placeIn := fun (k : Nat) (queue : List GalleyId) => (g ∉ queue → Reports r k 1 0xFF) ∧
        ∀ n, queue[n]? = some g → (∀ m, m < n → queue[m]? ≠ some g) → Reports r k 1 n
      x.state.toNat = state ∧ Reports r 0 1 state ∧
      Reports r 1 1 (match x.mode with | .film => 0 | .proof => 1 | .both => 2) ∧ Reports r 2 1 x.priority ∧
      (match x.font with
        | none => Reports r 3 1 0 ∧ Reports r 4 1 0xFF
        | some i => Reports r 3 1 (s.font i).number ∧ Reports r 4 1 i.val) ∧
      Reports r 5 2 x.size ∧ Reports r 7 2 x.leading ∧ Reports r 9 2 x.pendingReverse ∧ Reports r 11 2 x.measure ∧
      Reports r 13 1 (match x.quad with | .left => 0 | .right => 1 | .centre => 2 | .justify => 3) ∧
      Reports r 14 1 x.spaceMin ∧ Reports r 15 1 x.spaceOpt ∧ Reports r 16 1 x.spaceMax ∧
      r[17]? = some (BitVec.ofInt 8 x.track) ∧ Reports r 18 1 (bit x.hyphenate 0 + bit x.rules 1) ∧
      Reports r 19 1 x.ladder ∧ Reports r 20 1 x.minLeft ∧ Reports r 21 1 x.minRight ∧
      Reports r 22 2 x.buffer.length ∧ Reports r 24 1 x.waiting.length ∧
      Reports r 25 1 (vget s.store.order g).length ∧ Reports r 26 2 x.seq.toNat ∧ placeIn 28 s.store.filmQueue ∧
      placeIn 29 s.store.paperQueue ∧
      Reports r 30 1 (bit (s.store.filmHolder == some g) 0 + bit (s.store.paperHolder == some g) 1) ∧
      Reports r 31 2 x.sticky.toNat) ∧
    -- QUERY PHOTO UNIT
    (let r := photoReply s
     let p := s.photo
     let disc := match p.disc with | .unlocked => 0 | .proving => 1 | .locked => 2
     let expired := match p.turret with | .moving _ _ => p.turretExpired | _ => false
     p.disc.toNat = disc ∧ Reports r 0 1 disc ∧
     Reports r 1 1 (bit p.disturbed 0 + bit expired 1 + bit p.latched.isSome 2 + bit p.flash.isSome 3 +
       bit p.delay.isSome 4 + bit p.lockWatch.isSome 5 + bit p.verify.isSome 6) ∧
     Reports r 2 4 p.period ∧ Reports r 6 4 s.tNom ∧ Reports r 10 1 p.slotCount ∧
     (match p.turret with
       | .unknown => Reports r 11 1 0
       | .standing q => Reports r 11 1 1 ∧ Reports r 12 1 q.val
       | .moving target _ => Reports r 11 1 2 ∧ ∀ q, target = some q → Reports r 12 1 q.val) ∧
     (∀ code, p.latched = some code → Reports r 13 1 code.toNat) ∧
     (match p.lens with
       | .unknown => Reports r 14 1 0 ∧ Reports r 15 1 0xFF
       | .standing x => Reports r 14 1 1 ∧ Reports r 15 1 x.val
       | .moving x => Reports r 14 1 2 ∧ Reports r 15 1 x.val) ∧
     (match p.carriage with
       | .homing _ target => Reports r 16 1 0 ∧ ∀ x, target = some x → Reports r 19 2 x
       | .stepping x => Reports r 16 1 1 ∧ Reports r 19 2 x
       | .settled => Reports r 16 1 2) ∧
     Reports r 17 2 p.position ∧ Reports r 21 1 p.shutter.val ∧
     Reports r 22 1 (match p.lamp with | .ready => 0 | .recharging _ => 1) ∧
     match p.flash with
       | some q => Reports r 23 1 q.code.val ∧ Reports r 24 1 q.slot.val ∧ Reports r 25 1 q.lens.val ∧
         Reports r 26 2 q.x
       | none => Reports r 24 1 0xFF ∧ Reports r 25 1 0xFF) ∧
    -- QUERY EXPOSURE
    (let r := exposureReply s
     let e := s.exposure
     let f := s.film
     let hold := match e.hold with
       | none => 0
       | some .filmOut => 1
       | some .cassetteOut => 2
       | some .lidOpen => 3
       | some .fontUnplaced => 4
       | some .discMismatch => 5
       | some .turretJam => 6
       | some .lensJam => 7
       | some .discFault => 8
       | some .cutJam => 9
     let cutting := match e.work with | .cut _ _ => true | _ => false
     s.holdCode = hold ∧ Reports r 1 1 hold ∧
     Reports r 0 1 (match e.hold, e.work with
       | some _, _ => 4
       | none, .none => 0
       | none, .line _ => 1
       | none, .gap _ => 2
       | none, .cut _ _ => 2
       | none, _ => 3) ∧
     (match e.work with
       | .line l =>
         Reports r 2 1 (match l.step with
           | .advance _ _ => 0
           | .decision => 1
           | .turret => 2
           | .lens => 3
           | .carriage => 4
           | .shutter => 5
           | .armed => 6) ∧
         Reports r 3 1 l.slot.val ∧ Reports r 4 1 l.galley.val ∧ Reports r 5 2 l.seq.toNat ∧
         Reports r 7 1 l.order.length ∧ Reports r 8 1 l.next
       | .gap target => Reports r 2 1 7 ∧ Reports r 3 1 0xFF ∧ Reports r 4 1 0xFF ∧ Reports r 30 4 target
       | .cut target _ => Reports r 2 1 8 ∧ Reports r 3 1 0xFF ∧ Reports r 4 1 0xFF ∧ Reports r 30 4 target
       | _ => Reports r 3 1 0xFF ∧ Reports r 4 1 0xFF) ∧
     Reports r 9 1 (bit cutting 0 + bit e.note 1 + bit f.loaded 2 +
       bit (f.loaded && decide (f.length - f.deepest < s.setting 0x0F * 1440)) 3 + bit f.move.isSome 4 +
       bit s.cutterHome 5) ∧
     Reports r 10 4 f.length ∧ Reports r 14 4 f.position ∧ Reports r 18 4 f.galleyStart ∧ Reports r 22 4 f.deepest ∧
     Reports r 26 4 (f.length - f.deepest) ∧ (∀ m, f.move = some m → Reports r 34 4 m.remaining) ∧
     (f.move = none →
       (∀ l forward n, e.work = .line l → l.step = .advance forward n → Reports r 34 4 n) ∧
       ((∀ l forward n, e.work = .line l → l.step ≠ .advance forward n) → Reports r 34 4 0))) ∧
    -- QUERY PROOF
    let r := proofReply s
    let port := match s.proof.port with | .idle => 0 | .sending => 1 | .endFeed => 2 | .held _ => 3
    let place := Reports r 2 1 s.proof.row ∧ Reports r 3 2 s.proof.pos
    let band := fun (k : Nat) (buffer : BandBuffer) => match buffer with
      | .empty => Reports r k 1 0 ∧ Reports r (k + 1) 1 0xFF ∧ Reports r (k + 2) 1 0xFF
      | .ready b => Reports r k 1 1 ∧ Reports r (k + 1) 1 b.slot.val ∧ Reports r (k + 2) 1 b.galley.val ∧
        Reports r (k + 3) 2 b.seq.toNat
      | .sending b => Reports r k 1 2 ∧ Reports r (k + 1) 1 b.slot.val ∧ Reports r (k + 2) 1 b.galley.val ∧
        Reports r (k + 3) 2 b.seq.toNat
    s.proof.port.toNat = port ∧ Reports r 0 1 port ∧
    (s.proof.port = .held .sending → Reports r 1 1 1) ∧ (s.proof.port = .held .endFeed → Reports r 1 1 2) ∧
    (s.proof.port = .sending ∨ s.proof.port = .held .sending → place) ∧ Reports r 5 1 s.proof.feeds ∧
    band 6 (vget s.proof.buffers 0) ∧ band 11 (vget s.proof.buffers 1) ∧
    Reports r 16 1 (bit s.paperPresent 0 + bit s.printerBusy 1) ∧
    Reports r 17 1 (match s.store.paperHolder with | some g => g.val | none => 0xFF) ∧
    ∀ (set : Fin 4) (code : GlyphCode), Reports r (18 + 96 * set.val + code.val) 1 (vget (vget s.proof.cells set) code).width
/-! ### Request Channels and attention -/

/-- R165, R170. A start of a channel that is not running: NORMAL_END at once when the chain register is 0, STOPPED when
the same write sets the stop bit, FETCHING otherwise. Written to a running channel the start bit is ignored. A stop is
ignored unless the channel is running; it is honoured while the channel is FETCHING, at once (the model's choice, log
12), and otherwise sets the stop pending mark. The start bit reads 1 while the channel is running, the stop bit while the mark is set. -/
def Obligations.StartAndStopGovernTheChain : Prop :=
  ∀ (s : State) (ch : ChannelId) (stopBit : Bool),
    ((s.channel ch).running = false → (s.channel ch).chain = 0 →
      exec (.start ch stopBit) s = .next (s.fresh.ended ch 1)) ∧
    ((s.channel ch).running = false → (s.channel ch).chain ≠ 0 → stopBit = true →
      exec (.start ch stopBit) s = .next (s.fresh.ended ch 3)) ∧
    ((s.channel ch).running = false → (s.channel ch).chain ≠ 0 → stopBit = false →
      exec (.start ch stopBit) s =
        .next (s.fresh.modChannel ch fun k =>
          { k with state := .fetching, stop := false, blockRead := none, posting := none })) ∧
    ((s.channel ch).running = true → exec (.start ch false) s = .next s ∧
      exec (.start ch true) s = exec (.stop ch) s) ∧
    ((s.channel ch).running = false → exec (.stop ch) s = .next s) ∧
    ((s.channel ch).state = .fetching → exec (.stop ch) s = .next (s.fresh.ended ch 3)) ∧
    (((s.channel ch).state = .waiting ∨ (s.channel ch).state = .posting) →
      exec (.stop ch) s = .next (s.fresh.modChannel ch fun k => { k with stop := true })) ∧
    (s.controlRead ch).getLsbD 0 = (s.channel ch).running ∧ (s.controlRead ch).getLsbD 1 = (s.channel ch).stop ∧
    ((s.channel ch).running = false ↔ (s.channel ch).state = .idle ∨ (s.channel ch).state = .terminated)

/-- R172. A channel reset makes the channel IDLE with its registers 0. A request that the dictionary has not taken is
withdrawn; one that an owner has taken is detached. How much of a posting had been written is a free value (log 25). No
attention is raised and the other channel stays. -/
def Obligations.ChannelResetLeavesTheChannelIdle : Prop :=
  ∀ (s : State) (ch : ChannelId), ∃ t, exec (.channelReset ch) s = .next t ∧
    (t.channel ch).state = .idle ∧ (t.channel ch).chain = 0 ∧ (t.channel ch).term = 0 ∧ (t.channel ch).stop = false ∧
    (t.channel ch).inFlight = none ∧ (t.channel ch).blockRead = none ∧ (t.channel ch).posting = none ∧
    ((s.channel ch).inFlight = none → (t.channel ch).detached = (s.channel ch).detached ∧ t.dict = s.dict) ∧
    ((s.channel ch).inFlight.isSome → vget s.dict.presented ch = none →
      (t.channel ch).detached = true ∧ t.dict = s.dict) ∧
    ((s.channel ch).inFlight.isSome → (vget s.dict.presented ch).isSome →
      (t.channel ch).detached = (s.channel ch).detached ∧
      t.dict = { s.dict with presented := vset s.dict.presented ch none }) ∧
    ((s.channel ch).state ≠ .posting → (t.channel ch).written = (s.channel ch).written) ∧
    (∀ c, c ≠ ch → t.channel c = s.channel c) ∧ t.attn = s.attn ∧ t.attnEn = s.attnEn ∧ t.fonts = s.fonts ∧
    t.galleys = s.galleys ∧ t.engine = s.engine ∧ t.store = s.store ∧ t.photo = s.photo ∧
    t.exposure = s.exposure ∧ t.film = s.film ∧ t.proof = s.proof ∧ t.config = s.config ∧ t.sensors = s.sensors ∧
    t.drives = s.drives ∧ t.pending = s.pending

/-- R164, R171. A chain register write sets the register with its low two bits 0, and is ignored while the channel is
running. A read of the termination status returns the code and sets it to 0. The last clause is the model's choice
(log 10): a command of its own clears a detached mark that stands while no owner holds a request of the channel; R172 has
the mark cleared by the request's completion. -/
def Obligations.ChannelRegistersAreReadAndWritten : Prop :=
  ∀ (s : State) (ch : ChannelId),
    (∀ v : Word, (s.channel ch).running = false →
      exec (.chainRegisterWrite ch v) s =
        .next (s.fresh.modChannel ch fun k => { k with chain := v &&& 0xFFFFFFFC#32 })) ∧
    (∀ v : Word, (s.channel ch).running = true → exec (.chainRegisterWrite ch v) s = .next s) ∧
    (∃ t, exec (.terminationStatusRead ch) s = .next t ∧ t.readData = (s.channel ch).term.setWidth 32 ∧
      t = { (s.fresh.modChannel ch fun k => { k with term := 0 }) with readData := t.readData }) ∧
    ((s.channel ch).detached = true → s.ownerHolds ch = false →
      exec (.detachedMarkClear ch) s =
        .next (react (s.fresh.modChannel ch fun k => { k with detached := false })))

/-- R166, R167. The end of a fetch: a bus error ends the chain with FETCH_FAULT; a spare byte that is not 0 or a payload
length above 1,024 with BAD_BLOCK; neither hands anything over and both keep the chain register. A block read while the
detached mark is set waits. A block whose code names a request is handed to the owner of that code: the end of its fetch is
that request's own command. NO-OP and a code that names no request complete at the channel with detail 0 and no reply. -/
def Obligations.FetchHandsOverOrTerminates : Prop :=
  ∀ (s : State) (ch : ChannelId), (s.channel ch).state = .fetching → (s.channel ch).blockRead = none →
    EventTo (exec (.fetchComplete ch .busError) s) s (s.fresh.ended ch 4) ∧
    (∀ (h : Vector Byte 20) (p : List Byte), (h[19] ≠ 0 ∨ 1024 < h[14].toNat + 256 * h[15].toNat) →
      EventTo (exec (.fetchComplete ch (.block h p)) s) s (s.fresh.ended ch 6)) ∧
    (∀ (h : Vector Byte 20) (p : List Byte) (r : Request), parseBlock h p = some r →
      ((s.channel ch).detached = true →
        EventTo (exec (.fetchComplete ch (.block h p)) s) s
          (s.fresh.modChannel ch fun k => { k with blockRead := some r })) ∧
      ((s.channel ch).detached = false → r.code = 0 →
        EventTo (exec (.fetchComplete ch (.block h p)) s) s (s.fresh.posts ch r .done 0 [])) ∧
      ((s.channel ch).detached = false →
        r.code.toNat ∉ [0, 0x10, 0x11, 0x12, 0x13, 0x14, 0x20, 0x21, 0x22, 0x23, 0x24, 0x30, 0x31, 0x32, 0x33, 0x34,
          0x40, 0x41, 0x42, 0x43, 0x44, 0x50, 0x51, 0x60, 0x61] →
        EventTo (exec (.fetchComplete ch (.block h p)) s) s (s.fresh.posts ch r .unknownRequest 0 []))) ∧
    (∀ (h : Vector Byte 20) (p : List Byte) (r : Request), parseBlock h p = some r →
      let handsTo := fun (code : Byte) (owner : ChannelId → Block → Instr) =>
        r.code = code → exec (.fetchComplete ch (.block h p)) s = exec (owner ch r.block) s
      handsTo 0x10 .loadFont ∧ handsTo 0x11 .amendFont ∧ handsTo 0x12 .placeFont ∧ handsTo 0x13 .retireFont ∧
      handsTo 0x14 .queryFont ∧ handsTo 0x20 .addWords ∧ handsTo 0x21 .amendWord ∧ handsTo 0x22 .deleteWord ∧
      handsTo 0x23 .lookUpWord ∧ handsTo 0x24 .purgeDesk ∧ handsTo 0x30 .openGalley ∧ handsTo 0x31 .setText ∧
      handsTo 0x32 .setPriority ∧ handsTo 0x33 .cancelGalley ∧ handsTo 0x34 .queryGalley ∧
      handsTo 0x40 .loadCassette ∧ handsTo 0x41 .resumeExposure ∧ handsTo 0x42 .advanceFilm ∧
      handsTo 0x43 .cutFilm ∧ handsTo 0x44 .queryExposure ∧ handsTo 0x50 .verifyStations ∧
      handsTo 0x51 .queryPhotoUnit ∧ handsTo 0x60 .loadProofCells ∧ handsTo 0x61 .queryProof) ∧
    ∀ (h : Vector Byte 20) (p : List Byte), h[19] = 0 → h[14].toNat + 256 * h[15].toNat ≤ 1024 →
      ∃ r, parseBlock h p = some r ∧ r.code = h[16] ∧ r.block.flags = h[17] ∧ r.block.target = h[18] ∧
        r.block.link = h[3] ++ h[2] ++ h[1] ++ h[0] ∧ r.block.statusAddr = h[7] ++ h[6] ++ h[5] ++ h[4] ∧
        r.block.replyAddr = h[11] ++ h[10] ++ h[9] ++ h[8] ∧ r.block.replyCap = h[13] ++ h[12] ∧
        r.block.payload = p.take (h[14].toNat + 256 * h[15].toNat)

/-- R169. After a block posted without fault the chain register holds the block's link; the channel ends with
STOP_AFTER, NORMAL_END or STOPPED, asked in this order, or fetches on. Every termination leaves the channel TERMINATED
with its code, clears the stop pending mark and raises the channel's attention; the start bit then reads 0. -/
def Obligations.PostingWithoutFaultDecidesWhatFollows : Prop :=
  (∀ (s : State) (ch : ChannelId) (p : Posting), s.postingOf ch = some p → ∃ t,
    exec (.postingComplete ch none) s = .next t ∧
    let k := t.channel ch
    let link := p.request.block.link &&& 0xFFFFFFFC#32
    let terminates := fun code : BitVec 3 => ∃ s1, t = terminate ch code s1
    k.chain = link ∧
    (p.request.block.flags.getLsbD 1 = true → terminates 2) ∧
    (p.request.block.flags.getLsbD 1 = false → link = 0 → terminates 1) ∧
    (p.request.block.flags.getLsbD 1 = false → link ≠ 0 → (s.channel ch).stop = true → terminates 3) ∧
    (p.request.block.flags.getLsbD 1 = false → link ≠ 0 → (s.channel ch).stop = false →
      k.state = .fetching ∧ k.running = true ∧ k.term = (s.channel ch).term)) ∧
  ∀ (s : State) (ch : ChannelId) (code : BitVec 3), let t := terminate ch code s
    (t.channel ch).state = .terminated ∧ (t.channel ch).term = code ∧ (t.channel ch).stop = false ∧
    t.raised (.channel ch) = true ∧ (t.channel ch).running = false ∧ (t.controlRead ch).getLsbD 0 = false

/-- R168. A posting writes the reply, cut to the reply capacity, and then, with POST set, the 8-byte status with the
completion code, the request code, the detail, the bytes written and the full length. Without fault it raises the
channel's attention where SIGNAL is set. A bus error ends it at that write with POST_FAULT, and the chain register holds
the block's link. That the bus error may come after any number of the bytes is the model's choice, since the manual does
not state the size of a bus write (log 25), and so is that an address which passes FFFFFFFFH goes on at 0 (log 44). -/
def Obligations.PostingWritesTheReplyThenTheStatus : Prop :=
  ∀ (s : State) (ch : ChannelId) (p : Posting), s.postingOf ch = some p →
    let n := min p.reply.length p.request.block.replyCap.toNat
    let status : List Byte :=
      [p.completion.code, p.request.code, p.detail.setWidth 8, (p.detail >>> 8).setWidth 8, byteOf n, byteOf (n / 256),
        byteOf p.reply.length, byteOf (p.reply.length / 256)]
    let all := ((p.reply.take n).zipIdx.map fun (b, i) => (p.request.block.replyAddr + BitVec.ofNat 32 i, b)) ++
      (if p.request.block.flags.getLsbD 0 then
        status.zipIdx.map fun (b, i) => (p.request.block.statusAddr + BitVec.ofNat 32 i, b) else [])
    (∃ t, exec (.postingComplete ch none) s = .next t ∧ (t.channel ch).written = all ∧
      (p.request.block.flags.getLsbD 2 = true → t.raised (.channel ch) = true) ∧
      (t.channel ch).posting = none) ∧
    ∀ k, k < all.length → exec (.postingComplete ch (some k)) s =
      .next ((s.fresh.modChannel ch fun c =>
        { c with written := all.take k, chain := p.request.block.link &&& 0xFFFFFFFC#32 }).ended ch 5)

/-- R173. A flag is set by its event whatever its enable, and setting it again changes nothing. A write to ATTN clears
the flags written 1 and leaves the others; a write to ATTN_EN replaces it whole. The interrupt line is asserted while a
flag with its enable set is 1. Power-on reset clears both; a composition reset and a channel reset leave both. -/
def Obligations.AttentionFlagsAndInterruptLine : Prop :=
  (∀ (s : State) (f : Attn), (s.raise f).raised f = true ∧ (s.raise f).raise f = s.raise f ∧
    (s.raise f).attnEn = s.attnEn ∧ ∀ g, g ≠ f → (s.raise f).raised g = s.raised g) ∧
  (∀ (s : State) (v : Word), ∃ t, exec (.attnWrite v) s = .next t ∧
    t = { s.fresh with attn := t.attn } ∧
    ∀ i, i < 16 → t.attn.getLsbD i = (s.attn.getLsbD i && !v.getLsbD i)) ∧
  (∀ (s : State) (v : Word),
    exec (.attnEnWrite v) s = .next { s.fresh with attnEn := v.setWidth 16 &&& 0xFF7F#16 }) ∧
  (∀ s : State, s.interruptLine = true ↔ ∃ i, s.attn.getLsbD i = true ∧ s.attnEn.getLsbD i = true) ∧
  (State.reset.attn = 0 ∧ State.reset.attnEn = 0 ∧ State.reset.interruptLine = false) ∧
  (∀ s : State, (compositionReset s).attn = s.attn ∧ (compositionReset s).attnEn = s.attnEn) ∧
  (∀ (s t : State) (ch : ChannelId), exec (.channelReset ch) s = .next t → t.attn = s.attn ∧ t.attnEn = s.attnEn)

/-! ### Configuration space -/

/-- R175. CFG_INDEX takes the bits 7-0 of a write and moves at nothing else; a read of CFG_DATA returns the entry at
the index, and 0 at 00H and where there is no entry. After power-on reset the index is 0 and every entry holds its
default. No entry changes but by a write to CFG_DATA or power-on reset; a composition reset and a channel reset leave
the index and the entries. -/
def Obligations.ConfigurationIndexSelectsTheEntryRead : Prop :=
  (∀ (s : State) (v : Word),
    exec (.cfgIndexWrite v) s = .next (s.fresh.modConfig fun c => { c with index := v.setWidth 8 })) ∧
  (∀ s : State, s.windowRead 0x20 = some (s.config.index.setWidth 32) ∧
    s.windowRead 0x24 = some ((s.cfgRead s.config.index.toNat).setWidth 32) ∧ s.cfgRead 0 = 0 ∧
    (∀ i, 201 ≤ i → s.cfgRead i = 0) ∧
    ∀ i : Fin 201, i ≠ 0 → i ≠ 0x16 → i ≠ 0x17 → i ≠ 0xC8 → s.cfgRead i.val = vget s.config.entries i) ∧
  (∀ (c : Instr) (s t : State), exec c s = .next t → t.config.index ≠ s.config.index →
    c = .powerOnReset ∨ ∃ v, c = .cfgIndexWrite v) ∧
  (∀ (c : Instr) (s t : State), exec c s = .next t → t.config.entries ≠ s.config.entries →
    c = .powerOnReset ∨ ∃ v, c = .configWrite v ∨ c = .tNomHighWrite v ∨ c = .quiescentConfigWrite v ∨
      c = .stationMapWrite v ∨ c = .sensorInversionWrite v ∨ c = .debounceEnableWrite v) ∧
  State.reset.config.index = 0 ∧
  State.reset.config.entries.toList =
    [0, 0, 0, 128, 0x88, 0x13, 2, 12, 150, 80, 50, 200, 2, 10, 72, 24, 0, 13, 0xE4, 0, 0, 7, 0, 0,
     12, 14, 16, 18, 20, 24, 28, 36] ++ List.replicate 169 0 ∧
  (∀ s : State, (compositionReset s).config = s.config) ∧
  ∀ (s t : State) (ch : ChannelId), exec (.channelReset ch) s = .next t → t.config = s.config

/-- R176. The entries 01H-03H, 06H-10H and 13H-15H accept every write: the byte is stored less the bits that the entry
does not define. A write to the first two groups changes nothing else; what follows from one to 13H-15H is in another
statement. A write to 00H of another value than 01H does nothing, one of 01H is a composition reset, and 00H reads 0. -/
def Obligations.PlainEntriesStoreTheirDefinedBits : Prop :=
  ∀ (s : State) (v : Byte),
    (∀ i : Fin 201, s.config.index = BitVec.ofNat 8 i.val →
      ((1 ≤ i.val ∧ i.val ≤ 3) ∨ (6 ≤ i.val ∧ i.val ≤ 0x10)) →
      exec (.configWrite v) s = .next
        (s.fresh.modConfig fun c => { c with entries := vset c.entries i (v &&& definedBits i.val) })) ∧
    (s.config.index = 0 → v ≠ 1 → exec (.configWrite v) s = .next s) ∧
    (s.config.index = 0 → v = 1 → exec (.configWrite v) s = exec .compositionReset s) ∧
    (∀ i : Fin 201, (i.val = 0x13 ∨ i.val = 0x14) → s.config.index = BitVec.ofNat 8 i.val →
      ∃ t, exec (.sensorInversionWrite v) s = .next t ∧
        t.config = { s.config with entries := vset s.config.entries i (v &&& definedBits i.val) }) ∧
    (s.config.index = 0x15 → ∃ t, exec (.debounceEnableWrite v) s = .next t ∧
      t.config = { s.config with entries := vset s.config.entries 0x15 (v &&& 0x07) }) ∧
    s.cfgRead 0 = 0 ∧
    definedBits 1 = 1 ∧ definedBits 2 = 1 ∧ definedBits 6 = 0x0F ∧ definedBits 0x10 = 1 ∧ definedBits 0x14 = 0x7F ∧
    definedBits 3 = 0xFF ∧ definedBits 0x13 = 0xFF ∧
    ∀ i, 7 ≤ i → i ≤ 0x0F → definedBits i = 0xFF

/-- R177. T_nom is assembled from a pending low byte and the byte written to 05H. -/
def Obligations.TNomIsAssembledFromTwoWrites : Prop :=
  ∀ (s : State) (v : Byte),
    (s.config.index = 0x04 →
      exec (.tNomLowWrite v) s = .next (s.fresh.modConfig fun c => { c with tNomPending := some v })) ∧
    (s.config.index = 0x05 →
      let low := s.config.tNomPending.getD (vget s.config.entries 4)
      let n := low.toNat + 256 * v.toNat
      (2500 ≤ n → n ≤ 10000 → ∃ t, exec (.tNomHighWrite v) s = .next t ∧
        t = s.fresh.modConfig (fun c =>
          { c with tNomPending := none, entries := vset (vset c.entries 4 low) 5 v }) ∧
        t.tNom = n * 16) ∧
      ((n < 2500 ∨ 10000 < n) → ∃ t, exec (.tNomHighWrite v) s = .next t ∧
        t = (s.fresh.modConfig fun c => { c with tNomPending := none, lastRefusal := 1 }).raise .configReject ∧
        t.tNom = s.tNom)) ∧
    s.cfgRead 4 = vget s.config.entries 4 ∧ s.cfgRead 5 = vget s.config.entries 5 ∧
    State.reset.config.tNomPending = none ∧ (compositionReset s).config.tNomPending = s.config.tNomPending

/-- R178. An entry marked quiescent only is written only while every galley is CLOSED and every line slot free, 11H
only with a value of at most 95 and the code map only with values of at most 40. Every other write to such an entry is
refused with the code of its group, CONFIG_REJECT is raised, and the entry stays. A write to the read-only entries is refused with code 8, and one to an
index that names no entry with 9. C8H shows quiescence and the last refusal. -/
def Obligations.GuardedEntriesRefuseWithTheirCode : Prop :=
  (∀ (s : State) (v : Byte) (i : Fin 201) (code : BitVec 7), s.config.index = BitVec.ofNat 8 i.val →
    (i.val = 0x11 ∧ code = 2 ∨ 0x18 ≤ i.val ∧ i.val ≤ 0x1F ∧ code = 4 ∨ 0x20 ≤ i.val ∧ i.val ≤ 0x7F ∧ code = 5 ∨
      0x80 ≤ i.val ∧ i.val ≤ 0xA7 ∧ code = 6 ∨ 0xA8 ≤ i.val ∧ i.val ≤ 0xC7 ∧ code = 7) →
    let good := (i.val = 0x11 → v.toNat ≤ 95) ∧ (0x20 ≤ i.val ∧ i.val ≤ 0x7F → v.toNat ≤ 40)
    let quiet := (∀ g, (s.galley g).state = .closed) ∧ ∀ k, s.lineAt k = none
    (good → quiet →
      exec (.quiescentConfigWrite v) s = .next
        (s.fresh.modConfig fun c => { c with entries := vset c.entries i (v &&& definedBits i.val) })) ∧
    (¬ (good ∧ quiet) →
      exec (.quiescentConfigWrite v) s = .next
        ((s.fresh.modConfig fun c => { c with lastRefusal := code }).raise .configReject))) ∧
  ∀ (s : State) (v : Byte),
    ((s.config.index = 0x16 ∨ s.config.index = 0x17 ∨ s.config.index = 0xC8) →
      exec (.readOnlyEntryWrite v) s = .next
        ((s.fresh.modConfig fun c => { c with lastRefusal := 8 }).raise .configReject)) ∧
    (0xC9 ≤ s.config.index.toNat →
      exec (.readOnlyEntryWrite v) s = .next
        ((s.fresh.modConfig fun c => { c with lastRefusal := 9 }).raise .configReject)) ∧
    (s.cfgRead 0xC8).getLsbD 7 = decide ((∀ g, (s.galley g).state = .closed) ∧ ∀ k, s.lineAt k = none) ∧
    (s.cfgRead 0xC8).setWidth 7 = s.config.lastRefusal

/-- R16, R178. A station map write accepted makes every LIVE and RETIRING record UNVERIFIED in its event; a write
refused changes no verification. -/
def Obligations.StationMapWriteUnverifiesEveryFont : Prop :=
  ∀ (s : State) (v : Byte), s.config.index = 0x12 →
    let perm := ∀ l m : Fin 4, v.toNat / 4 ^ l.val % 4 = v.toNat / 4 ^ m.val % 4 → l = m
    let quiet := (∀ g, (s.galley g).state = .closed) ∧ ∀ k, s.lineAt k = none
    (perm → quiet → ∃ t, exec (.stationMapWrite v) s = .next t ∧
      t = { (s.fresh.modConfig fun c => { c with entries := vset c.entries 0x12 v }) with fonts := t.fonts } ∧
      (∀ i, (s.font i).state ≠ .empty → t.font i = { s.font i with verification := .unverified }) ∧
      (∀ i, (s.font i).state = .empty → t.font i = s.font i)) ∧
    (¬ (perm ∧ quiet) →
      exec (.stationMapWrite v) s = .next
        ((s.fresh.modConfig fun c => { c with lastRefusal := 3 }).raise .configReject))

/-! ### The Set-Line Store's own events -/

/-- R7, R33, R105, R106, R107, R108, R111, R136, R137, R139, R148, R158, R160, R161. What comes about of itself in an event, in
the model's order (log 4): the close of a galley; the assignment of the film or the paper, or of both to a galley of mode
BOTH, to the head of its queue; the end action on film and on paper of a holder whose work is finished; the next film line
taken by Exposure Control, with the film advance that it begins, or, where not a step is to be moved, with the glyph
decision of its first glyph (R140; FlashFiresAndIsReportedComplete spells it out); a band begun by the port; and the next proof line taken
into a band buffer. The steps of a taken line and of the gap are said for the cases of R137 and R148 step 1. At a close the galley's font loses
its current reference. Two
points in them are the model's: the first step of a film move comes one whole step period after its start (log 31, a
choice), and a line of depth 0 without a glyph to flash is done before any check for a cassette (log 41, deduced). -/
def Obligations.StoreAssignsHandsOutAndCloses : Prop :=
  (∀ s : State,
    (∀ t, tryClose s = some t → reactOnce s = some t) ∧
    (tryClose s = none → ∀ t, tryAssign s = some t → reactOnce s = some t) ∧
    (tryClose s = none → tryAssign s = none → ∀ t, tryFilmEnd s = some t → reactOnce s = some t) ∧
    (tryClose s = none → tryAssign s = none → tryFilmEnd s = none → ∀ t, tryPaperEnd s = some t →
      reactOnce s = some t) ∧
    (tryClose s = none → tryAssign s = none → tryFilmEnd s = none → tryPaperEnd s = none →
      (∀ t, tryTakeLine s = some t → reactOnce s = some t) ∧
      (tryTakeLine s = none → ∀ t, tryStartBand s = some t → reactOnce s = some t) ∧
      (tryTakeLine s = none → tryStartBand s = none → ∀ t, tryTakeProofLine s = some t → reactOnce s = some t))) ∧
  -- the close (R33, R48)
  (∀ s : State,
    (tryClose s = none ↔ ∀ g, s.closable g = false) ∧
    (∀ g, s.closable g = true → (∀ h, h < g → s.closable h = false) → ∃ t, tryClose s = some t ∧
      t.galley g = { s.galley g with state := .closed, buffer := [], builder := Builder.blank, font := none } ∧
      (∀ h, h ≠ g → t.galley h = s.galley h) ∧ t.raised (.galleyClosed g) = true ∧ t.store.slots = s.store.slots ∧
      t.store.filmQueue = s.store.filmQueue.filter (· != g) ∧ t.store.paperQueue = s.store.paperQueue.filter (· != g) ∧
      t.store.filmHolder = (if s.store.filmHolder = some g then none else s.store.filmHolder) ∧
      t.store.paperHolder = (if s.store.paperHolder = some g then none else s.store.paperHolder) ∧
      t.film = s.film ∧ t.exposure = s.exposure ∧ t.proof = s.proof ∧ t.photo = s.photo ∧ t.config = s.config ∧
      -- the current reference of the galley's font is given up (R7)
      (HeldOnce s → ReferencesReported s t (fun _ => 0) (fun _ => 0) (fun _ => 0)
        fun j => if (s.galley g).font = some j then 1 else 0)) ∧
    ∀ g, s.closable g = true ↔ s.linesOf g = [] ∧
      ((s.galley g).state = .ending ∧
          ((s.galley g).mode ≠ .proof → s.store.filmHolder = some g ∧ s.store.filmEndDone = true) ∧
          ((s.galley g).mode ≠ .film → s.store.paperHolder = some g ∧ s.store.paperEndDone = true) ∨
        (s.galley g).state = .cancelling ∧ (s.store.filmHolder = some g → s.store.filmEndDone = true) ∧
          (s.store.paperHolder = some g → s.store.paperEndDone = true))) ∧
  -- the assignment (R105, R106, R107; R136)
  (∀ (s : State) (g : GalleyId) (queue : List GalleyId),
    let figures := if s.exposure.work.isFreeMove then s.film
      else { s.film with galleyStart := s.film.position, deepest := s.film.position }
    let deferred := { s.exposure with figuresDeferred := s.exposure.work.isFreeMove || s.exposure.figuresDeferred }
    (s.store.filmHolder = none → s.store.filmQueue = g :: queue → (s.galley g).mode = .film →
      tryAssign s = some { s with
        store := { s.store with filmHolder := some g, filmEndBegun := false, filmEndDone := false }
        film := figures, exposure := deferred }) ∧
    (s.store.filmHolder = none → s.store.filmQueue = g :: queue → (s.galley g).mode = .both →
      s.store.paperHolder = none → s.store.paperQueue.head? = some g →
      tryAssign s = some { s with
        store := { s.store with filmHolder := some g, filmEndBegun := false, filmEndDone := false,
                                paperHolder := some g, paperEndBegun := false, paperEndDone := false }
        film := figures, exposure := deferred }) ∧
    (s.filmAssignee = none → s.store.paperHolder = none → s.store.paperQueue = g :: queue →
      (s.galley g).mode = .proof →
      tryAssign s = some { s with
        store := { s.store with paperHolder := some g, paperEndBegun := false, paperEndDone := false } }) ∧
    (s.store.filmQueue = g :: queue → (s.galley g).mode = .both →
      (s.store.paperHolder.isSome ∨ s.store.paperQueue.head? ≠ some g) → s.filmAssignee = none) ∧
    ((s.store.filmHolder.isSome ∨ s.store.filmQueue = []) → s.filmAssignee = none) ∧
    (s.filmAssignee = none → (s.store.paperHolder.isSome ∨ s.store.paperQueue = []) → tryAssign s = none)) ∧
  -- the next film line (R108, R136, R137, R139)
  (∀ (s : State) (g : GalleyId) (k : LineSlot) (r : LineRecord) (before after : List LineSlot),
    s.exposure.work = .none → s.exposure.hold = none → s.photo.verify = none → s.store.filmHolder = some g →
    ((s.galley g).state = .opened ∨ (s.galley g).state = .ending) → s.linesOf g = before ++ k :: after →
    s.lineAt k = some r → r.film = true → r.filmProgress = .notBegun →
    (∀ j ∈ before, ∀ q, s.lineAt j = some q → q.film = false ∨ q.filmProgress ≠ .notBegun) →
    let n := r.depth.natAbs * 10
    let l : LineWork :=
      { slot := k, galley := r.galley, seq := r.seq, order := exposureOrder s r.glyphs, next := 1, step := .decision }
    let work := fun step : LineStep => ExposureWork.line { l with step := step }
    ∃ t, tryTakeLine s = some t ∧
      (r.depth = 0 → exposureOrder s r.glyphs = [] → t.exposure.work = .none ∧
        if r.proof then t.lineAt k = some { r with film := false, filmProgress := .notBegun }
        else t.lineAt k = none) ∧
      (r.depth = 0 → exposureOrder s r.glyphs ≠ [] → s.film.loaded = false →
        t.exposure.work = work .decision ∧ t.exposure.hold = some .cassetteOut ∧ t.raised .expHold = true) ∧
      (0 < r.depth → s.film.loaded = true → s.film.position + n ≤ s.film.length →
        t.lineAt k = some { r with filmProgress := .inExposure } ∧ t.exposure.work = work (.advance true n) ∧
        t.exposure.hold = none ∧ t.film.move = some { forward := true, remaining := n } ∧
        t.film.timer = some s.filmPeriod ∧ t.drives.filmForward = true) ∧
      (r.depth ≠ 0 → s.film.loaded = false →
        t.lineAt k = some { r with filmProgress := .inExposure } ∧
        t.exposure.work = work (.advance (decide (0 ≤ r.depth)) n) ∧ t.exposure.hold = some .cassetteOut ∧
        t.film.move = none ∧ t.raised .expHold = true) ∧
      (0 < r.depth → s.film.loaded = true → s.film.length < s.film.position + n →
        t.exposure.work = work (.advance true n) ∧ t.exposure.hold = some .filmOut ∧ t.film.move = none ∧
        t.film.position = s.film.position ∧ t.raised .expHold = true) ∧
      (r.depth < 0 → s.film.loaded = true → s.film.galleyStart < s.film.position →
        let steps := min n (s.film.position - s.film.galleyStart)
        t.exposure.work = work (.advance false steps) ∧ t.film.move = some { forward := false, remaining := steps } ∧
        (t.galley r.galley).sticky =
          (if steps < n then (s.galley r.galley).sticky ||| stickyReverseClamped else (s.galley r.galley).sticky)) ∧
      -- the advance is complete at once, and the first glyph is decided (R137, R140)
      (∀ first, (exposureOrder s r.glyphs).head? = some first →
        r.depth = 0 ∨ r.depth < 0 ∧ s.film.loaded = true ∧ s.film.position ≤ s.film.galleyStart →
        let begun := s.modExposure fun e =>
          { e with work := work (.advance (decide (0 ≤ r.depth)) n) }
        let taken := { begun with
          store := { s.store with slots := vset s.store.slots k (some { r with filmProgress := .inExposure }) } }
        t = glyphDecision l first
          (if r.depth = 0 then taken
           else taken.modGalley r.galley fun x => { x with sticky := x.sticky ||| stickyReverseClamped })) ∧
      (exposureOrder s r.glyphs = [] → r.depth < 0 → s.film.loaded = true → s.film.position ≤ s.film.galleyStart →
        t.exposure.work = .none ∧ t.film = s.film ∧
        (t.galley r.galley).sticky = (s.galley r.galley).sticky ||| stickyReverseClamped ∧
        if r.proof then t.lineAt k = some { r with film := false, filmProgress := .notBegun }
        else t.lineAt k = none)) ∧
  (∀ (s : State) (gs : List SetGlyph),
    (s.grouped = false → exposureOrder s gs = gs.filter fun g => !g.absent) ∧
    (exposureOrder s gs).Perm (gs.filter fun g => !g.absent)) ∧
  (∀ s : State, (s.exposure.work ≠ .none ∨ s.exposure.hold.isSome ∨ s.photo.verify.isSome ∨ s.store.filmHolder = none) →
    tryTakeLine s = none) ∧
  -- the end action on film (R111, R148)
  (∀ (s : State) (g : GalleyId), s.exposure.work = .none → s.exposure.hold = none → s.store.filmHolder = some g →
    ((s.galley g).state = .ending ∨ (s.galley g).state = .cancelling) →
    (∀ k ∈ s.linesOf g, ∀ r, s.lineAt k = some r → r.film = false) → s.store.filmEndBegun = false →
    let target := s.film.deepest + s.setting 0x0E * 10
    ∃ t, tryFilmEnd s = some t ∧ t.store = { s.store with filmEndBegun := true } ∧
      (s.film.loaded = false → t.exposure.work = .gap target ∧ t.exposure.hold = some .cassetteOut ∧
        t.raised .expHold = true ∧ t.film.move = none) ∧
      (s.film.loaded = true → s.film.length < target → t.exposure.work = .gap target ∧
        t.exposure.hold = some .filmOut ∧ t.raised .expHold = true ∧ t.film.move = none) ∧
      (s.film.loaded = true → target ≤ s.film.length → s.film.position < target →
        t.exposure.work = .gap target ∧ t.exposure.hold = none ∧
        t.film.move = some { forward := true, remaining := target - s.film.position } ∧
        t.film.timer = some s.filmPeriod) ∧
      (s.film.loaded = true → target ≤ s.film.length → target ≤ s.film.position → s.cutterHome = true →
        t.exposure.work = .cut target .awaitFall ∧ t.exposure.cutTimer = some s.cutTime ∧
        t.pulses = s.pulses ++ [.cut]) ∧
      (s.film.loaded = true → target ≤ s.film.length → target ≤ s.film.position → s.cutterHome = false →
        t.exposure.work = .cut target .awaitRise ∧ t.exposure.cutTimer = some s.cutTime ∧ t.pulses = s.pulses)) ∧
  (∀ s : State, (s.exposure.work ≠ .none ∨ s.exposure.hold.isSome ∨ s.store.filmHolder = none ∨
      s.store.filmEndBegun = true) → tryFilmEnd s = none) ∧
  -- the end action on paper (R111, R161)
  (∀ (s : State) (g : GalleyId), s.proof.port = .idle → s.store.paperHolder = some g →
    ((s.galley g).state = .ending ∨ (s.galley g).state = .cancelling) →
    (∀ k ∈ s.linesOf g, ∀ r, s.lineAt k = some r → r.proof = false) → s.store.paperEndBegun = false →
    ∃ t, tryPaperEnd s = some t ∧ t.store = { s.store with paperEndBegun := true } ∧
      t.proof = { s.proof with feeds := 48, port := if s.paperPresent then .endFeed else .held .endFeed } ∧
      t.raised .proofHold = (s.raised .proofHold || !s.paperPresent)) ∧
  -- a band begun by the port, and the next proof line (R158, R160)
  (∀ (s : State) (i : Fin 2) (b : Band) (r : LineRecord), s.proof.port = .idle →
    vget s.proof.buffers i = .ready b → (∀ j, j < i → ∀ c, vget s.proof.buffers j ≠ .ready c) →
    s.lineAt b.slot = some r → ∃ t, tryStartBand s = some t ∧
      t.proof = { s.proof with buffers := vset s.proof.buffers i (.sending b), row := 0, pos := 0,
                               port := if s.paperPresent then .sending else .held .sending } ∧
      t.lineAt b.slot = some { r with proofProgress := .sent } ∧
      t.raised .proofHold = (s.raised .proofHold || !s.paperPresent)) ∧
  ∀ (s : State) (g : GalleyId) (k : LineSlot) (r : LineRecord) (i : Fin 2) (before after : List LineSlot),
    (∀ j b, vget s.proof.buffers j ≠ .ready b) → vget s.proof.buffers i = .empty →
    (∀ j, j < i → vget s.proof.buffers j ≠ .empty) → s.store.paperHolder = some g →
    ((s.galley g).state = .opened ∨ (s.galley g).state = .ending) → s.linesOf g = before ++ k :: after →
    s.lineAt k = some r → r.proof = true → r.proofProgress = .notBegun →
    (∀ j ∈ before, ∀ q, s.lineAt j = some q → q.proof = false ∨ q.proofProgress ≠ .notBegun) →
    ∃ t, tryTakeProofLine s = some t ∧ t.lineAt k = some { r with proofProgress := .inBand } ∧
      t.proof = { s.proof with buffers := vset s.proof.buffers i (.ready (assemble s k r)) } ∧
      t.exposure = s.exposure ∧ t.film = s.film ∧ t.galleys = s.galleys

/-! ### Sensor lines and the printer port -/

/-- R181, R145, R124, R150, R151, R160. An accepted change of LID_CLOSED, CASSETTE_PRESENT or PAPER_PRESENT shows in the accepted
level, sets its event status bit, raises SENSOR, and is reported: a lid fall cancels the flash delay and holds a line,
a cassette fall marks the cassette not loaded and holds a line or an end action, ends an ADVANCE FILM with WRONG_STATE, whose
detail is a free value (log 7), and leaves a CUT FILM to its end; a paper fall holds the port, and a
paper rise lets it go on. -/
def Obligations.AcceptedSensorChangesAreReported : Prop :=
  (∀ s : State, s.lidClosed = true → ∃ t, exec .lidClosedFall s = .next (react t) ∧ t.lidClosed = false ∧
    t.sensors.events = s.sensors.events ||| 0x08#6 ∧ t.raised .sensor = true ∧ t.photo.delay = none ∧
    t.exposure.work = s.exposure.work ∧ t.film.position = s.film.position ∧ t.store = s.store ∧
    t.galleys = s.galleys ∧ t.fonts = s.fonts ∧ t.config = s.config ∧
    ((s.exposure.work.isLine = false ∨ s.exposure.hold.isSome) →
      t.exposure = s.exposure ∧ t.film = s.film ∧ t.photo = { s.photo with delay := none }) ∧
    (s.exposure.work.isLine = true → s.exposure.hold = none →
      t.exposure.hold = some .lidOpen ∧ t.raised .expHold = true ∧ t.photo.flash = none ∧ t.film.move = none)) ∧
  (∀ s : State, s.cassettePresent = true → ∃ t, exec .cassettePresentFall s = .next (react t) ∧
    t.cassettePresent = false ∧ t.sensors.events = s.sensors.events ||| 0x02#6 ∧ t.raised .sensor = true ∧
    t.film.loaded = false ∧ t.film.position = s.film.position ∧ t.film.length = s.film.length ∧
    (s.exposure.figuresDeferred = false → t.film.deepest = s.film.deepest) ∧ t.store = s.store ∧ t.galleys = s.galleys ∧ t.fonts = s.fonts ∧
    (s.exposure.work = .none → t.exposure = s.exposure) ∧
    (s.exposure.state = .line ∨ s.exposure.state = .filmEnd →
      t.exposure.hold = some .cassetteOut ∧ t.exposure.work = s.exposure.work ∧ t.raised .expHold = true ∧
      t.film.move = none ∧ t.photo.flash = none) ∧
    -- a free film move in progress (R150, R151, R136)
    (∀ ch clamped, s.exposure.work = .advanceFilm ch clamped →
      t.exposure = { s.exposure with work := .none, figuresDeferred := false, cutTimer := none } ∧
      s.answered t ch .wrongState (Config.unstatedDetail s.free) ∧
      t.film = { s.film with
        loaded := false, lowNoted := false, move := none, timer := none
        galleyStart := if s.exposure.figuresDeferred ∧ s.store.filmHolder.isSome then s.film.position
          else s.film.galleyStart
        deepest := if s.exposure.figuresDeferred ∧ s.store.filmHolder.isSome then s.film.position
          else s.film.deepest }) ∧
    ∀ ch step, s.exposure.work = .cutFilm ch step → t.exposure = s.exposure ∧ t.channels = s.channels ∧
      t.film = { s.film with loaded := false, lowNoted := false }) ∧
  (∀ s : State, s.paperPresent = true → ∃ t, exec .paperPresentFall s = .next (react t) ∧ t.paperPresent = false ∧
    t.sensors.events = s.sensors.events ||| 0x20#6 ∧ t.raised .sensor = true ∧
    (s.proof.port = .sending → t.proof = { s.proof with port := .held .sending } ∧ t.raised .proofHold = true) ∧
    (s.proof.port = .endFeed → t.proof = { s.proof with port := .held .endFeed } ∧ t.raised .proofHold = true) ∧
    (s.proof.port = .idle → t.proof = s.proof ∧ t.raised .proofHold = s.raised .proofHold) ∧
    t.exposure = s.exposure ∧ t.store = s.store ∧ t.photo = s.photo) ∧
  (∀ s : State, s.paperPresent = false → ∃ t, exec .paperPresentRise s = .next (react t) ∧ t.paperPresent = true ∧
    t.sensors.events = s.sensors.events ||| 0x10#6 ∧ t.raised .sensor = true ∧
    (s.proof.port = .held .sending → t.proof = { s.proof with port := .sending }) ∧
    (s.proof.port = .held .endFeed → t.proof = { s.proof with port := .endFeed }) ∧
    ((∀ w, s.proof.port ≠ .held w) → t.proof = s.proof)) ∧
  (∀ (s : State) (l : DebouncedLine), (s.debouncer l).accepted = false →
    (l = .cassettePresent ∨ l = .lidClosed) → ∃ t, exec (.sensorChangeAccepted l true) s = .next (react t) ∧
      (t.debouncer l).accepted = true ∧ t.raised .sensor = true ∧
      t.sensors.events = s.sensors.events ||| (match l with | .cassettePresent => 0x01#6 | _ => 0x04#6) ∧
      t.photo = s.photo ∧ t.exposure = s.exposure ∧ t.film = s.film ∧ t.proof = s.proof) ∧
  ∀ s : State, exec (.sensorChangeAccepted .lidClosed false) s = exec .lidClosedFall s ∧
    exec (.sensorChangeAccepted .cassettePresent false) s = exec .cassettePresentFall s ∧
    exec (.sensorChangeAccepted .paperPresent false) s = exec .paperPresentFall s ∧
    exec (.sensorChangeAccepted .paperPresent true) s = exec .paperPresentRise s

/-- R180, R181. A change of the conditioned level of a debounced line begins its 10 ms (20,000 ticks) where debounce is
enabled, is cancelled by a return to the accepted level before they have run, and is accepted at once where debounce is
disabled; a return at the end of the 10 ms comes after the acceptance. A change of TURRET_READY, LENS_READY or CUTTER_HOME
is accepted in its event, and is the arrival, the loss or the end of the cut. TURRET_POS and DISC_CODE carry no event;
PRINTER_BUSY is accepted in the event of its change, and the printer port reads it at its next transfer. A read of 16H
returns its bits and clears them.

A write to 13H or 14H stores its byte, and every line whose inversion it flips, and no other, changes its conditioned
level: each filtered line then as above (its change is timed or cancelled, or accepted at once), and a write that flips one
sensor line is that line's level change. Several flipped lines are taken in ascending order of their bits (the model's
choice, log 16). A write to 15H stores its low three bits, and accepts the change being timed of every line whose debounce
it disables, in ascending order (log 16), and of no other line. -/
def Obligations.SensorLevelsAreConditionedAndDebounced : Prop :=
  (∀ (s : State) (l : DebouncedLine) (level : Bool), s.conditioned (debouncedBit l) = !level →
    ((s.debouncer l).timing ≠ some 0 →
      ((s.debouncer l).accepted = !level → s.debounceEnabled l = true → ∃ t,
        EventTo (exec (.sensorLevelChange (.debounced l) level) s) s t ∧ t = { s.fresh with sensors := t.sensors } ∧
        t.debouncer l = { accepted := !level, timing := some 20000 } ∧ t.sensors.events = s.sensors.events ∧
        t.conditioned (debouncedBit l) = level) ∧
      ((s.debouncer l).accepted = level → ∃ t,
        EventTo (exec (.sensorLevelChange (.debounced l) level) s) s t ∧ t = { s.fresh with sensors := t.sensors } ∧
        t.debouncer l = { accepted := level, timing := none } ∧ t.sensors.events = s.sensors.events) ∧
      ((s.debouncer l).accepted = !level → s.debounceEnabled l = false →
        exec (.sensorLevelChange (.debounced l) level) s = exec (.sensorChangeAccepted l level) s)) ∧
    ((s.debouncer l).timing = some 0 → (s.debouncer l).accepted = level → s.debounceEnabled l = true → ∃ t,
      exec (.sensorLevelChange (.debounced l) level) s = .next (react t) ∧
      t.debouncer l = { accepted := !level, timing := some 20000 } ∧
      t.sensors.events = s.sensors.events ||| eventBit l (!level) ∧ t.raised .sensor = true)) ∧
  (∀ (s : State) (l : SensorLine) (level : Bool),
    (l = .printerBusy ∨ (∃ b, l = .turretPos b) ∨ ∃ b, l = .discCode b) → s.conditioned (sensorBit l) = !level → ∃ t,
      EventTo (exec (.sensorLevelChange l level) s) s t ∧
      t = { s.fresh with sensors := { s.sensors with inputs := t.sensors.inputs } } ∧
      t.conditioned (sensorBit l) = level ∧
      ∀ i, i ≠ sensorBit l → t.conditioned i = s.conditioned i) ∧
  (∀ s : State,
    (s.conditioned (sensorBit .turretReady) = true → ∃ t, exec .turretReadyFall s = .next t ∧
      exec (.sensorLevelChange .turretReady false) s = .next (react t)) ∧
    (s.conditioned (sensorBit .turretReady) = false → s.photo.turret.isStanding = false →
      exec (.sensorLevelChange .turretReady true) s = exec (.turretArrival s.turretPosLines s.discCodeLines) s) ∧
    (s.conditioned (sensorBit .lensReady) = true → ∃ t, exec .lensReadyFall s = .next t ∧
      exec (.sensorLevelChange .lensReady false) s = .next (react t)) ∧
    (∀ p, s.conditioned (sensorBit .lensReady) = false → s.photo.lens = .moving p → ∃ t,
      exec .lensArrival s = .next t ∧ exec (.sensorLevelChange .lensReady true) s = .next (react t)) ∧
    (s.cutterHome = true → ∃ t, exec .cutterHomeFall s = .next t ∧
      exec (.sensorLevelChange .cutterHome false) s = .next (react t)) ∧
    (s.cutterHome = false → exec (.sensorLevelChange .cutterHome true) s = exec .cutComplete s) ∧
    (s.config.index = 0x16 →
      exec .sensorEventStatusRead s =
        .next { s.fresh with readData := s.sensors.events.setWidth 32, sensors := { s.sensors with events := 0 } })) ∧
  (∀ (s : State) (v : Byte) (i : Fin 201), (i.val = 0x13 ∨ i.val = 0x14) → s.config.index = BitVec.ofNat 8 i.val →
    let stored := v &&& definedBits i.val
    let s1 := s.fresh.modConfig fun c => { c with entries := vset c.entries i stored }
    let changed : BitVec 15 := (vget s.config.entries i ^^^ stored).setWidth 15 <<< (if i.val = 0x13 then 0 else 8)
    let flipped := fun bit : Nat => changed.getLsbD bit
    (stored = vget s.config.entries i → EventTo (exec (.sensorInversionWrite v) s) s s.fresh) ∧
    (exec (.sensorInversionWrite v) s = .next (react
      ((sensorLines.filter fun l => flipped (sensorBit l)).foldl (fun s l => sensorChanged l s)
        ((encoderLines.filter fun l => flipped (encoderBit l)).foldl (fun s l => encoderChanged l s) s1)))) ∧
    (∃ t, exec (.sensorInversionWrite v) s = .next (react t) ∧ t.config = s1.config ∧
      t.sensors.inputs = s.sensors.inputs ∧
      (∀ bit, t.conditioned bit = (s.conditioned bit ^^ flipped bit)) ∧
      (∀ l, flipped (encoderBit l) = false → t.encoder l = s.encoder l) ∧
      (∀ l, flipped (encoderBit l) = true → (s.encoder l).timing ≠ some 0 →
        ((s.encoder l).accepted = s.conditioned (encoderBit l) →
          t.encoder l =
            if s.rejectionTime = 0 then { accepted := !s.conditioned (encoderBit l), timing := none }
            else { accepted := s.conditioned (encoderBit l), timing := some s.rejectionTime }) ∧
        ((s.encoder l).accepted = (!s.conditioned (encoderBit l)) →
          t.encoder l = { accepted := !s.conditioned (encoderBit l), timing := none })) ∧
      (∀ l, flipped (debouncedBit l) = false → t.debouncer l = s.debouncer l) ∧
      (∀ l, flipped (debouncedBit l) = true → (s.debouncer l).timing ≠ some 0 →
        ((s.debouncer l).accepted = s.conditioned (debouncedBit l) →
          (s.debounceEnabled l = true →
            t.debouncer l = { accepted := s.conditioned (debouncedBit l), timing := some 20000 }) ∧
          (s.debounceEnabled l = false →
            t.debouncer l = { accepted := !s.conditioned (debouncedBit l), timing := none } ∧
            t.sensors.events &&& eventBit l (!s.conditioned (debouncedBit l)) =
              eventBit l (!s.conditioned (debouncedBit l)) ∧
            t.raised .sensor = true)) ∧
        ((s.debouncer l).accepted = (!s.conditioned (debouncedBit l)) →
          t.debouncer l = { accepted := !s.conditioned (debouncedBit l), timing := none }))) ∧
    (∀ l : SensorLine, changed = 1#15 <<< sensorBit l →
      exec (.sensorInversionWrite v) s =
        exec (.sensorLevelChange l (!s.conditioned (sensorBit l)))
          (s1.setConditioned (sensorBit l) (s.conditioned (sensorBit l)))) ∧
    ((∀ l, flipped (sensorBit l) = false) → (∀ l, (s.encoder l).timing ≠ some 0) → s.rejectionTime ≠ 0 →
      ∃ t, exec (.sensorInversionWrite v) s = .next (react t) ∧ t = { s1 with sensors := t.sensors })) ∧
  ∀ (s : State) (v : Byte), s.config.index = 0x15 →
    let s1 := s.fresh.modConfig fun c => { c with entries := vset c.entries 0x15 (v &&& 0x07) }
    let accepts := fun l : DebouncedLine => v.getLsbD (debounceIndex l) = false ∧ (s.debouncer l).timing.isSome
    ((∀ l, ¬ accepts l) → EventTo (exec (.debounceEnableWrite v) s) s s1) ∧
    (∃ t, exec (.debounceEnableWrite v) s = .next (react t) ∧ t.config = s1.config ∧
      t.sensors.inputs = s.sensors.inputs ∧ t.sensors.index = s.sensors.index ∧ t.sensors.slot = s.sensors.slot ∧
      (∀ l, accepts l → t.debouncer l = { accepted := s.conditioned (debouncedBit l), timing := none } ∧
        t.sensors.events &&& eventBit l (s.conditioned (debouncedBit l)) = eventBit l (s.conditioned (debouncedBit l)) ∧
        t.raised .sensor = true) ∧
      (∀ l, ¬ accepts l → t.debouncer l = s.debouncer l) ∧
      ((∀ l, accepts l → s.conditioned (debouncedBit l) = true) → t.exposure = s.exposure ∧ t.film = s.film ∧
        t.photo = s.photo)) ∧
    (∀ l, (∀ k, accepts k ↔ k = l) → (s.debouncer l).accepted = (!s.conditioned (debouncedBit l)) →
      exec (.debounceEnableWrite v) s = exec (.sensorChangeAccepted l (s.conditioned (debouncedBit l))) s1) ∧
    let one := fun (l : DebouncedLine) (s : State) =>
      if v.getLsbD (debounceIndex l) = false ∧ (s.debouncer l).timing.isSome then
        acceptDebounced l (s.conditioned (debouncedBit l)) s
      else s
    exec (.debounceEnableWrite v) s = .next (react (one .paperPresent (one .lidClosed (one .cassettePresent s1))))

/-- R116. A change on an encoder line begins the rejection time, and a return before it has run cancels it; with a
rejection time of 0 it is accepted at once. A return once it has run finds the change accepted: it is accepted at the end
of its time, the rest of the ticks pass, and the new change begins. An accepted change back to the false level is not a
pulse: it moves nothing in the Photo Unit. The ticks that a level change carries pass on every timer, and it does not arise
where another timer falls due before it (the model's operand, log 15 and log 2). -/
def Obligations.EncoderChangesWaitTheRejectionTime : Prop :=
  (∀ (s : State) (l : EncoderLine) (level : Bool) (n : Nat), s.conditioned (encoderBit l) = !level →
    s.quietFor n = true →
    ((s.encoder l).accepted = !level → (s.encoder l).timing = none → s.rejectionTime ≠ 0 → ∃ t,
      exec (.encoderLevelChange l level n) s = .next t ∧
      t = { (advanceTime n s).fresh with sensors := t.sensors } ∧
      t.encoder l = { accepted := !level, timing := some s.rejectionTime }) ∧
    ((s.encoder l).accepted = level → (∀ k, (s.encoder l).timing = some k → n < k) → ∃ t,
      exec (.encoderLevelChange l level n) s = .next t ∧
      t = { (advanceTime n s).fresh with sensors := t.sensors } ∧
      t.encoder l = { accepted := level, timing := none })) ∧
  (∀ (s : State) (l : EncoderLine) (level : Bool) (n k : Nat), s.conditioned (encoderBit l) = (!level) →
    (s.encoder l).accepted = level → (s.encoder l).timing = some k → k ≤ n → s.quietFor k = true → ∃ s1,
      exec (encoderAcceptance l (!level)) (advanceTime k s) = .next s1 ∧
      (s1.quietFor (n - k) = true →
        exec (.encoderLevelChange l level n) s = exec (.encoderLevelChange l level (n - k)) s1)) ∧
  (∀ (s : State) (l : EncoderLine) (level : Bool) (n : Nat), (s.encoder l).timing = none → s.quietFor n = false →
    exec (.encoderLevelChange l level n) s = .next s) ∧
  (∀ (s : State) (l : EncoderLine) (n : Nat), s.conditioned (encoderBit l) = true → (s.encoder l).accepted = true →
    (s.encoder l).timing = none → s.quietFor n = true → s.rejectionTime = 0 → ∃ t,
      exec (.encoderLevelChange l false n) s = .next t ∧ t.encoder l = { accepted := false, timing := none } ∧
      t.photo = (advanceTime n s).photo) ∧
  (∀ (s : State) (l : EncoderLine), (s.encoder l).accepted = true → ∃ t,
    exec (.falseLevelAccepted l) s = .next t ∧ t = { s.fresh with sensors := t.sensors } ∧
    t.encoder l = { accepted := false, timing := none } ∧ t.conditioned (encoderBit l) = false) ∧
  ∀ (s : State) (n : Nat), s.quietFor n = true ↔ (∀ k, s.photo.lamp = .recharging k → n ≤ k) ∧
    ∀ t ∈ [s.photo.indexTimer, s.photo.turretTimer, s.photo.lensTimer, s.photo.carriageTimer, s.photo.delay,
        s.photo.lockWatch, s.sensors.index.timing, s.sensors.slot.timing, s.sensors.cassette.timing,
        s.sensors.lid.timing, s.sensors.paper.timing, s.film.timer, s.exposure.cutTimer], ∀ k, t = some k → n ≤ k

/-- R159, R161. While PRINTER_BUSY is false the port sends, for each of 12 rows, 156 bytes and a feed, and then four
feeds; byte k of a row carries columns 8k to 8k+7, the most significant bit first. The end feeds count down to IDLE.
While PRINTER_BUSY is true there is no transfer. -/
def Obligations.PortTransfersFollowTheBand : Prop :=
  (∀ s : State, s.printerBusy = true → exec .portTransfer s = .next s) ∧
  (∀ (s : State) (i : Fin 2) (b : Band), s.printerBusy = false → s.proof.port = .sending →
    s.sendingBand = some (i, b) →
    (∀ h : s.proof.row < 12, s.proof.pos < 156 →
      EventTo (exec .portTransfer s) s
        (((s.modDrives fun d => { d with data := rowByte (vget b.rows ⟨s.proof.row, h⟩) s.proof.pos }).modProof
          fun p => { p with pos := p.pos + 1 }).fresh.pulse
            (.strobe (rowByte (vget b.rows ⟨s.proof.row, h⟩) s.proof.pos)))) ∧
    (s.proof.row < 12 → 156 ≤ s.proof.pos →
      EventTo (exec .portTransfer s) s
        ((s.modProof fun p => { p with row := p.row + 1, pos := 0 }).fresh.pulse .rowFeed)) ∧
    (12 ≤ s.proof.row → s.proof.pos < 3 →
      EventTo (exec .portTransfer s) s ((s.modProof fun p => { p with pos := p.pos + 1 }).fresh.pulse .rowFeed)) ∧
    (12 ≤ s.proof.row → 3 ≤ s.proof.pos → ∃ t, exec .portTransfer s = .next (react t) ∧ t.proof.port = .idle ∧
      vget t.proof.buffers i = .empty ∧ t.pulses = [.rowFeed] ∧
      ∀ r, s.lineAt b.slot = some r →
        if r.film then t.lineAt b.slot = some { r with proof := false, proofProgress := .notBegun }
        else t.lineAt b.slot = none)) ∧
  (∀ s : State, s.printerBusy = false → s.proof.port = .endFeed → 1 < s.proof.feeds →
    EventTo (exec .portTransfer s) s
      ((s.modProof fun p => { p with feeds := p.feeds - 1 }).fresh.pulse .rowFeed)) ∧
  (∀ s : State, s.printerBusy = false → s.proof.port = .endFeed → s.proof.feeds = 1 →
    exec .portTransfer s =
      .next (react (((s.modProof fun p => { p with feeds := 0, port := .idle }).fresh.pulse .rowFeed).modStore
        fun t => { t with paperEndDone := true }))) ∧
  (∀ (s : State) (level : Bool), s.printerBusy = !level → ∃ t,
    exec (.printerBusyChange level) s = .next t ∧ t.printerBusy = level ∧
    t = { s.fresh with sensors := { s.sensors with inputs := t.sensors.inputs } }) ∧
  ∀ (row : BitVec 1248) (k i : Nat), i < 8 → (rowByte row k).getLsbD (7 - i) = row.getLsbD (8 * k + i)

/-! ### Photo Unit -/

/-- R118, R119, R120, R129. An index pulse measures the period (the first one measures none), judges the lock by the
period, the 96 slots and the disturbance mark, and restarts the index timeout. A pulse that takes the disc from LOCKED
cancels the flash delay and starts the lock watch. The elapsed ticks are the model's operand (log 15): they pass on every
timer before the pulse, which does not arise where a timer falls due before it (log 2). -/
def Obligations.IndexPulseMeasuresThePeriodAndJudgesTheLock : Prop :=
  (∀ (s : State) (n : Nat), s.quietFor n = false → exec (.indexPulse n) s = .next s) ∧
  (∀ s : State, s.quietFor 0 = true) ∧
  ∀ (s0 : State) (n : Nat), s0.quietFor n = true → ∃ t, exec (.indexPulse n) s0 = .next t ∧
    let s := advanceTime n s0
    t = { s.fresh with photo := t.photo, sensors := t.sensors } ∧
    t.sensors.slot = s.sensors.slot ∧ t.sensors.cassette = s.sensors.cassette ∧ t.sensors.lid = s.sensors.lid ∧
    t.sensors.paper = s.sensors.paper ∧ t.sensors.index = { accepted := true, timing := none } ∧
    (s0.photo.counting = true → t.photo.period = min 16777215 (s0.photo.count + n)) ∧
    (s.photo.counting = false → t.photo.period = s.photo.period) ∧
    let clean := s.photo.counting = true ∧ s.photo.slotCount = 96 ∧
      ((t.photo.period : Int) - s.tNom) * 50 ≤ s.tNom ∧ ((s.tNom : Int) - t.photo.period) * 50 ≤ s.tNom ∧
      s.photo.disturbed = false
    (clean → s.photo.disc = .unlocked →
      t.photo.disc = .proving ∧ t.photo.delay = s.photo.delay ∧ t.photo.lockWatch = s.photo.lockWatch) ∧
    (clean → s.photo.disc ≠ .unlocked →
      t.photo.disc = .locked ∧ t.photo.delay = s.photo.delay ∧ t.photo.lockWatch = none) ∧
    (¬ clean → s.photo.disc = .locked →
      t.photo.disc = .unlocked ∧ t.photo.delay = none ∧ t.photo.lockWatch = some s.lockTime) ∧
    (¬ clean → s.photo.disc ≠ .locked →
      t.photo.disc = .unlocked ∧ t.photo.delay = s.photo.delay ∧ t.photo.lockWatch = s.photo.lockWatch) ∧
    t.photo =
      { s.photo with
        disc := t.photo.disc, period := t.photo.period, count := 0, counting := true, slotCount := 0,
        disturbed := s.photo.disturbed && s.photo.turret.isMoving, indexTimer := some (2 * s.tNom),
        delay := t.photo.delay, lockWatch := t.photo.lockWatch }

/-- R117, R122. A slot pulse counts, at most to 255. One that brings the count to g + 1, for g up to 95, is the arrival of
slot g: with the request for code g armed, no delay running and all seven conditions holding, it starts the delay of
floor((φ × T + 12,288) / 24,576) ticks, which is less than one ninety-sixth of a T above 12,288. It does nothing else. -/
def Obligations.SlotPulseStartsTheFlashDelay : Prop :=
  (∀ phi t : Nat, phi ≤ 255 → 12288 < t → (phi * t + 12288) / 24576 * 96 < t) ∧
  ∀ s : State, ∃ t, exec .slotPulse s = .next t ∧
    t = { s.fresh with photo := t.photo, sensors := t.sensors } ∧
    t.photo = { s.photo with slotCount := min 255 (s.photo.slotCount + 1), delay := t.photo.delay } ∧
    (∀ q, s.photo.flash = some q → s.photo.delay = none → s.photo.slotCount < 96 → s.photo.slotCount = q.code.val →
      FlashAllowed q s →
      t.photo.delay = some (((vget s.config.entries 0x03).toNat * s.photo.period + 12288) / 24576)) ∧
    ((s.photo.flash = none ∨ s.photo.delay.isSome ∨ 96 ≤ s.photo.slotCount ∨
        ∃ q, s.photo.flash = some q ∧ (s.photo.slotCount ≠ q.code.val ∨ ¬ FlashAllowed q s)) →
      t.photo.delay = s.photo.delay)

/-- R123, R134, R142, R140, R141. The delay's expiry fires the lamp when the conditions hold then: the request leaves the armed state and
the lamp recharges, to READY at once when the recharge time is 0. Otherwise no flash fires and the request stays armed.
The end of the recharge makes the lamp READY and reports the flash complete, unless a composition reset came between. The
report goes on to the glyph decision of the next glyph, or ends the line. A glyph decision holds with the first of its
checks that fails, or goes on to the turret, the lens, the carriage and the arming as far as the train stands in place. That
the report withdraws a request armed meanwhile, with its delay, is the model's choice (log 19), and so is that the disc fault
note is judged after the checks of the decision (log 17). -/
def Obligations.FlashFiresAndIsReportedComplete : Prop :=
  (∀ (s : State) (q : FlashRequest), s.photo.delay.isSome → s.photo.flash = some q → FlashAllowed q s →
    (0 < s.rechargeTime →
      EventTo (exec .flashDelayExpiry s) s
        ((s.modPhoto fun p =>
          { p with delay := none, flash := none, flashReported := true,
                   lamp := .recharging s.rechargeTime }).fresh.pulse .lamp)) ∧
    (s.rechargeTime = 0 → ∃ t, exec .flashDelayExpiry s = .next (react t) ∧ .lamp ∈ t.pulses ∧
      t.photo.lamp = .ready)) ∧
  (∀ s : State, s.photo.delay.isSome →
    (s.photo.flash = none ∨ ∃ q, s.photo.flash = some q ∧ ¬ FlashAllowed q s) →
    EventTo (exec .flashDelayExpiry s) s (s.fresh.modPhoto fun p => { p with delay := none })) ∧
  (∀ s : State, s.photo.lamp ≠ .ready → (s.photo.flashReported = false ∨ s.exposure.work.isLine = false) →
    EventTo (exec .flashComplete s) s (s.fresh.modPhoto fun p => { p with lamp := .ready })) ∧
  (∀ (s : State) (l : LineWork), s.photo.lamp ≠ .ready → s.photo.flashReported = true → s.exposure.work = .line l →
    s.exposure.hold.isSome →
    EventTo (exec .flashComplete s) s
      ((s.fresh.modPhoto fun p => { p with lamp := .ready, flash := none, delay := none }).modExposure fun e =>
        { e with work := .line { l with next := l.next + 1, step := .decision } })) ∧
  (∀ (s : State) (l : LineWork) (r : LineRecord), s.photo.lamp ≠ .ready → s.photo.flashReported = true →
    s.exposure.work = .line l → s.exposure.hold = none → l.next = l.order.length → s.lineAt l.slot = some r →
    ∃ t, exec .flashComplete s = .next (react t) ∧ t.photo.lamp = .ready ∧ t.photo.flash = none ∧
      t.exposure.work = .none ∧
      if r.proof then t.lineAt l.slot = some { r with film := false, filmProgress := .notBegun }
      else t.lineAt l.slot = none) ∧
  (∀ (s : State) (l : LineWork), s.photo.lamp ≠ .ready → s.photo.flashReported = true →
    s.exposure.work = .line l → s.exposure.hold = none → l.next < l.order.length →
    (∃ t, exec .flashComplete s = .next (react t) ∧ t.photo.lamp = .ready ∧
      ∃ st, t.exposure.work = .line { l with next := l.next + 1, step := st }) ∧
    ∀ g, l.order[l.next]? = some g →
      let l1 : LineWork := { l with next := l.next + 1, step := .decision }
      exec .flashComplete s = .next (react (glyphDecision l1 g
        ((s.fresh.modPhoto fun p => { p with lamp := .ready, flash := none, delay := none }).modExposure fun e =>
          { e with work := .line l1 })))) ∧
  -- what a glyph decision does
  ∀ (s : State) (l : LineWork) (g : SetGlyph), s.exposure.hold = none → GlyphDecided l g s (glyphDecision l g s)

/-- R120, R129, R143. The index timeout takes the disc to UNLOCKED, and from LOCKED cancels the flash delay and starts
the lock watch; it stops itself. The lock watch's expiry holds a line in exposure that is not HELD with DISC_FAULT, and with
no line in exposure sets the disc fault note; it stops too. While a line is HELD the expiry sets the note as well, the
reason and the step standing, so that the retry finds the fault again: the model's reading of R144 (log 42, deduced). -/
def Obligations.DiscTimersUnlockAndReportTheFault : Prop :=
  (∀ s : State, s.photo.indexTimer.isSome → s.photo.disc = .locked →
    exec .indexTimeout s = .next (s.fresh.modPhoto fun p =>
      { p with disc := .unlocked, indexTimer := none, delay := none, lockWatch := some s.lockTime })) ∧
  (∀ s : State, s.photo.indexTimer.isSome → s.photo.disc ≠ .locked →
    exec .indexTimeout s = .next (s.fresh.modPhoto fun p => { p with disc := .unlocked, indexTimer := none })) ∧
  (∀ s : State, s.photo.lockWatch.isSome → s.exposure.work.isLine = false →
    exec .lockWatchExpiry s = .next ((s.fresh.modPhoto fun p => { p with lockWatch := none }).modExposure
      fun e => { e with note := true })) ∧
  (∀ s : State, s.photo.lockWatch.isSome → s.exposure.work.isLine = true → s.exposure.hold = none →
    exec .lockWatchExpiry s = .next
      ((((s.fresh.modPhoto fun p => { p with lockWatch := none, flash := none, delay := none }).modFilm
        fun f => { f with move := none, timer := none }).modExposure
          fun e => { e with hold := some .discFault, cutTimer := none }).raise .expHold)) ∧
  ∀ s : State, s.photo.lockWatch.isSome → s.exposure.work.isLine = true → s.exposure.hold.isSome →
    exec .lockWatchExpiry s = .next ((s.fresh.modPhoto fun p => { p with lockWatch := none }).modExposure
      fun e => { e with note := true })

/-- R126, R127, R128, R15, R141. A turret arrival makes the turret STANDING at the station on the lines with the code latched,
verifies every LIVE or RETIRING record placed there against the code, and starts the lock watch; a wrong arrival for the
line in exposure holds it with TURRET_JAM, and one of no requester tells nobody. A correct one, in the line's turret
sub-step, goes on with its font VERIFIED to the lens, and from a lens in place to the carriage and the arming; with the font
in MISMATCH the line holds. That a font which it leaves UNVERIFIED is decided again is the model's choice (log 18). A fall
while the turret stands is an uncommanded move start. A timeout holds with TURRET_JAM and leaves the turret MOVING. -/
def Obligations.TurretArrivalsFallsAndTimeouts : Prop :=
  (∀ (s : State) (q : Station) (code : BitVec 4), s.photo.turret.isStanding = false →
    (s.photo.turret = .unknown ∨ s.photo.turretExpired = true ∨ ∃ p, s.photo.turret = .moving p none) → ∃ t,
      EventTo (exec (.turretArrival q code) s) s t ∧
      t = { s.fresh with fonts := t.fonts, sensors := t.sensors,
                         photo := { s.photo with turret := .standing q, latched := some code, turretTimer := none,
                                                 lockWatch := if s.photo.disc = .locked then none
                                                   else some s.lockTime } } ∧
      ∀ i, (∀ p, (s.font i).placement = some p → (s.font i).state ≠ .empty → s.stationMap p.station = q →
          t.font i = { s.font i with verification := if p.code = code then .verified else .mismatch }) ∧
        (((s.font i).placement = none ∨ (s.font i).state = .empty ∨
            ∃ p, (s.font i).placement = some p ∧ s.stationMap p.station ≠ q) → t.font i = s.font i)) ∧
  (∀ (s : State) (p q : Station) (code : BitVec 4) (l : LineWork) (g : SetGlyph),
    s.photo.turret = .moving (some p) (some .exposure) → s.photo.turretExpired = false → q ≠ p →
    s.exposure.work = .line l → s.exposure.hold = none → l.glyph = some g → l.step = .turret → ∃ t,
      exec (.turretArrival q code) s = .next (react t) ∧ t.photo.turret = .standing q ∧
      t.exposure.hold = some .turretJam ∧ t.exposure.work = s.exposure.work ∧ t.raised .expHold = true) ∧
  (∀ (s : State) (p : Station) (code : BitVec 4) (l : LineWork) (g : SetGlyph) (f : Placement),
    s.photo.turret = .moving (some p) (some .exposure) → s.photo.turretExpired = false →
    s.exposure.work = .line l → s.exposure.hold = none → l.glyph = some g → l.step = .turret →
    (s.font g.slot).placement = some f → (s.font g.slot).state ≠ .empty → s.stationMap f.station = p →
    f.code ≠ code → ∃ t,
      exec (.turretArrival p code) s = .next (react t) ∧ t.photo.turret = .standing p ∧
      t.exposure.hold = some .discMismatch ∧ t.exposure.work = .line { l with step := .decision }) ∧
  -- a correct arrival for the line in exposure goes on to the lens (R141)
  (∀ (s : State) (q : Station) (code : BitVec 4) (l : LineWork) (g : SetGlyph) (p : Placement),
    s.photo.turret = .moving (some q) (some .exposure) → s.photo.turretExpired = false →
    s.exposure.work = .line l → s.exposure.hold = none → l.glyph = some g → l.step = .turret →
    (s.font g.slot).placement = some p → (s.font g.slot).state ≠ .empty →
    let arrived := fun t : State => t.photo.turret = .standing q ∧ t.photo.latched = some code ∧
      t.photo.turretTimer = none ∧ t.photo.lockWatch = (if s.photo.disc = .locked then none else some s.lockTime) ∧
      t.photo.disc = s.photo.disc ∧ t.film = s.film ∧ t.store = s.store ∧ t.channels = s.channels
    (∀ x, s.stationMap p.station = q → p.code = code → s.lensFor g.size = some x → ∃ t,
      exec (.turretArrival q code) s = .next (react t) ∧ arrived t ∧ (t.font g.slot).verification = .verified ∧
      LensCommanded l g p x s.fresh t) ∧
    -- a placement moved meanwhile is decided again
    (s.stationMap p.station ≠ q → (s.font g.slot).verification = .unverified → ∃ t,
      exec (.turretArrival q code) s = .next (react (glyphDecision l g t)) ∧ arrived t ∧
      t.exposure = s.exposure ∧ t.font g.slot = s.font g.slot ∧ t.photo.lens = s.photo.lens ∧
      t.photo.carriage = s.photo.carriage)) ∧
  (∀ s : State, (∀ p r, s.photo.turret ≠ .moving p r) → ∃ t, exec .turretReadyFall s = .next t ∧
    t.photo.turret = .moving none none ∧ t.photo.disc = .unlocked ∧ t.photo.disturbed = true ∧
    t.photo.delay = none ∧ t.photo.lockWatch = none ∧ t.photo.latched = none ∧ t.photo.turretTimer = none ∧
    t.fonts = s.fonts ∧ t.store = s.store ∧
    (s.exposure.work.isLine = false → t.exposure = s.exposure) ∧
    ∀ (l : LineWork) (g : SetGlyph), s.exposure.work = .line l → s.exposure.hold = none → l.glyph = some g →
      l.step.pastTurret = true →
      t.exposure.hold = some .turretJam ∧ t.exposure.work = .line { l with step := .turret } ∧ t.photo.flash = none) ∧
  ∀ s : State, s.photo.turretTimer.isSome →
    ((∀ p r, s.photo.turret ≠ .moving p (some r)) →
      EventTo (exec .turretTimeout s) s
        (s.fresh.modPhoto fun p => { p with turretTimer := none, turretExpired := true })) ∧
    ∀ (p : Option Station) (l : LineWork) (g : SetGlyph), s.photo.turret = .moving p (some .exposure) →
      s.exposure.work = .line l → s.exposure.hold = none → l.glyph = some g → l.step = .turret → ∃ t,
        EventTo (exec .turretTimeout s) s t ∧ t.photo.turret = s.photo.turret ∧ t.photo.turretTimer = none ∧
        t.exposure.hold = some .turretJam ∧ t.exposure.work = s.exposure.work ∧ t.raised .expHold = true

/-- R130, R141, R143. A lens arrival ends a move at its target. For a line in its lens sub-step the carriage is then
commanded, and a carriage settled at the glyph's x has the glyph armed at once; otherwise nothing else happens. A fall while the lens stands makes it UNKNOWN, and holds a line
past its lens sub-step with LENS_JAM. A timeout holds a line in its lens sub-step with LENS_JAM, and leaves the lens
MOVING. -/
def Obligations.LensArrivalsFallsAndTimeouts : Prop :=
  (∀ (s : State) (p : LensPos), s.photo.lens = .moving p →
    (s.photo.lensExpired = true ∨ s.exposure.work.isLine = false ∨ s.exposure.hold.isSome ∨
      ∃ l, s.exposure.work = .line l ∧ l.step ≠ .lens) → ∃ t, exec .lensArrival s = .next t ∧
      t = { s.fresh with sensors := t.sensors, photo := { s.photo with lens := .standing p, lensTimer := none } }) ∧
  -- an arrival for the line in exposure goes on to the carriage (R141)
  (∀ (s : State) (y x : LensPos) (l : LineWork) (g : SetGlyph) (p : Placement), s.photo.lens = .moving y →
    s.photo.lensExpired = false → s.exposure.work = .line l → s.exposure.hold = none → l.glyph = some g →
    l.step = .lens → (s.font g.slot).placement = some p → s.lensFor g.size = some x → ∃ t,
      exec .lensArrival s = .next t ∧ t.photo.lens = .standing y ∧ t.photo.lensTimer = none ∧
      CarriageCommanded l g p x s t ∧ t.pulses = [] ∧ t.photo.turret = s.photo.turret ∧ t.photo.disc = s.photo.disc ∧
      t.fonts = s.fonts ∧ t.film = s.film ∧ t.store = s.store) ∧
  (∀ (s : State) (p : LensPos), s.photo.lens = .standing p → ∃ t, exec .lensReadyFall s = .next t ∧
    t.photo.lens = .unknown ∧ t.photo.disc = s.photo.disc ∧ t.fonts = s.fonts ∧
    (s.exposure.work.isLine = false → t.exposure = s.exposure ∧ t.photo = { s.photo with lens := .unknown }) ∧
    ∀ (l : LineWork) (g : SetGlyph), s.exposure.work = .line l → s.exposure.hold = none → l.glyph = some g →
      (l.step.pastLens = true → t.exposure.hold = some .lensJam ∧ t.exposure.work = .line { l with step := .lens } ∧
        t.photo.flash = none) ∧
      (l.step.pastLens = false → t.exposure = s.exposure)) ∧
  ∀ (s : State) (p : LensPos), s.photo.lensTimer.isSome → s.photo.lens = .moving p →
    (s.exposure.work.isLine = false →
      exec .lensTimeout s = .next (s.fresh.modPhoto fun x => { x with lensTimer := none, lensExpired := true })) ∧
    ∀ (l : LineWork) (g : SetGlyph), s.exposure.work = .line l → s.exposure.hold = none → l.glyph = some g →
      l.step = .lens → ∃ t, exec .lensTimeout s = .next t ∧ t.photo.lens = .moving p ∧
        t.exposure.hold = some .lensJam ∧ t.exposure.work = s.exposure.work ∧ t.raised .expHold = true

/-- R131, R141, R125, R142. A carriage step goes 1 EU toward the target; at the target the carriage is SETTLED. A step of
the home run counts down, and its last leaves the carriage SETTLED at 0, or STEPPING toward the target that a command left.
For a line in its carriage sub-step the settling at the glyph's x sets the shutter to the placement's track and arms the
flash; with the placement gone the line holds with FONT_UNPLACED, which is the model's choice (log 18). -/
def Obligations.CarriageStepsTowardItsTarget : Prop :=
  ∀ s : State, s.photo.carriageTimer.isSome →
    let stepped := fun (forward : Bool) (f : Photo → Photo) =>
      ((s.modDrives fun d => { d with carriageForward := forward }).modPhoto f).fresh.pulse (.carriageStep forward)
    let waited := ∃ l g, s.exposure.work = .line l ∧ s.exposure.hold = none ∧ l.glyph = some g ∧ l.step = .carriage
    (∀ x, s.photo.carriage = .stepping x → s.photo.position ≠ x →
      let forward : Bool := decide (s.photo.position < x)
      let pos := if forward then s.photo.position + 1 else s.photo.position - 1
      ¬ waited ∨ pos ≠ x →
      exec .carriageStep s = .next
        (stepped forward fun p =>
          { p with position := pos, carriage := if pos = x then .settled else .stepping x,
                   carriageTimer := if pos = x then none else some s.carriagePeriod })) ∧
    (∀ n target, s.photo.carriage = .homing n target → 1 < n →
      exec .carriageStep s = .next
        (stepped false fun p => { p with carriage := .homing (n - 1) target, carriageTimer := some s.carriagePeriod })) ∧
    (¬ waited → s.photo.carriage = .homing 1 none ∨ s.photo.carriage = .homing 1 (some 0) →
      exec .carriageStep s = .next
        (stepped false fun p => { p with position := 0, carriage := .settled, carriageTimer := none })) ∧
    (∀ x, 0 < x → s.photo.carriage = .homing 1 (some x) →
      exec .carriageStep s = .next
        (stepped false fun p =>
          { p with position := 0, carriage := .stepping x, carriageTimer := some s.carriagePeriod })) ∧
    -- the settling in the carriage sub-step of a line (R141)
    ∀ l g, s.exposure.work = .line l → s.exposure.hold = none → l.glyph = some g → l.step = .carriage →
      let target := min 17280 g.x
      let settles := s.photo.carriage = .stepping target ∧
          (s.photo.position + 1 = target ∨ s.photo.position = target + 1) ∨
        target = 0 ∧ (s.photo.carriage = .homing 1 none ∨ s.photo.carriage = .homing 1 (some 0))
      let settled := fun t : State => t.photo.carriage = .settled ∧ t.photo.position = target ∧
        t.photo.carriageTimer = none ∧ t.pulses = [.carriageStep (decide (s.photo.position < target))] ∧
        t.fonts = s.fonts ∧ t.store = s.store
      settles →
        (∀ p x, (s.font g.slot).placement = some p → s.lensFor g.size = some x → ∃ t,
          exec .carriageStep s = .next t ∧ settled t ∧ GlyphArmed l g p x t) ∧
        ((s.font g.slot).placement = none → ∃ t,
          exec .carriageStep s = .next t ∧ settled t ∧ HeldAt l .decision .fontUnplaced t)
/-! ### Exposure Control and Film Transport -/

/-- R138, R147, R137, R148, R150. A film step moves the position by 1 in the direction of the move, raises the deepest
point with it, and is followed by the next after the step period. With the last step the move ends: a free move
completes, a gap goes on to the cut, a line goes on to the glyph decision of its next glyph, which the statement of the flash
complete report (FlashFiresAndIsReportedComplete) spells out, and a line with nothing to flash is done. -/
def Obligations.FilmStepMovesOneStep : Prop :=
  ∀ (s : State) (m : FilmMove), s.film.timer.isSome → s.film.move = some m →
    let pos := if m.forward then s.film.position + 1 else s.film.position - 1
    (1 < m.remaining → ∃ t, EventTo (exec .filmStep s) s t ∧
      t.film = { s.film with position := pos, deepest := max s.film.deepest pos, lowNoted := t.film.lowNoted,
                             move := some { m with remaining := m.remaining - 1 }, timer := some s.filmPeriod } ∧
      t.pulses = [.filmStep m.forward] ∧ t.store = s.store ∧ t.galleys = s.galleys ∧ t.fonts = s.fonts ∧
      t.photo = s.photo ∧ t.exposure.hold = s.exposure.hold ∧
      (∀ l, s.exposure.work = .line l →
        t.exposure.work = .line { l with step := .advance m.forward (m.remaining - 1) }) ∧
      (s.exposure.work.isLine = false → t.exposure = s.exposure) ∧
      (s.film.loaded = true → s.film.lowNoted = false → s.film.deepest < pos →
        s.film.length - pos < s.setting 0x0F * 1440 → t.raised .filmLow = true ∧ t.film.lowNoted = true)) ∧
    (m.remaining = 1 →
      (∀ (ch : ChannelId) (clamped : Bool) (r : Request), s.exposure.work = .advanceFilm ch clamped → s.handed ch r →
        s.exposure.figuresDeferred = false → ∃ t, exec .filmStep s = .next (react t) ∧ t.exposure.work = .none ∧
        t.film.move = none ∧ t.film.timer = none ∧ t.film.position = pos ∧ t.film.galleyStart = s.film.galleyStart ∧
        t.channels = (s.posts ch r (if clamped then .doneClamped else .done) 0 []).channels) ∧
      (∀ target, s.exposure.work = .gap target → s.cutterHome = true → ∃ t, exec .filmStep s = .next (react t) ∧
        t.exposure.work = .cut target .awaitFall ∧ t.exposure.cutTimer = some s.cutTime ∧ t.film.move = none ∧
        t.film.position = pos ∧ t.pulses = [.filmStep m.forward, .cut]) ∧
      (∀ target, s.exposure.work = .gap target → s.cutterHome = false → ∃ t, exec .filmStep s = .next (react t) ∧
        t.exposure.work = .cut target .awaitRise ∧ t.exposure.cutTimer = some s.cutTime ∧ t.film.move = none ∧
        t.film.position = pos ∧ t.pulses = [.filmStep m.forward]) ∧
      ∀ l, s.exposure.work = .line l → l.order = [] → ∃ t, exec .filmStep s = .next (react t) ∧
        t.exposure.work = .none ∧ t.film.position = pos ∧ t.film.move = none) ∧
    -- the advance of a line is complete and a glyph is left: its glyph decision
    (m.remaining = 1 → ∀ l g, s.exposure.work = .line l → l.glyph = some g → ∃ t,
      exec .filmStep s = .next (react (glyphDecision l g t)) ∧
      t = { s with film := t.film, exposure := t.exposure, attn := t.attn, pulses := [.filmStep m.forward] } ∧
      t.film = { s.film with position := pos, deepest := max s.film.deepest pos, lowNoted := t.film.lowNoted,
                             move := none, timer := none } ∧
      t.exposure = { s.exposure with work := .line { l with step := .advance m.forward 0 } })

/-- R148, R151. A cut is complete when CUTTER_HOME has fallen and rises: the galley start is set to the film position and
the end action is done, or CUT FILM completes. Its timeout holds with CUT_JAM, or ends CUT FILM with WRONG_STATE and
detail 1. -/
def Obligations.CutEndsAtTheCutterOrTimesOut : Prop :=
  (∀ (s : State) (target : Nat), s.exposure.work = .cut target .awaitFall → s.exposure.hold = none → ∃ t,
    exec .cutterHomeFall s = .next t ∧
    t = { s.fresh with sensors := { s.sensors with inputs := t.sensors.inputs },
                       exposure := { s.exposure with work := .cut target .awaitRise } } ∧
    t.cutterHome = false) ∧
  (∀ s : State, s.exposure.work.isCut = false → (∀ ch p, s.exposure.work ≠ .cutFilm ch p) → ∃ t,
    exec .cutterHomeFall s = .next t ∧
    t = { s.fresh with sensors := { s.sensors with inputs := t.sensors.inputs } } ∧ t.cutterHome = false) ∧
  (∀ (s : State) (target : Nat), s.exposure.work = .cut target .awaitRise → s.exposure.hold = none → ∃ t,
    exec .cutComplete s = .next (react t) ∧
    t = { s.fresh with sensors := { s.sensors with inputs := t.sensors.inputs },
                       film := { s.film with galleyStart := s.film.position },
                       exposure := { s.exposure with work := .none, cutTimer := none },
                       store := { s.store with filmEndDone := true } } ∧
    t.cutterHome = true) ∧
  (∀ (s : State) (ch : ChannelId) (r : Request), s.exposure.work = .cutFilm ch .awaitRise → s.handed ch r →
    s.exposure.figuresDeferred = false → ∃ t, exec .cutComplete s = .next (react t) ∧
    t.exposure.work = .none ∧ t.exposure.cutTimer = none ∧ t.film.galleyStart = s.film.position ∧
    t.film.position = s.film.position ∧ t.channels = (s.posts ch r .done 0 []).channels) ∧
  (∀ (s : State) (target : Nat) (p : CutPhase), s.exposure.cutTimer.isSome → s.exposure.work = .cut target p →
    s.exposure.hold = none → ∃ t, EventTo (exec .cutTimeout s) s t ∧ t.exposure.hold = some .cutJam ∧
    t.exposure.work = s.exposure.work ∧ t.raised .expHold = true ∧ t.exposure.cutTimer = none) ∧
  ∀ (s : State) (ch : ChannelId) (p : CutPhase) (r : Request), s.exposure.cutTimer.isSome →
    s.exposure.work = .cutFilm ch p → s.handed ch r → s.exposure.figuresDeferred = false → ∃ t,
    exec .cutTimeout s = .next (react t) ∧ t.exposure.work = .none ∧ t.exposure.hold = s.exposure.hold ∧
    t.channels = (s.posts ch r .wrongState 1 []).channels

/-- R149, R147. LOAD CASSETTE: the checks in their order, then the cassette marked loaded, its length from 1 to 1,200
inches of 1,440 steps, and the three figures 0; the target of a gap in hand is set anew. The detail of a refusal is a free value (log 7); a payload of another
length than 2 is refused with BAD_ARGUMENT (log 23). -/
def Obligations.LoadCassetteRecordsANewCassette : Prop :=
  ∀ (s : State) (ch : ChannelId) (b : Block), s.readyFor ch → b.payload.length ≤ 1024 →
    let r : Request := { code := 0x40, block := b }
    let want := u16 b.payload 0
    let n := max 1 (min 1200 want)
    let may := (s.store.filmHolder = none ∧ s.exposure.state = .idle) ∨ s.exposure.hold = some .filmOut ∨
      s.exposure.hold = some .cassetteOut
    (b.payload.length ≠ 2 → EventTo (exec (.loadCassette ch b) s) s (s.fresh.refuses ch r .badArgument)) ∧
    (b.payload.length = 2 → s.cassettePresent = false →
      EventTo (exec (.loadCassette ch b) s) s (s.fresh.refuses ch r .wrongState)) ∧
    (b.payload.length = 2 → s.cassettePresent = true → ¬ may →
      EventTo (exec (.loadCassette ch b) s) s (s.fresh.refuses ch r .busy)) ∧
    (b.payload.length = 2 → s.cassettePresent = true → may → (∀ target, s.exposure.work ≠ .gap target) → ∃ t,
      EventTo (exec (.loadCassette ch b) s) s t ∧
      t.film = { s.film with loaded := true, length := n * 1440, position := 0, galleyStart := 0, deepest := 0,
                             lowNoted := decide (n < s.setting 0x0F) } ∧
      t.channels = (s.posts ch r (if n = want then .done else .doneClamped) (BitVec.ofNat 16 n) []).channels ∧
      t.exposure = s.exposure ∧ t.store = s.store ∧ t.galleys = s.galleys ∧ t.fonts = s.fonts ∧
      t.photo = s.photo ∧
      (s.film.lowNoted = false → n < s.setting 0x0F → t.raised .filmLow = true) ∧
      (s.setting 0x0F ≤ n → t.attn = s.attn)) ∧
    (b.payload.length = 2 → s.cassettePresent = true → may → ∀ target, s.exposure.work = .gap target → ∃ t,
      EventTo (exec (.loadCassette ch b) s) s t ∧ t.exposure = { s.exposure with work := .gap (s.setting 0x0E * 10) } ∧
      t.film.loaded = true ∧ t.film.length = n * 1440 ∧ t.film.position = 0 ∧ t.film.deepest = 0)

/-- R150, R151. ADVANCE FILM and CUT FILM are refused with WRONG_STATE without a cassette and with BUSY while a galley
holds the film or Exposure Control is not IDLE. Otherwise ADVANCE FILM steps the film to its target, at most the
cassette length, and CUT FILM pulses the cut line; the channel waits for their end. That an ADVANCE FILM of another payload
length than 2 is refused with BAD_ARGUMENT is the model's choice (log 23), and so is that its first step comes one whole
film step period after the command (log 31). The detail of a refusal is a free value (log 7). -/
def Obligations.FreeFilmMovesBegin : Prop :=
  ∀ (s : State) (ch : ChannelId) (b : Block), s.readyFor ch → b.payload.length ≤ 1024 →
    let ra : Request := { code := 0x42, block := b }
    let rc : Request := { code := 0x43, block := b }
    let free := s.store.filmHolder = none ∧ s.exposure.state = .idle
    let want := s.film.position + u16 b.payload 0 * 10
    let n := min want s.film.length - s.film.position
    (b.payload.length ≠ 2 → EventTo (exec (.advanceFilm ch b) s) s (s.fresh.refuses ch ra .badArgument)) ∧
    (b.payload.length = 2 → s.film.loaded = false →
      EventTo (exec (.advanceFilm ch b) s) s (s.fresh.refuses ch ra .wrongState)) ∧
    (s.film.loaded = false → EventTo (exec (.cutFilm ch b) s) s (s.fresh.refuses ch rc .wrongState)) ∧
    (b.payload.length = 2 → s.film.loaded = true → ¬ free →
      EventTo (exec (.advanceFilm ch b) s) s (s.fresh.refuses ch ra .busy)) ∧
    (s.film.loaded = true → ¬ (free ∧ s.cutterHome = true) →
      EventTo (exec (.cutFilm ch b) s) s (s.fresh.refuses ch rc .busy)) ∧
    (b.payload.length = 2 → s.film.loaded = true → free → n = 0 →
      EventTo (exec (.advanceFilm ch b) s) s
        (s.fresh.posts ch ra (if s.film.length < want then .doneClamped else .done) 0 [])) ∧
    (b.payload.length = 2 → s.film.loaded = true → free → 0 < n →
      exec (.advanceFilm ch b) s = .next (react
        ((((s.fresh.modExposure fun e =>
              { e with work := .advanceFilm ch (decide (s.film.length < want)) }).modFilm fun f =>
            { f with move := some { forward := true, remaining := n }, timer := some s.filmPeriod }).modDrives fun d =>
          { d with filmForward := true }).waits ch ra))) ∧
    (s.film.loaded = true → free → s.cutterHome = true →
      exec (.cutFilm ch b) s = .next (react
        (((s.fresh.modExposure fun e =>
            { e with work := .cutFilm ch .awaitFall, cutTimer := some s.cutTime }).pulse .cut).waits ch rc)))

/-- R146, R137, R140, R141, R144, R148, R129. RESUME EXPOSURE is refused with WRONG_STATE unless the state is HELD; the
detail is a free value (log 7). In every HELD state it completes DONE with the code of the cleared reason, and the held step
is retried. A film advance, a gap and a cut go on or hold again with their own checks; a glyph decision, a carriage or
shutter sub-step and an armed glyph are decided afresh from check 1; the turret and the lens moves are commanded again. A
retry after DISC_FAULT clears the note and restarts the lock watch, and one after LID_OPEN first looks at the lid. A cause
that still stands holds again and raises EXP_HOLD again. That a retried turret or lens sub-step finds a cassette that is out
and the disc fault note, a lens sub-step a lost station, and a cut a cassette that is out, is the model's reading of R144 and
R146 (log 42, deduced); a station is lost where the turret stands neither at the placement's station nor where the turret
sub-step ended. With the turret where it ended, the lens move is commanded again, also where the placement was moved or
cleared meanwhile. That a lens sub-step with its font in MISMATCH holds again at the glyph decision is the model's choice
(log 45); that a turret sub-step without a placement is decided afresh is one too (log 18), and so are the first film step one
whole period after the move's start (log 31) and the disc fault note judged after the checks of R140 (log 17). An UNVERIFIED
glyph at whose station the turret stands is decided afresh by the code on the lines there (R140 check 4). -/
def Obligations.ResumeRetriesTheHeldStep : Prop :=
  ∀ (s : State) (ch : ChannelId) (b : Block), s.readyFor ch → b.payload.length ≤ 1024 →
    let r : Request := { code := 0x41, block := b }
    (s.exposure.hold = none → EventTo (exec (.resumeExposure ch b) s) s (s.fresh.refuses ch r .wrongState)) ∧
    ∀ reason, s.exposure.hold = some reason →
      let posted := s.posts ch r .done (BitVec.ofNat 16 reason.code) []
      let resumes := fun P : State → Prop =>
        ∃ t, exec (.resumeExposure ch b) s = .next (react t) ∧ t.channels = posted.channels ∧ P t
      let heldAgain := fun (why : HoldReason) (w : ExposureWork) => resumes fun t =>
        t.exposure.hold = some why ∧ t.exposure.work = w ∧ t.raised .expHold = true ∧ t.photo.flash = none ∧
        t.film.move = none
      let lidAllows := reason = .lidOpen → s.lidClosed = true
      let noFault := reason = .discFault ∨ s.exposure.note = false ∨ s.photo.disc = .locked
      let drives := fun (l : LineWork) (q : Station) => resumes fun t =>
        t.exposure.hold = none ∧ t.exposure.work = .line { l with step := .turret } ∧
        t.photo.turret = .moving (some q) (some .exposure) ∧ t.photo.turretTimer = some s.turretTime ∧
        t.photo.turretExpired = false ∧ t.photo.disc = .unlocked ∧ t.photo.lockWatch = none ∧
        t.pulses = [.turretMove q]
      let drivesLens := fun (l : LineWork) (p : LensPos) => resumes fun t =>
        t.exposure.hold = none ∧ t.exposure.work = .line { l with step := .lens } ∧ t.photo.lens = .moving p ∧
        t.photo.lensTimer = some s.lensTime ∧ t.photo.lensExpired = false ∧ t.pulses = [.lensMove p]
      -- every HELD state, whatever its step
      (∃ t, exec (.resumeExposure ch b) s = .next (react t) ∧ t.channel ch = posted.channel ch ∧
        t.film.position = s.film.position ∧ t.config = s.config ∧ t.sensors = s.sensors ∧
        (reason = .discFault → t.exposure.note = false ∧
          ((∀ q, .turretMove q ∉ t.pulses) →
            t.photo.lockWatch = if s.photo.disc = .locked then none else some s.lockTime))) ∧
      (reason = .lidOpen → s.lidClosed = false → ∃ t, EventTo (exec (.resumeExposure ch b) s) s t ∧
        t.channels = posted.channels ∧ t.exposure.hold = some .lidOpen ∧ t.exposure.work = s.exposure.work ∧
        t.raised .expHold = true) ∧
      -- the cut
      (∀ target p, s.exposure.work = .cut target p → lidAllows →
        (s.film.loaded = true → s.cutterHome = true → resumes fun t => t.exposure.hold = none ∧
          t.exposure.work = .cut target .awaitFall ∧ t.exposure.cutTimer = some s.cutTime ∧ t.pulses = [.cut]) ∧
        (s.film.loaded = true → s.cutterHome = false → resumes fun t => t.exposure.hold = none ∧
          t.exposure.work = .cut target .awaitRise ∧ t.exposure.cutTimer = some s.cutTime ∧ t.pulses = []) ∧
        (s.film.loaded = false → heldAgain .cassetteOut s.exposure.work)) ∧
      -- the gap
      (∀ target, s.exposure.work = .gap target → lidAllows →
        (s.film.loaded = true → s.film.position < target → target ≤ s.film.length → resumes fun t =>
          t.exposure.hold = none ∧ t.film.move = some { forward := true, remaining := target - s.film.position } ∧
          t.film.timer = some s.filmPeriod ∧ t.exposure.work = .gap target) ∧
        (s.film.loaded = true → s.film.length < target → heldAgain .filmOut (.gap target)) ∧
        (s.film.loaded = false → heldAgain .cassetteOut (.gap target))) ∧
      -- the film advance
      (∀ l forward n, s.exposure.work = .line l → l.step = .advance forward n → 0 < n → lidAllows →
        (s.film.loaded = false → heldAgain .cassetteOut s.exposure.work) ∧
        (s.film.loaded = true → forward = true → s.film.length < s.film.position + n →
          heldAgain .filmOut s.exposure.work) ∧
        (s.film.loaded = true → forward = true → s.film.position + n ≤ s.film.length → resumes fun t =>
          t.exposure.hold = none ∧ t.exposure.work = s.exposure.work ∧
          t.film.move = some { forward := true, remaining := n } ∧ t.film.timer = some s.filmPeriod) ∧
        (s.film.loaded = true → forward = false → s.film.galleyStart < s.film.position → resumes fun t =>
          let k := min n (s.film.position - s.film.galleyStart)
          t.exposure.hold = none ∧ t.exposure.work = .line { l with step := .advance false k } ∧
          t.film.move = some { forward := false, remaining := k } ∧ t.film.timer = some s.filmPeriod)) ∧
      -- no glyph is left: the line is done
      (∀ l line, s.exposure.work = .line l → (∀ forward n, l.step ≠ .advance forward n) → l.glyph = none → lidAllows →
        s.lineAt l.slot = some line → ∃ t, exec (.resumeExposure ch b) s = .next (react t) ∧
          t.channel ch = posted.channel ch ∧ t.exposure.hold = none ∧ t.exposure.work = .none ∧
          if line.proof then t.lineAt l.slot = some { line with film := false, filmProgress := .notBegun }
          else t.lineAt l.slot = none) ∧
      ∀ l g, s.exposure.work = .line l → l.glyph = some g → lidAllows →
        let font := s.font g.slot
        let afresh := l.step = .decision ∨ l.step = .carriage ∨ l.step = .shutter ∨ l.step = .armed
        let at_ := fun step : LineStep => ExposureWork.line { l with step := step }
        -- the glyph decision, and the steps that are decided afresh
        (afresh → s.film.loaded = false → heldAgain .cassetteOut (at_ .decision)) ∧
        (afresh ∨ l.step = .turret ∧ noFault → s.film.loaded = true → font.placement = none →
          heldAgain .fontUnplaced (at_ .decision)) ∧
        (afresh → s.film.loaded = true → font.placement.isSome → font.verification = .mismatch →
          heldAgain .discMismatch (at_ .decision)) ∧
        (afresh → s.film.loaded = true → font.placement.isSome → font.verification = .verified → ¬ noFault →
          heldAgain .discFault (at_ .decision)) ∧
        (∀ p, afresh → s.film.loaded = true → font.placement = some p → font.verification = .unverified →
          font.state ≠ .empty → s.photo.turret = .standing (s.stationMap p.station) →
          (p.code ≠ s.discCodeLines → heldAgain .discMismatch (at_ .decision)) ∧
          (p.code = s.discCodeLines → ¬ noFault → heldAgain .discFault (at_ .decision)) ∧
          ∀ x, p.code = s.discCodeLines → noFault → s.lensFor g.size = some x →
            (s.photo.lens ≠ .standing x → drivesLens l x) ∧
            (s.photo.lens = .standing x → s.photo.carriage = .settled → s.photo.position = g.x → g.x ≤ 17280 →
              resumes fun t => t.exposure.hold = none ∧ t.exposure.work = at_ .armed ∧
                (t.font g.slot).verification = .verified ∧
                t.photo.flash = some { code := g.code, slot := g.slot, lens := x, x := g.x })) ∧
        (∀ p, afresh ∨ l.step = .turret → s.film.loaded = true → font.placement = some p →
          font.verification ≠ .mismatch → noFault → s.photo.turret ≠ .standing (s.stationMap p.station) →
          drives l (s.stationMap p.station)) ∧
        -- a turret or lens sub-step that finds another cause again
        (l.step = .turret ∨ l.step = .lens → s.film.loaded = false → heldAgain .cassetteOut s.exposure.work) ∧
        (l.step = .turret ∨ l.step = .lens → s.film.loaded = true → ¬ noFault →
          heldAgain .discFault s.exposure.work) ∧
        (l.step = .lens → s.film.loaded = true → noFault →
          (∀ p, font.placement = some p → s.photo.turret ≠ .standing (s.stationMap p.station)) →
          (∀ q, s.exposure.turretAt = some q → s.photo.turret ≠ .standing q) → heldAgain .turretJam (at_ .turret)) ∧
        (∀ p, l.step = .turret ∨ l.step = .lens → s.film.loaded = true → noFault → font.placement = some p →
          s.photo.turret = .standing (s.stationMap p.station) → font.verification = .mismatch →
          heldAgain .discMismatch (at_ .decision)) ∧
        -- the moves, commanded again
        (∀ p, l.step = .turret → s.film.loaded = true → noFault → font.placement = some p →
          s.photo.turret ≠ .standing (s.stationMap p.station) → drives l (s.stationMap p.station)) ∧
        (∀ p x, afresh ∨ l.step = .turret ∨ l.step = .lens → s.film.loaded = true → noFault →
          font.placement = some p → s.photo.turret = .standing (s.stationMap p.station) →
          font.verification = .verified → s.lensFor g.size = some x → s.photo.lens ≠ .standing x →
          drivesLens l x) ∧
        -- a lens move commanded again where the placement was moved or cleared while HELD
        (∀ q x, l.step = .lens → s.film.loaded = true → noFault → s.exposure.turretAt = some q →
          s.photo.turret = .standing q →
          (∀ p, font.placement = some p → s.stationMap p.station = q → font.verification ≠ .mismatch) →
          s.lensFor g.size = some x → s.photo.lens ≠ .standing x → drivesLens l x) ∧
        -- all in place: the glyph is armed again, and no glyph is flashed twice
        ∀ p x, afresh ∨ l.step = .turret ∨ l.step = .lens → s.film.loaded = true → noFault →
          font.placement = some p → s.photo.turret = .standing (s.stationMap p.station) →
          font.verification = .verified → s.lensFor g.size = some x → s.photo.lens = .standing x →
          s.photo.carriage = .settled → s.photo.position = g.x → g.x ≤ 17280 → resumes fun t =>
            t.exposure.hold = none ∧ t.exposure.work = at_ .armed ∧ t.photo.shutter = p.track ∧
            t.photo.flash = some { code := g.code, slot := g.slot, lens := x, x := g.x } ∧ t.photo.delay = none ∧
            t.pulses = []

/-- R132, R127, R128. VERIFY STATIONS is refused with BUSY while a line is in exposure or another is in flight; the detail
is a free value (log 7). Its visit list holds the physical stations with a placed record, in ascending order. A station at
which the turret stands is visited at once, without a move: the code on the lines is latched and the fonts placed there
are verified. Another one is commanded, which unlocks the disc. An arrival at the station commanded ends the visit with the
fonts verified, and one at another station, or the timeout, ends it with the station not reached; then comes the next
visit. The mask of mismatches takes in a station reached with a font in MISMATCH. After the last visit the request
completes DONE with the two masks as detail; with an empty list that is 0. -/
def Obligations.VerifyStationsVisitsInOrder : Prop :=
  (∀ (s : State) (ch : ChannelId) (b : Block), s.readyFor ch → b.payload.length ≤ 1024 →
    let r : Request := { code := 0x50, block := b }
    let placed := fun q : Station => ∃ i p, (s.font i).state ≠ .empty ∧ (s.font i).placement = some p ∧
      s.stationMap p.station = q
    ((s.exposure.work.isLine = true ∨ s.photo.verify.isSome) →
      EventTo (exec (.verifyStations ch b) s) s (s.fresh.refuses ch r .busy)) ∧
    s.visitList.Pairwise (· < ·) ∧ (∀ k, k ∈ s.visitList ↔ placed k) ∧
    (s.exposure.work.isLine = false → s.photo.verify = none →
      exec (.verifyStations ch b) s = .next (react (visit ch s.visitList 0 0 (s.fresh.waits ch r))) ∧
      ((∀ q, ¬ placed q) → EventTo (exec (.verifyStations ch b) s) s (s.fresh.posts ch r .done 0 [])) ∧
      ∀ q, placed q → (∀ k, k < q → ¬ placed k) → s.photo.turret ≠ .standing q → ∃ t,
        exec (.verifyStations ch b) s = .next (react t) ∧ t.channels = (s.waits ch r).channels ∧
        t.photo.turret = .moving (some q) (some .verify) ∧ t.photo.turretTimer = some s.turretTime ∧
        t.photo.disc = .unlocked ∧ t.photo.disturbed = true ∧ t.photo.delay = none ∧ t.photo.lockWatch = none ∧
        t.pulses = [.turretMove q] ∧ t.drives.turretTarget = q ∧ t.fonts = s.fonts ∧ t.exposure = s.exposure ∧
        ∃ v, t.photo.verify = some v ∧ v.channel = ch ∧ v.mismatch = 0 ∧ v.notReached = 0 ∧
          v.visits.head? = some q ∧ v.visits.Pairwise (· < ·) ∧ ∀ k, k ∈ v.visits ↔ placed k)) ∧
  -- the visits from the head of a list on
  (∀ (ch : ChannelId) (m n : BitVec 4) (s : State),
    (∀ r, s.handed ch r → visit ch [] m n s =
      ({ s with photo := { s.photo with verify := none } }).posts ch r .done
        (BitVec.ofNat 16 (n.toNat * 256 + m.toNat)) []) ∧
    (∀ q rest, s.photo.turret = .standing q → ∃ t,
      visit ch (q :: rest) m n s = visit ch rest (maskMismatch q m t) n t ∧
      t = { s with fonts := t.fonts, photo := { s.photo with latched := some s.discCodeLines } } ∧
      ∀ i, (∀ p, (s.font i).placement = some p → (s.font i).state ≠ .empty → s.stationMap p.station = q →
          t.font i = { s.font i with verification := if p.code = s.discCodeLines then .verified else .mismatch }) ∧
        (((s.font i).placement = none ∨ (s.font i).state = .empty ∨
            ∃ p, (s.font i).placement = some p ∧ s.stationMap p.station ≠ q) → t.font i = s.font i)) ∧
    (∀ q rest, s.photo.turret ≠ .standing q →
      visit ch (q :: rest) m n s =
        { s with
          photo := { s.photo with
            turret := .moving (some q) (some .verify), turretTimer := some s.turretTime, turretExpired := false
            disc := .unlocked, disturbed := true, delay := none, lockWatch := none, latched := none
            verify := some { channel := ch, visits := q :: rest, mismatch := m, notReached := n } }
          drives := { s.drives with turretTarget := q }
          pulses := s.pulses ++ [.turretMove q] }) ∧
    ∀ q, ((maskMismatch q m s).getLsbD q.val = true ↔ m.getLsbD q.val = true ∨ ∃ i p, (s.font i).state ≠ .empty ∧
        (s.font i).placement = some p ∧ s.stationMap p.station = q ∧ (s.font i).verification = .mismatch) ∧
      ∀ k, k ≠ q.val → (maskMismatch q m s).getLsbD k = m.getLsbD k) ∧
  -- a visit under way ends by an arrival or by the timeout
  (∀ (s : State) (v : VerifyRun) (q p : Station) (rest : List Station) (code : BitVec 4),
    s.photo.turret = .moving (some q) (some .verify) → s.photo.turretExpired = false → s.photo.verify = some v →
    v.visits = q :: rest → ∃ t,
      exec (.turretArrival p code) s = .next (react
        (if p = q then visit v.channel rest (maskMismatch q v.mismatch t) v.notReached t
         else visit v.channel rest v.mismatch (v.notReached ||| (1#4 <<< q.val)) t)) ∧
      t.photo.turret = .standing p ∧ t.photo.latched = some code ∧ t.photo.turretTimer = none ∧
      t.photo.verify = some v ∧ t.channels = s.channels ∧ t.exposure = s.exposure ∧
      ∀ i f, (s.font i).placement = some f → (s.font i).state ≠ .empty → s.stationMap f.station = p →
        t.font i = { s.font i with verification := if f.code = code then .verified else .mismatch }) ∧
  ∀ (s : State) (v : VerifyRun) (q : Station) (target : Option Station) (rest : List Station),
    s.photo.turretTimer.isSome → s.photo.turret = .moving target (some .verify) → s.photo.verify = some v →
    v.visits = q :: rest →
    exec .turretTimeout s = .next (react (visit v.channel rest v.mismatch (v.notReached ||| (1#4 <<< q.val))
      (s.fresh.modPhoto fun p => { p with turretTimer := none, turretExpired := true })))

/-! ### Galleys -/

/-- R25, R26, R27. The checks of OPEN GALLEY in their order, and the galley that it sets up with its parameters in range
and its size made a lens size: the nearest, and of two equally near the smaller. The detail of a refusal is a free value
(log 7). -/
def Obligations.OpenGalleySetsUpAClosedGalley : Prop :=
  (∀ (s : State) (ch : ChannelId) (b : Block), s.readyFor ch → b.payload.length ≤ 1024 →
    let r : Request := { code := 0x30, block := b }
    ((galleyOf b.target = none ∨ parseOpenGalley b.payload = none) →
      EventTo (exec (.openGalley ch b) s) s (s.fresh.refuses ch r .badArgument)) ∧
    ∀ g a, galleyOf b.target = some g → parseOpenGalley b.payload = some a →
      ((s.galley g).state ≠ .closed → EventTo (exec (.openGalley ch b) s) s (s.fresh.refuses ch r .wrongState)) ∧
      ((s.galley g).state = .closed → s.resolve a.fontNumber = none →
        EventTo (exec (.openGalley ch b) s) s (s.fresh.refuses ch r .notFound)) ∧
      ((s.galley g).state = .closed → (s.resolve a.fontNumber).isSome → (∀ p, s.lensSize p = 0) →
        EventTo (exec (.openGalley ch b) s) s (s.fresh.refuses ch r .wrongState)) ∧
      ∀ i size, (s.galley g).state = .closed → s.resolve a.fontNumber = some i → nearestLens a.size s = some size →
        let mn := min 63 a.spaces.1
        let op := max mn (min 63 a.spaces.2.1)
        let mx := max op (min 63 a.spaces.2.2)
        exec (.openGalley ch b) s = .next (react
          ((((s.fresh.modGalley g fun _ =>
              { state := .opened, mode := a.mode, priority := min 3 a.priority, font := some i, size := size,
                leading := min 288 a.leading, pendingReverse := 0, measure := max 72 (min 1440 a.measure),
                quad := a.quad, spaceMin := mn, spaceOpt := op, spaceMax := mx, track := max (-4) (min 4 a.track),
                hyphenate := a.hyphenate, rules := a.rules, ladder := min 7 a.ladder,
                minLeft := if a.minLeft = 0 then 2 else min 7 a.minLeft,
                minRight := if a.minRight = 0 then 3 else min 7 a.minRight,
                buffer := [], seq := 0, sticky := 0, waiting := [],
                builder := { Builder.blank with heldSize := size != a.size } }).modFont i fun x =>
              { x with currentRefs := x.currentRefs + 1 }).modStore fun t =>
              { t with
                filmQueue := if a.mode = .proof then t.filmQueue else t.filmQueue ++ [g]
                paperQueue := if a.mode = .film then t.paperQueue else t.paperQueue ++ [g] }).posts ch r
            (if openClamped a || size != a.size then .doneClamped else .done) 0 []))) ∧
  ∀ (s : State) (n size : Nat), nearestLens n s = some size →
    (∃ p, s.lensSize p = size) ∧ size ≠ 0 ∧
    ∀ p, s.lensSize p ≠ 0 → distance size n ≤ distance (s.lensSize p) n ∧
      (distance size n = distance (s.lensSize p) n → size ≤ s.lensSize p)

/-- R29, R30, R31. SET TEXT appends its bytes and completes with their number when nothing waits before it and they fit;
it waits otherwise. SET PRIORITY replaces the priority of an OPEN or ENDING galley and reports the one before. Both are
refused with BAD_ARGUMENT for a galley number above 7, and with WRONG_STATE in the other states; the detail of a refusal is a
free value (log 7). That a SET PRIORITY with a payload of another length than 1 is refused with BAD_ARGUMENT is the model's
choice (log 23). -/
def Obligations.SetTextAndSetPriorityServeTheGalley : Prop :=
  (∀ n : Byte, galleyOf n = none ↔ 7 < n.toNat) ∧
  (∀ (s : State) (ch : ChannelId) (b : Block), s.readyFor ch → b.payload.length ≤ 1024 →
    let rt : Request := { code := 0x31, block := b }
    let rp : Request := { code := 0x32, block := b }
    (galleyOf b.target = none →
      EventTo (exec (.setText ch b) s) s (s.fresh.refuses ch rt .badArgument) ∧
      EventTo (exec (.setPriority ch b) s) s (s.fresh.refuses ch rp .badArgument)) ∧
    (b.payload.length ≠ 1 → EventTo (exec (.setPriority ch b) s) s (s.fresh.refuses ch rp .badArgument))) ∧
  ∀ (s : State) (ch : ChannelId) (b : Block) (g : GalleyId), s.readyFor ch → b.payload.length ≤ 1024 →
    galleyOf b.target = some g →
    let rt : Request := { code := 0x31, block := b }
    let rp : Request := { code := 0x32, block := b }
    let x := s.galley g
    (x.state ≠ .opened → EventTo (exec (.setText ch b) s) s (s.fresh.refuses ch rt .wrongState)) ∧
    (x.state = .opened → x.waiting = [] → x.buffer.length + b.payload.length ≤ 1024 →
      exec (.setText ch b) s = .next (react
        ((s.fresh.modGalley g fun y => { y with buffer := y.buffer ++ b.payload, waiting := [] }).posts ch rt .done
          (BitVec.ofNat 16 b.payload.length) []))) ∧
    (x.state = .opened → x.waiting = [] → 1024 < x.buffer.length + b.payload.length → x.buffer.length ≤ 1024 →
      EventTo (exec (.setText ch b) s) s
        ((s.fresh.modGalley g fun y => { y with waiting := [{ channel := ch, text := b.payload }] }).waits ch rt)) ∧
    (∀ w ws, x.state = .opened → x.waiting = w :: ws → 1024 < x.buffer.length + w.text.length →
      x.buffer.length ≤ 1024 →
      EventTo (exec (.setText ch b) s) s
        ((s.fresh.modGalley g fun y =>
          { y with waiting := w :: ws ++ [{ channel := ch, text := b.payload }] }).waits ch rt)) ∧
    (∀ p, b.payload = [p] → 3 < p.toNat →
      EventTo (exec (.setPriority ch b) s) s (s.fresh.refuses ch rp .badArgument)) ∧
    (∀ p, b.payload = [p] → p.toNat ≤ 3 → (x.state = .closed ∨ x.state = .cancelling) →
      EventTo (exec (.setPriority ch b) s) s (s.fresh.refuses ch rp .wrongState)) ∧
    ∀ p, b.payload = [p] → p.toNat ≤ 3 → (x.state = .opened ∨ x.state = .ending) →
      exec (.setPriority ch b) s = .next (react
        ((s.fresh.modGalley g fun y => { y with priority := p.toNat }).posts ch rp .done
          (BitVec.ofNat 16 x.priority) []))

/-- R32, R33. CANCEL GALLEY of an OPEN or ENDING galley that holds neither resource, has no stored line and no waiting
text closes it in the event: its text and its line in progress are gone, it leaves the queues, GALLEY_CLOSED is raised,
and the request completes DONE with detail 0. One that holds a resource, with nothing stored or waiting, becomes
CANCELLING. R30, R112. In general the waiting text completes WRONG_STATE; each stored line keeps only the consumers that have
begun it, a line without one is discarded, and the detail is their number; the galley closes in the event if no line is
left and nothing it holds has its end action to come, and is CANCELLING otherwise. The discarded lines and the line in
progress are reported to the catalogue (R6, R8). A begun line is freed when the last of its consumers is done with it
(R109, R110). In the other states the request is refused with WRONG_STATE. -/
def Obligations.CancelGalleyClosesOrCancels : Prop :=
  (∀ (s : State) (ch : ChannelId) (b : Block) (g : GalleyId), s.readyFor ch → b.payload.length ≤ 1024 →
    galleyOf b.target = some g →
    let r : Request := { code := 0x33, block := b }
    (((s.galley g).state = .closed ∨ (s.galley g).state = .cancelling) →
      EventTo (exec (.cancelGalley ch b) s) s (s.fresh.refuses ch r .wrongState)) ∧
    (((s.galley g).state = .opened ∨ (s.galley g).state = .ending) → s.linesOf g = [] → (s.galley g).waiting = [] →
      (∀ i, (s.font i).amend = none) → ∃ t, exec (.cancelGalley ch b) s = .next (react t) ∧
      (t.galley g).buffer = [] ∧ (t.galley g).builder = Builder.blank ∧
      (∀ h, h ≠ g → t.galley h = s.galley h) ∧
      t.channels = (s.posts ch r .done 0 []).channels ∧ t.film = s.film ∧ t.photo = s.photo ∧
      t.exposure = s.exposure ∧ t.proof = s.proof ∧ t.config = s.config ∧ t.sensors = s.sensors ∧
      t.store.slots = s.store.slots ∧
      (s.store.filmHolder ≠ some g → s.store.paperHolder ≠ some g →
        (t.galley g).state = .closed ∧ (t.galley g).font = none ∧ t.raised (.galleyClosed g) = true ∧
        g ∉ t.store.filmQueue ∧ g ∉ t.store.paperQueue) ∧
      ((s.store.filmHolder = some g ∧ s.store.filmEndDone = false ∨
          s.store.paperHolder = some g ∧ s.store.paperEndDone = false) →
        (t.galley g).state = .cancelling ∧ (t.galley g).font = (s.galley g).font ∧ t.attn = s.attn ∧
        t.store.filmHolder = s.store.filmHolder ∧ t.store.paperHolder = s.store.paperHolder)) ∧
    -- with stored lines and waiting text
    (((s.galley g).state = .opened ∨ (s.galley g).state = .ending) → HeldOnce s → StoreLegal s.store →
      let x := s.galley g
      let begun := fun y : LineRecord =>
        y.film && y.filmProgress != .notBegun || y.proof && y.proofProgress != .notBegun
      let left := (s.linesOf g).filter fun k => (s.lineAt k).any begun
      let gone := (s.linesOf g).filter fun k => !(s.lineAt k).any begun
      let closes := left.isEmpty && (s.store.filmHolder != some g || s.store.filmEndDone) &&
        (s.store.paperHolder != some g || s.store.paperEndDone)
      ∃ t, exec (.cancelGalley ch b) s = .next (react t) ∧
        t.channel ch = (s.posts ch r .done (BitVec.ofNat 16 gone.length) []).channel ch ∧
        (∀ w ∈ x.waiting, s.answered t w.channel .wrongState 0) ∧
        (∀ k ∈ gone, t.lineAt k = none) ∧
        (∀ k ∈ left, ∀ y, s.lineAt k = some y → t.lineAt k = some
          { y with film := y.film && y.filmProgress != .notBegun
                   proof := y.proof && y.proofProgress != .notBegun }) ∧
        (∀ k, k ∉ s.linesOf g → t.lineAt k = s.lineAt k) ∧
        t.linesOf g = left ∧ (∀ h, h ≠ g → t.linesOf h = s.linesOf h ∧ t.galley h = s.galley h) ∧
        (closes = true → t.galley g =
            { x with state := .closed, font := none, buffer := [], waiting := [], builder := Builder.blank } ∧
          t.attn = s.attn ||| (1#16 <<< (8 + g.val)) ∧
          t.store.filmQueue = s.store.filmQueue.filter (· != g) ∧
          t.store.paperQueue = s.store.paperQueue.filter (· != g) ∧
          t.store.filmHolder = (if s.store.filmHolder = some g then none else s.store.filmHolder) ∧
          t.store.paperHolder = (if s.store.paperHolder = some g then none else s.store.paperHolder)) ∧
        (closes = false → t.galley g =
            { x with state := .cancelling, buffer := [], waiting := [], builder := Builder.blank } ∧
          t.attn = s.attn ∧
          t.store.filmQueue = (if s.store.filmHolder = some g then s.store.filmQueue
            else s.store.filmQueue.filter (· != g)) ∧
          t.store.paperQueue = (if s.store.paperHolder = some g then s.store.paperQueue
            else s.store.paperQueue.filter (· != g)) ∧
          t.store.filmHolder = s.store.filmHolder ∧ t.store.paperHolder = s.store.paperHolder) ∧
        ReferencesReported s t 0 (fun j => (gone.filter fun k => (s.lineAt k).any (·.hasGlyphOf j)).length)
          (fun j => if x.builder.hasGlyphOf j then 1 else 0) (fun j => if closes && x.font == some j then 1 else 0) ∧
        (s.engine.state ≠ .serving g → s.engine.state ≠ .lookup g → t.engine = s.engine ∧ t.dict = s.dict) ∧
        ((s.engine.state = .serving g ∨ s.engine.state = .lookup g) →
          t.engine = { s.engine with state := .idle }) ∧
        (s.engine.state = .lookup g → t.dict.presentedLookup = none ∧
          ∀ core wanted, s.dict.running = some (.lookup core wanted) →
            t.dict.running = some (.lookup core false)) ∧
        t.film = s.film ∧ t.photo = s.photo ∧ t.exposure = s.exposure ∧ t.proof = s.proof ∧ t.config = s.config ∧
        t.sensors = s.sensors)) ∧
  -- a line that a consumer has begun
  ∀ (s : State) (k : LineSlot) (y : LineRecord), s.lineAt k = some y →
    (y.proof = true →
      (filmDone k s).lineAt k = some { y with film := false, filmProgress := .notBegun }) ∧
    (y.proof = false → (filmDone k s).lineAt k = none ∧
      (filmDone k s).linesOf y.galley = (s.linesOf y.galley).filter (· != k) ∧
      ∀ j, RecordAfter (s.font j) ((filmDone k s).font j) 0 (if y.hasGlyphOf j then 1 else 0) 0 0) ∧
    (y.film = true →
      (proofDone k s).lineAt k = some { y with proof := false, proofProgress := .notBegun }) ∧
    (y.film = false → (proofDone k s).lineAt k = none ∧
      (proofDone k s).linesOf y.galley = (s.linesOf y.galley).filter (· != k) ∧
      ∀ j, RecordAfter (s.font j) ((proofDone k s).font j) 0 (if y.hasGlyphOf j then 1 else 0) 0 0)

/-! ### Line composition -/

/-- R6 to R9, R26, R27, R29, R30, R36 to R42, R49 to R52, R55, R56, R62, R67, R68. What the taking of an item does, by its
kind, with no word to settle before it: every item that may be taken is taken, and its bytes leave the buffer. It is said
for a galley without waiting text. That a glyph which found the word full is taken into a carried word of fewer than 64
glyphs, as into any other, is the model's choice (log 43). With waiting text the same comes about, and then the text is served from its head while
it fits the room, each request completed with the number of its bytes; the end of the galley completes all of it
WRONG_STATE. A glyph joins the current word, kerned against a last glyph of the same font and size, and a space the gap; the
first of a line opens it with the parameters as they stand, and the first of its font in the line raises the font's partial
references. A space after a break is dropped, and so is one that does not
fit before the first glyph, which marks the line OVERSET. A discretionary hyphen marks its place once. A parameter is
brought into range, with CLAMPED where that changes it; of the hyphenation flags bits 0 and 1 are taken (the model's
choice, log 22). A font that resolves becomes the current one with its references counted, and one that does not marks the
line; a size becomes the nearest lens size. A first byte that names no item, or a quad mode that is none, is dropped with
BAD_ITEM. A line end commits the partial line, ended by the paragraph, into the lowest-numbered free slot, and an end-galley
item does so where the line holds a glyph; it makes the galley ENDING with its buffer emptied, with BAD_ITEM where bytes
stood after it. A commit raises the line references of the fonts in the line and lowers the partial references of the fonts
in progress. -/
def Obligations.TakingAnItemHasTheEffectOfItsKind : Prop :=
  (∀ (s : State) (g : GalleyId) (i : Item) (rest : List Byte), s.engine.state = .serving g →
    (s.galley g).state = .opened → headItem (s.galley g).buffer = some (i, rest) → (s.galley g).waiting = [] →
    let x := s.galley g
    let becomes := fun f : Galley → Galley =>
      exec .takeItem s = .next (react (s.fresh.modGalley g fun y => { f y with buffer := rest }))
    let marked := fun (bit : Half) (y : Galley) => { y with sticky := y.sticky ||| bit }
    -- the end of a line by the paragraph: nothing is divided or carried
    let byParagraph : LineEnd :=
      { items := x.builder.items, byBreak := false, hyphenBreak := false, flags := {}, carry := [], marks := [],
        afterBreak := false }
    let clampedIf := fun (c : Prop) [Decidable c] (y : Galley) => if c then marked (1#16 <<< 8) y else y
    -- the line builder as a glyph or a space finds it: opened with the parameters of the galley if it is not open
    let lineOf := if x.builder.isOpen then x.builder else
      { x.builder with
        isOpen := true
        latched := { measure := x.measure * 160, spaceMin := x.spaceMin, spaceOpt := x.spaceOpt, spaceMax := x.spaceMax,
                     minLeft := x.minLeft, minRight := x.minRight, hyphenate := x.hyphenate, rules := x.rules,
                     ladder := x.ladder } }
    let natural := fun (w : Nat) (k : Int) (track : Int) (size : Nat) => ((w : Int) + k + track).toNat * 5 * size
    let glyphOf := fun (c : GlyphCode) (slot : FontSlot) =>
      let entry := vget (s.font slot).widths c
      let w := if entry = 0 then 16 else entry
      ({ code := c, slot := slot, size := x.size, track := x.track, width := w, absent := entry == 0,
         advance := natural w 0 x.track x.size } : BGlyph)
    let spaceOf := fun k : SpaceKind =>
      match k with
      | .interword => ({ kind := k, size := x.size, min := lineOf.latched.spaceMin * 5 * x.size,
                         opt := lineOf.latched.spaceOpt * 5 * x.size, max := lineOf.latched.spaceMax * 5 * x.size } : BSpace)
      | _ =>
        let w := (match k with | .em => 32 | .en => 16 | _ => 8) * 5 * x.size
        { kind := k, size := x.size, min := w, opt := w, max := w }
    -- every item completes
    ((x.builder.word = [] ∨ i.endsWord x.builder.word.length = false) →
      (i = .lineEnd ∨ i = .endGalley → s.freeSlot.isSome) →
      ∃ t, exec .takeItem s = .next (react t) ∧ (t.galley g).buffer = (if i = .endGalley then [] else rest) ∧
        (t.galley g).waiting = [] ∧ (∀ h, h ≠ g → t.galley h = s.galley h) ∧ t.config = s.config ∧
        t.photo = s.photo ∧ t.film = s.film ∧ t.proof = s.proof ∧ t.sensors = s.sensors) ∧
    -- glyphs (R41, R49, R50, R51, R55)
    (∀ c slot, i = .glyph c → x.font = some slot → x.builder.word = [] → x.builder.usesSlot slot = true →
      becomes fun y => { y with builder := { lineOf with afterBreak := false, word := [glyphOf c slot] } }) ∧
    (∀ c slot, i = .glyph c → x.font = some slot → x.builder.word = [] → x.builder.usesSlot slot = false →
      exec .takeItem s = .next (react ((s.fresh.modGalley g fun y =>
          { y with builder := { lineOf with afterBreak := false, word := [glyphOf c slot] }, buffer := rest }).modFont
        slot fun f => { f with partialRefs := f.partialRefs + 1 }))) ∧
    (∀ c slot before last, i = .glyph c → x.font = some slot → x.builder.word = before ++ [last] →
      x.builder.word.length < 64 → x.builder.usesSlot slot = true →
      let kerned := if last.slot = slot ∧ last.size = x.size then
          { last with advance := natural last.width ((s.font last.slot).kern last.code c) last.track last.size }
        else last
      becomes fun y =>
        { y with builder := { lineOf with afterBreak := false, word := before ++ [kerned, glyphOf c slot] } }) ∧
    (∀ c slot, i = .glyph c → x.font = some slot → x.builder.word ≠ [] → x.builder.word.length < 64 →
      x.builder.usesSlot slot = false →
      exec .takeItem s = .next (react ((s.fresh.modGalley g fun y =>
          { y with builder := { lineOf with afterBreak := false, word := y.builder.word ++ [glyphOf c slot] },
                   buffer := rest }).modFont slot fun f => { f with partialRefs := f.partialRefs + 1 }))) ∧
    -- spaces (R41, R52, R56)
    (∀ k, i = .space k → x.builder.word = [] → x.builder.afterBreak = false →
      (0 < x.builder.glyphCount ∨
        (x.builder.gap.map (·.min)).sum + (spaceOf k).min ≤ lineOf.latched.measure) →
      becomes fun y => { y with builder := { lineOf with gap := y.builder.gap ++ [spaceOf k] } }) ∧
    (∀ k, i = .space k → x.builder.word = [] → x.builder.afterBreak = false → x.builder.glyphCount = 0 →
      lineOf.latched.measure < (x.builder.gap.map (·.min)).sum + (spaceOf k).min →
      becomes fun y => { y with builder := { lineOf with heldOverset := true } }) ∧
    (∀ k, i = .space k → x.builder.word = [] → x.builder.afterBreak = true → becomes fun y => y) ∧
    -- discretionary hyphens (R56, R90)
    (i = .discretionary → x.builder.word ≠ [] → x.builder.word.length ∉ x.builder.marks →
      becomes fun y =>
        { y with builder := { y.builder with marks := y.builder.marks ++ [y.builder.word.length] } }) ∧
    (i = .discretionary → (x.builder.word = [] ∨ x.builder.word.length ∈ x.builder.marks) → becomes fun y => y) ∧
    -- parameters (R26, R27, R40)
    (∀ n size, i = .size n → nearestLens n s = some size →
      becomes fun y => { y with size := size,
                                builder := { y.builder with heldSize := y.builder.heldSize || size != n } }) ∧
    (∀ n, i = .leading n → becomes fun y => clampedIf (288 < n) { y with leading := min 288 n }) ∧
    (∀ n, i = .measure n →
      becomes fun y => clampedIf (n < 72 ∨ 1440 < n) { y with measure := max 72 (min 1440 n) }) ∧
    (∀ n, i = .reverse n →
      becomes fun y => clampedIf (288 < n ∨ 288 < x.pendingReverse + min 288 n)
        { y with pendingReverse := min 288 (x.pendingReverse + min 288 n) }) ∧
    (∀ a b c, i = .spaces a b c →
      let mn := min 63 a
      let op := max mn (min 63 b)
      let mx := max op (min 63 c)
      becomes fun y => clampedIf (mn ≠ a ∨ op ≠ b ∨ mx ≠ c) { y with spaceMin := mn, spaceOpt := op, spaceMax := mx }) ∧
    (∀ t, i = .track t → becomes fun y => clampedIf (t < -4 ∨ 4 < t) { y with track := max (-4) (min 4 t) }) ∧
    (∀ flags n, i = .hyphControl flags n →
      becomes fun y => clampedIf (7 < n)
        { y with hyphenate := flags.getLsbD 0, rules := flags.getLsbD 1, ladder := min 7 n }) ∧
    (∀ l r, i = .zones l r →
      becomes fun y => clampedIf (7 < l ∨ 7 < r)
        { y with minLeft := if l = 0 then 2 else min 7 l, minRight := if r = 0 then 3 else min 7 r }) ∧
    (∀ v q, i = .quad v → quadModeOf v = some q → becomes fun y => { y with quad := q }) ∧
    ((∀ v, quadModeOf v = none ↔ 3 < v) ∧ quadModeOf 0 = some .left ∧ quadModeOf 1 = some .right ∧
      quadModeOf 2 = some .centre ∧ quadModeOf 3 = some .justify) ∧
    (∀ v, i = .quad v → 3 < v → becomes (marked (1#16 <<< 9))) ∧
    -- fonts (R7, R9, R39)
    (∀ n, i = .fontSelect n → s.resolve n = none →
      becomes fun y => { y with builder := { y.builder with heldFont := true } }) ∧
    (∀ n k, i = .fontSelect n → s.resolve n = some k → x.font = some k → becomes fun y => y) ∧
    (∀ n k, i = .fontSelect n → s.resolve n = some k → x.font ≠ some k → ∃ t,
      exec .takeItem s = .next (react t) ∧ t.galley g = { x with font := some k, buffer := rest } ∧
      (t.font k).currentRefs = (s.font k).currentRefs + 1 ∧ (t.font k).state = (s.font k).state ∧
      (∀ old, x.font = some old → (s.font old).state = .live → (s.font old).amend = none →
        t.font old = { s.font old with currentRefs := (s.font old).currentRefs - 1 }) ∧
      (∀ old, x.font = some old → (s.font old).state = .retiring → (s.font old).currentRefs ≤ 1 →
        (s.font old).lineRefs = 0 → (s.font old).partialRefs = 0 → (t.font old).state = .empty) ∧
      ∀ j, j ≠ k → x.font ≠ some j → t.font j = s.font j) ∧
    (i = .bad → becomes (marked (1#16 <<< 9))) ∧
    -- the end of a line (R62, R67, R68)
    (∀ k, i = .lineEnd → x.builder.word = [] → (s.lineAt k) = none → (∀ j, j < k → (s.lineAt j).isSome) →
      ∃ t record, exec .takeItem s = .next (react t) ∧ t.lineAt k = some record ∧ (∀ j, j ≠ k → t.lineAt j = s.lineAt j) ∧
        t.linesOf g = s.linesOf g ++ [k] ∧ t.engine = { s.engine with state := .idle } ∧
        record.galley = g ∧ record.seq = x.seq ∧ record.depth = (x.leading : Int) - x.pendingReverse ∧
        record.film = x.mode.usesFilm ∧ record.proof = x.mode.usesProof ∧ record.flags.hyphenated = false ∧
        record = lineRecord s.truncates g x byParagraph ∧
        (HeldOnce s → ReferencesReported s t (fun j => if record.hasGlyphOf j then 1 else 0) 0
          (fun j => if x.builder.hasGlyphOf j then 1 else 0) 0) ∧
        record.flags.missing = record.glyphs.any (·.absent) ∧ record.flags.fontSubst = x.builder.heldFont ∧
        record.flags.sizeSubst = x.builder.heldSize ∧ record.filmProgress = .notBegun ∧
        record.proofProgress = .notBegun ∧
        (t.galley g).buffer = rest ∧ (t.galley g).seq = x.seq + 1 ∧ (t.galley g).pendingReverse = 0 ∧
        (t.galley g).sticky = x.sticky ||| record.flags.sticky ∧ (t.galley g).builder.isOpen = false ∧
        (t.galley g).builder.items = [] ∧ (t.galley g).builder.word = [] ∧ (t.galley g).builder.hyphCount = 0) ∧
    -- the end of the galley (R38)
    (i = .endGalley → x.builder.word = [] → x.builder.glyphCount = 0 →
      exec .takeItem s = .next (react (s.fresh.modGalley g fun y =>
        { y with state := .ending, buffer := [], builder := Builder.blank,
                 sticky := if rest = [] then y.sticky else y.sticky ||| (1#16 <<< 9) }))) ∧
    (∀ k, i = .endGalley → x.builder.word = [] → 0 < x.builder.glyphCount → (s.lineAt k) = none →
      (∀ j, j < k → (s.lineAt j).isSome) →
      ∃ t record, exec .takeItem s = .next (react t) ∧ t.lineAt k = some record ∧
        (∀ j, j ≠ k → t.lineAt j = s.lineAt j) ∧ t.linesOf g = s.linesOf g ++ [k] ∧
        t.engine = { s.engine with state := .idle } ∧ record.galley = g ∧ record.seq = x.seq ∧
        record.depth = (x.leading : Int) - x.pendingReverse ∧ record.flags.hyphenated = false ∧
        record = lineRecord s.truncates g x byParagraph ∧
        (HeldOnce s → ReferencesReported s t (fun j => if record.hasGlyphOf j then 1 else 0) 0
          (fun j => if x.builder.hasGlyphOf j then 1 else 0) 0) ∧
        (t.galley g).state = .ending ∧ (t.galley g).buffer = [] ∧ (t.galley g).builder = Builder.blank ∧
        (t.galley g).seq = x.seq + 1 ∧
        (t.galley g).sticky = (x.sticky ||| record.flags.sticky) ||| (if rest = [] then 0#16 else 1#16 <<< 9))) ∧
  -- waiting text (R29, R30, R38)
  ∀ (s : State) (g : GalleyId) (i : Item) (rest : List Byte), s.engine.state = .serving g →
    (s.galley g).state = .opened → headItem (s.galley g).buffer = some (i, rest) →
    ((s.galley g).builder.word = [] ∨ i.endsWord (s.galley g).builder.word.length = false) →
    (i = .lineEnd ∨ i = .endGalley → s.freeSlot.isSome) → (s.galley g).buffer.length ≤ 1024 → HeldOnce s →
    let texts := (s.galley g).waiting
    let quiet := s.modGalley g fun y => { y with waiting := [] }
    -- the state that the item makes of one without waiting text
    let u := takeItem g i rest quiet.fresh
    exec .takeItem quiet = .next (react u) ∧
    ∃ t, exec .takeItem s = .next (react t) ∧ t = { u with galleys := t.galleys, channels := t.channels } ∧
      (∀ h, h ≠ g → t.galley h = u.galley h) ∧
      t.galley g = { u.galley g with buffer := (t.galley g).buffer, waiting := (t.galley g).waiting } ∧
      (i ≠ .endGalley → ∃ n, n ≤ texts.length ∧
        (t.galley g).buffer = rest ++ (texts.take n).flatMap (·.text) ∧ (t.galley g).waiting = texts.drop n ∧
        (t.galley g).buffer.length ≤ 1024 ∧
        (∀ next, texts[n]? = some next → 1024 < (t.galley g).buffer.length + next.text.length) ∧
        (∀ w ∈ texts.take n, s.answered t w.channel .done (BitVec.ofNat 16 w.text.length)) ∧
        ∀ ch, (∀ w ∈ texts.take n, w.channel ≠ ch) → t.channel ch = u.channel ch) ∧
      (i = .endGalley → (t.galley g).buffer = [] ∧ (t.galley g).waiting = [] ∧
        (∀ w ∈ texts, s.answered t w.channel .wrongState 0) ∧
        ∀ ch, (∀ w ∈ texts, w.channel ≠ ch) → t.channel ch = u.channel ch)

/-- R6, R8, R9, R54, R57 to R61, R67, R68, R76, R86 to R98. Before a word-ending item the engine settles the current word: one that fits
the measure and the glyph cap is placed whole, with its gap before it. One that does not fit and has a core to be looked up
makes the engine present its lookup. Another one, and one whose lookup has been answered, is searched for a break with its
list of candidates, and the line is committed: divided at the rightmost candidate that fits, with a hyphen unless the glyph
there is one; or, without one that fits, cut after the glyphs that fit if the line holds no glyph yet, and ended before the
word otherwise. The rest of the word is carried into the next line. The list holds the hard hyphens with a glyph after them,
and, where the galley hyphenates and its ladder allows, the places of one source more, of glyphs whose font has the hyphen:
the discretionary marks if there are any, else what the dictionary answers, else the rule positions. The commit raises the
line references of the fonts in the line and lowers the partial references of the fonts of which nothing is carried. The
answer of a lookup that is no longer wanted is discarded. Two points are the model's choices: no hyphen is added after a
hyphen glyph, whatever the candidate's source, where the table of R98 adds one for a discretionary candidate (log 20), and
the answer is the end of the lookup's operation (log 9). -/
def Obligations.SettlingAWordPlacesItOrLooksItUp : Prop :=
  (∀ (s : State) (g : GalleyId) (i : Item) (rest : List Byte), s.engine.state = .serving g →
    (s.galley g).state = .opened → headItem (s.galley g).buffer = some (i, rest) →
    (s.galley g).builder.word ≠ [] → i.endsWord (s.galley g).builder.word.length = true →
    let b := (s.galley g).builder
    let fits := b.nMin + (b.gap.map (·.min)).sum + (b.word.map (·.advance)).sum ≤ b.latched.measure ∧
      b.glyphCount + b.word.length ≤ 240
    (fits → EventTo (exec .settleWord s) s
      (s.fresh.modGalley g fun y =>
        { y with
          builder := { y.builder with
            items := b.items ++ b.gap.map .space ++ b.word.map .glyph
            n := b.n + (b.gap.map (·.opt)).sum + (b.word.map (·.advance)).sum
            nMin := b.nMin + (b.gap.map (·.min)).sum + (b.word.map (·.advance)).sum
            nMax := b.nMax + (b.gap.map (·.max)).sum + (b.word.map (·.advance)).sum
            glyphCount := b.glyphCount + b.word.length
            spaceCount := b.spaceCount + (b.gap.filter fun p => p.kind == .interword).length
            gap := [], word := [], marks := [] } })) ∧
    (∀ core, ¬ fits → lookupCore s b = some core →
      exec .settleWord s = .next (react
        ((s.fresh.modDict fun d => { d with presentedLookup := some { galley := g, core := core } }).modEngine
          fun e => { e with state := .lookup g }))) ∧
    (∀ k, ¬ fits → lookupCore s b = none → s.lineAt k = none → (∀ j, j < k → (s.lineAt j).isSome) →
      let e := searchEnd s b (candidates s b)
      ∃ t, exec .settleWord s = .next (react t) ∧
        t.lineAt k = some (lineRecord s.truncates g (s.galley g) e) ∧ t.linesOf g = s.linesOf g ++ [k] ∧
        (t.galley g).builder = builderAfter (s.galley g) e ∧ (t.galley g).buffer = (s.galley g).buffer ∧
        (HeldOnce s → ReferencesReported s t
          (fun j => if (lineRecord s.truncates g (s.galley g) e).hasGlyphOf j then 1 else 0) 0
          (fun j => if b.hasGlyphOf j && !(builderAfter (s.galley g) e).hasGlyphOf j then 1 else 0) 0) ∧
        t.engine = { s.engine with state := .idle }) ∧
    exec .takeItem s = .next s) ∧
  (∀ (s : State) (core : List Nat), s.dict.running = some (.lookup core false) →
    exec .lookupAnswer s = .next (react (s.fresh.modDict fun d => { d with running := none }))) ∧
  (∀ (s : State) (core : List Nat) (g : GalleyId) (k : LineSlot), s.dict.running = some (.lookup core true) →
    s.engine.state = .lookup g → s.lineAt k = none → (∀ j, j < k → (s.lineAt j).isSome) →
    let b := (s.galley g).builder
    let e := searchEnd s b (answeredCandidates s b (answerOf core s.dict.chains))
    ∃ t record, exec .lookupAnswer s = .next (react t) ∧ t.dict = { s.dict with running := none } ∧
      t.engine = { s.engine with state := .idle } ∧ t.lineAt k = some record ∧ record.galley = g ∧
      record.seq = (s.galley g).seq ∧ (t.galley g).seq = (s.galley g).seq + 1 ∧
      t.linesOf g = s.linesOf g ++ [k] ∧ record = lineRecord s.truncates g (s.galley g) e ∧
      (HeldOnce s → ReferencesReported s t (fun j => if record.hasGlyphOf j then 1 else 0) 0
        (fun j => if b.hasGlyphOf j && !(builderAfter (s.galley g) e).hasGlyphOf j then 1 else 0) 0) ∧
      (t.galley g).builder = builderAfter (s.galley g) e) ∧
  -- the break search (R58 to R61)
  (∀ (s : State) (b : Builder) (cs : List Candidate),
    let gap := (b.gap.map (·.min)).sum
    let width := fun w : List BGlyph => (w.map (·.advance)).sum
    let restMarks := fun j : Nat => (b.marks.filter fun m => decide (j < m ∧ m < b.word.length)).map (· - j)
    -- the first j glyphs as the end of a line, and the first k glyphs of a word that is cut
    let natural := fun g : BGlyph => { g with advance := ((g.width : Int) + 0 + g.track).toNat * 5 * g.size }
    let divided := fun j : Nat =>
      match b.word[j - 1]? with
      | some g =>
        if g.code = s.hyphenCode then b.word.take (j - 1) ++ [natural g]
        else
          let w := vget (s.font g.slot).widths s.hyphenCode
          b.word.take (j - 1) ++
            [{ g with advance :=
                ((g.width : Int) + (s.font g.slot).kern g.code s.hyphenCode + g.track).toNat * 5 * g.size },
             { code := s.hyphenCode, slot := g.slot, size := g.size, track := g.track,
               width := if w = 0 then 16 else w, absent := w == 0,
               advance := (((if w = 0 then 16 else w : Nat) : Int) + 0 + g.track).toNat * 5 * g.size }]
      | none => b.word
    let cut := fun k : Nat =>
      match b.word[k - 1]? with
      | some g => b.word.take (k - 1) ++ [natural g]
      | none => b.word
    let passes := fun c : Candidate => b.nMin + gap + width (divided c.j) ≤ b.latched.measure ∧
      b.glyphCount + (divided c.j).length ≤ 240
    (∀ front c back, cs = front ++ c :: back → passes c → (∀ d ∈ back, ¬ passes d) →
      searchEnd s b cs =
        { items := b.items ++ b.gap.map .space ++ (divided c.j).map .glyph, byBreak := true, hyphenBreak := true
          flags := { hyphenated := true, doubtful := c.source == .rule }, carry := b.word.drop c.j
          marks := restMarks c.j, afterBreak := false }) ∧
    ((∀ c ∈ cs, ¬ passes c) → b.glyphCount ≠ 0 →
      searchEnd s b cs =
        { items := b.items, byBreak := true, hyphenBreak := false
          flags := { crowded := decide (b.nMin + gap + width b.word ≤ b.latched.measure) }, carry := b.word
          marks := restMarks 0, afterBreak := false }) ∧
    ((∀ c ∈ cs, ¬ passes c) → b.glyphCount = 0 → ∃ k,
      searchEnd s b cs =
        { items := b.gap.map .space ++ (cut k).map .glyph, byBreak := true, hyphenBreak := false
          flags := { overset := true }, carry := b.word.drop k, marks := restMarks k
          afterBreak := b.word.drop k == [] } ∧
      (∀ j, 1 ≤ j → j ≤ b.word.length → gap + width (cut j) ≤ b.latched.measure → j ≤ k) ∧
      (k = 1 ∨ 1 ≤ k ∧ k ≤ b.word.length ∧ gap + width (cut k) ≤ b.latched.measure))) ∧
  -- what is carried (R68)
  (∀ (x : Galley) (e : LineEnd),
    (builderAfter x e).word = e.carry ∧ (builderAfter x e).marks = e.marks ∧ (builderAfter x e).items = [] ∧
    (builderAfter x e).gap = [] ∧ (builderAfter x e).glyphCount = 0 ∧ (builderAfter x e).afterBreak = e.afterBreak ∧
    (builderAfter x e).isOpen = (e.carry != []) ∧
    (builderAfter x e).hyphCount = (if e.hyphenBreak then min 255 (x.builder.hyphCount + 1) else 0) ∧
    (e.carry ≠ [] → (builderAfter x e).latched.measure = x.measure * 160)) ∧
  -- the candidates (R86 to R98)
  ∀ (s : State) (b : Builder),
    let w := b.word
    let hyphen := fun j : Nat => ∃ g, w[j]? = some g ∧ g.code = s.hyphenCode
    -- glyph j, counted from 1, is the last of a run of hyphens and another glyph follows it (R89)
    let hard := fun j : Nat => 1 ≤ j ∧ j < w.length ∧ hyphen (j - 1) ∧ ¬ hyphen j
    -- the font of glyph j has the hyphen glyph (R96)
    let carries := fun j : Nat => ∃ g, w[j - 1]? = some g ∧ vget (s.font g.slot).widths s.hyphenCode ≠ 0
    let letters := coreLetters s w
    let ids := letters.map (·.2)
    let marked := fun j : Nat => j ∈ b.marks ∧ 1 ≤ j ∧ j < w.length
    let off := b.latched.hyphenate = false ∨ b.latched.ladder ≠ 0 ∧ b.latched.ladder ≤ b.hyphCount
    -- position p of the core gives a place: after the glyph of letter p, with letter p + 1 next to it
    let placeOf := fun (p j : Nat) => ∃ q, (letters[p - 1]?).map (·.1) = some j ∧ (letters[p]?).map (·.1) = some q ∧
      q = j + 1
    -- the rule positions (R94)
    let rule := fun p : Nat => 1 ≤ p ∧ p < ids.length ∧ b.latched.minLeft ≤ p ∧ b.latched.minRight ≤ ids.length - p ∧
      let l := ids.getD (p - 1) 0
      let r := ids.getD p 0
      (s.vowel l = false ∧ s.vowel r = false ∧ s.digraph l r = false ∨
        s.vowel l = true ∧ s.vowel r = false ∧ p + 1 < ids.length ∧ s.vowel (ids.getD (p + 1) 0) = true)
    let ruled := fun j : Nat => b.latched.rules = true ∧ coreClosed s w = false ∧ 2 ≤ ids.length ∧
      ∃ p, rule p ∧ placeOf p j
    let ascends := fun cs : List Candidate => (cs.map (·.j)).Pairwise (· < ·)
    ascends (candidates s b) ∧ (∀ a, ascends (answeredCandidates s b a)) ∧
    -- the letters of the core, by the code map; the hyphen glyph is no letter (R88)
    (∀ j id, (j, id) ∈ letters ↔ ∃ g, 1 ≤ j ∧ w[j - 1]? = some g ∧ g.code ≠ s.hyphenCode ∧ id ≠ 0 ∧
      id = (vget s.codeMap g.code).toNat) ∧
    (off → candidates s b = [] ∧ lookupCore s b = none) ∧
    (¬ off → (∃ j, marked j) → lookupCore s b = none ∧ ∀ c, c ∈ candidates s b ↔
      hard c.j ∧ c.source = .hard ∨ ¬ hard c.j ∧ marked c.j ∧ carries c.j ∧ c.source = .discretionary) ∧
    (¬ off → (¬ ∃ j, marked j) →
      (∀ c, c ∈ candidates s b ↔
        hard c.j ∧ c.source = .hard ∨ ¬ hard c.j ∧ ruled c.j ∧ carries c.j ∧ c.source = .rule) ∧
      lookupCore s b = if coreClosed s w = false ∧ 2 ≤ ids.length ∧ ids.length ≤ 32 then some ids else none) ∧
    (∀ positions c, c ∈ answeredCandidates s b (.allow positions) ↔
      hard c.j ∧ c.source = .hard ∨
        ¬ hard c.j ∧ (∃ p ∈ positions, placeOf p c.j) ∧ carries c.j ∧ c.source = .dictionary) ∧
    (∀ c, c ∈ answeredCandidates s b .never ↔ hard c.j ∧ c.source = .hard) ∧
    ∀ c, c ∈ answeredCandidates s b .absent ↔
      hard c.j ∧ c.source = .hard ∨ ¬ hard c.j ∧ ruled c.j ∧ carries c.j ∧ c.source = .rule

/-- R64, R65. Equal stretch shares the slack S among the n interword spaces: each grows by floor(S / n), and the leftmost
S mod n by 1 FU more, so that they grow by S in total; the line is LOOSE if a space ends above its max. Proportional
shrink by D takes floor(D × range / R) from each space, and the remainder 1 FU each from the leftmost spaces with a range;
it takes D in total and leaves every space at or above its min, with offset 0 in every quad mode and the width M. -/
def Obligations.StretchAndShrinkAreExact : Prop :=
  (∀ (spaces : List BSpace) (S : Nat), spaces ≠ [] →
    (stretch spaces S).length = spaces.length ∧
    (stretch spaces S).sum = (spaces.map (·.opt)).sum + S ∧
    ∀ (i : Nat) (h : i < spaces.length), (stretch spaces S)[i]? =
      some (spaces[i].opt + S / spaces.length + if i < S % spaces.length then 1 else 0)) ∧
  (∀ (spaces : List BSpace) (M N : Nat), spaces ≠ [] → N ≤ M →
    let sp := spacing .justify true spaces M N
    sp.widths = stretch spaces (M - N) ∧ sp.offset = 0 ∧
    (sp.loose = true ↔ ∃ (i : Nat) (h : i < spaces.length) (w : Nat), sp.widths[i]? = some w ∧ spaces[i].max < w) ∧
    ((spaces.map (·.max)).sum < (spaces.map (·.opt)).sum + (M - N) → sp.loose = true)) ∧
  ∀ (spaces : List BSpace) (D : Nat), (∀ p ∈ spaces, p.min ≤ p.opt) →
    let R := (spaces.map fun p => p.opt - p.min).sum
    let first := fun p : BSpace => D * (p.opt - p.min) / R
    let left := D - (spaces.map first).sum
    let ranged := fun l : List BSpace => (l.filter fun p => decide (p.min < p.opt)).length
    D ≤ R →
    (shrink spaces D).length = spaces.length ∧
    (shrink spaces D).sum + D = (spaces.map (·.opt)).sum ∧
    (left = 0 ∨ left < ranged spaces) ∧
    (∀ (i : Nat) (h : i < spaces.length), ∃ w, (shrink spaces D)[i]? = some w ∧ spaces[i].min ≤ w ∧
      w + first spaces[i] + (if spaces[i].min < spaces[i].opt ∧ ranged (spaces.take i) < left then 1 else 0) =
        spaces[i].opt) ∧
    ∀ (quad : QuadMode) (byBreak : Bool) (M N : Nat), M < N → N - M = D →
      spacing quad byBreak spaces M N = { widths := shrink spaces D, offset := 0, loose := false } ∧
      ((spaces.map (·.opt)).sum ≤ N → N - (spaces.map (·.opt)).sum + (shrink spaces D).sum = M)

/-- R63. A line whose Nmin is at most its measure M ends at or before M, and a JUSTIFY line ended by a break with an
interword space has exactly the width M. The offset and the final widths are those of the case: LEFT, RIGHT, CENTRE, JUSTIFY
by the paragraph, and a line that shrinks by more than its ranges. R66. The flash position of an accumulated position P is
P / 16, rounded to the nearest integer with halves to the even one, or truncated. R63, R66, R67. The record of a line lists
its glyphs in line order, each at the flash position of the offset plus the advances, the fixed spaces and the final widths
of the interword spaces before it. -/
def Obligations.SetLinesFitAndPositionsRoundOnce : Prop :=
  -- the glyph list and the other fields of a committed line
  (∀ (truncate : Bool) (g : GalleyId) (x : Galley) (e : LineEnd),
    let glyphs := fun l : List LineItem => l.filterMap fun i => match i with | .glyph b => some b | .space _ => none
    let spaces := fun l : List LineItem => l.filterMap fun i =>
      match i with
      | .space p => if p.kind = .interword then some p else none
      | .glyph _ => none
    let natural := fun l : List LineItem => (l.map fun i => match i with | .glyph b => b.advance | .space p => p.opt).sum
    let fixed := fun l : List LineItem => (l.map fun i =>
      match i with
      | .glyph b => b.advance
      | .space p => if p.kind = .interword then 0 else p.opt).sum
    let sp := spacing x.quad e.byBreak (spaces e.items) x.builder.latched.measure (natural e.items)
    let r := lineRecord truncate g x e
    r.glyphs.length = (glyphs e.items).length ∧
    (∀ before b after, e.items = before ++ .glyph b :: after →
      r.glyphs[(glyphs before).length]? = some
        { code := b.code, slot := b.slot, size := b.size, absent := b.absent
          x := flashPosition truncate (sp.offset + fixed before + (sp.widths.take (spaces before).length).sum) }) ∧
    r = { galley := g, seq := x.seq, depth := (x.leading : Int) - x.pendingReverse, glyphs := r.glyphs
          flags := { hyphenated := e.flags.hyphenated, doubtful := e.flags.doubtful, loose := sp.loose
                     overset := e.flags.overset || x.builder.heldOverset, crowded := e.flags.crowded
                     missing := r.glyphs.any (·.absent), fontSubst := x.builder.heldFont, sizeSubst := x.builder.heldSize }
          film := x.mode.usesFilm, proof := x.mode.usesProof, filmProgress := .notBegun, proofProgress := .notBegun }) ∧
  -- the table of R63; equal stretch and proportional shrink are in StretchAndShrinkAreExact
  (∀ (byBreak : Bool) (spaces : List BSpace) (M N : Nat), N ≤ M →
    let opts := spaces.map (·.opt)
    spacing .left byBreak spaces M N = { widths := opts, offset := 0, loose := false } ∧
    spacing .right byBreak spaces M N = { widths := opts, offset := M - N, loose := false } ∧
    spacing .centre byBreak spaces M N = { widths := opts, offset := (M - N) / 2, loose := false } ∧
    spacing .justify false spaces M N = { widths := opts, offset := 0, loose := false }) ∧
  (∀ (quad : QuadMode) (byBreak : Bool) (spaces : List BSpace) (M N : Nat),
    M + (spaces.map fun p => p.opt - p.min).sum < N →
    spacing quad byBreak spaces M N = { widths := spaces.map (·.min), offset := 0, loose := false }) ∧
  (∀ (quad : QuadMode) (byBreak : Bool) (spaces : List BSpace) (M N : Nat),
    (∀ p ∈ spaces, p.min ≤ p.opt) → (spaces.map (·.opt)).sum ≤ N →
    N ≤ M + (spaces.map fun p => p.opt - p.min).sum →
    let sp := spacing quad byBreak spaces M N
    sp.widths.length = spaces.length ∧
    sp.offset + (N - (spaces.map (·.opt)).sum) + sp.widths.sum ≤ M ∧
    (quad = .justify → byBreak = true → spaces ≠ [] → N - (spaces.map (·.opt)).sum + sp.widths.sum = M) ∧
    (quad = .justify → byBreak = true → spaces = [] → sp.loose = true) ∧
    ∀ (i : Nat) (h : i < spaces.length), ∃ w, sp.widths[i]? = some w ∧ spaces[i].min ≤ w) ∧
  (∀ p : Nat, flashPosition true p = p / 16) ∧
  (∀ p : Nat, 2 * (16 * flashPosition false p) ≤ 2 * p + 16 ∧ 2 * p ≤ 2 * (16 * flashPosition false p) + 16 ∧
    (p % 16 = 8 → flashPosition false p % 2 = 0)) ∧
  (∀ (p k : Nat), flashPosition true (p + 16 * k) = flashPosition true p + k) ∧
  (∀ (p k : Nat), flashPosition false (p + 32 * k) = flashPosition false p + 2 * k) ∧
  ∀ (p : Nat) (t : Bool), p ≤ 230400 → flashPosition t p ≤ 14400

/-- R45, R44, R103. An arbitration chooses an eligible galley of the highest priority, the first in the order g+1, …, g+8
modulo 8 after the galley g served last, and only where none is eligible none; the engine then stays IDLE. The chosen
galley becomes the one served last, which is 7 after both resets and which no cancel and no close changes. A galley is eligible when it is OPEN with
a complete item at its head and a priority of at least 1, and the free count is at least 5, or at least 1 for a holder of
the film or the paper. -/
def Obligations.ArbitrationChoosesByPriorityThenRound : Prop :=
  (∀ (s : State) (g : GalleyId), s.arbitration = some g →
    s.eligible g = true ∧ ∀ h, s.eligible h = true →
      (s.galley h).priority < (s.galley g).priority ∨
      (s.galley h).priority = (s.galley g).priority ∧
        (g.val + 7 - s.engine.lastServed.val) % 8 ≤ (h.val + 7 - s.engine.lastServed.val) % 8) ∧
  (∀ s : State, s.arbitration = none ↔ ∀ g, s.eligible g = false) ∧
  (∀ s : State, tryArbitrate s =
    if s.engine.state = .idle then
      s.arbitration.map fun g => s.modEngine fun _ => { state := .serving g, lastServed := g }
    else none) ∧
  (∀ (s : State) (g : GalleyId), (closeGalley g s).engine.lastServed = s.engine.lastServed ∧
    (cancelGalley g s).1.engine.lastServed = s.engine.lastServed) ∧
  (∀ (s : State) (g : GalleyId), s.eligible g = true ↔
    (s.galley g).state = .opened ∧ (headItem (s.galley g).buffer).isSome ∧ 1 ≤ (s.galley g).priority ∧
    (5 ≤ s.freeCount ∨ 1 ≤ s.freeCount ∧ (s.store.filmHolder = some g ∨ s.store.paperHolder = some g))) ∧
  State.reset.engine.lastServed = 7 ∧ ∀ s, (compositionReset s).engine.lastServed = 7

/-! ### Exception Dictionary -/

/-- R73, R74, R77. A dictionary request is presented by its channel, and taken in the same event when nothing else waits
and no operation runs; its taking keeps the write protect and the code map as they stand then. While an operation runs
nothing is granted. Of two kinds of work that wait the kind not granted last is granted, of two channels the one not
granted last, and while a purge is in flight no channel request. That a PURGE DESK which will be refused is taken as one operation
is the model's reading (log 35, deduced). -/
def Obligations.DictionaryWorkIsPresentedAndGranted : Prop :=
  (∀ (s : State) (ch : ChannelId) (b : Block), s.readyFor ch → b.payload.length ≤ 1024 →
    let shown := fun (code : Byte) => react ((s.fresh.waits ch { code := code, block := b }).modDict fun d =>
      { d with presented := vset d.presented ch (some { code := code, block := b }) })
    let taken := fun (code : Byte) => (s.fresh.waits ch { code := code, block := b }).modDict fun d =>
      { d with running := some (.request ch { code := code, block := b } s.writeProtect s.codeMap),
               lastKind := .channel, lastChannel := ch }
    exec (.addWords ch b) s = .next (shown 0x20) ∧ exec (.amendWord ch b) s = .next (shown 0x21) ∧
    exec (.deleteWord ch b) s = .next (shown 0x22) ∧ exec (.lookUpWord ch b) s = .next (shown 0x23) ∧
    exec (.purgeDesk ch b) s = .next (shown 0x24) ∧
    (s.settled → s.dict.running = none →
      exec (.addWords ch b) s = .next (taken 0x20) ∧ exec (.amendWord ch b) s = .next (taken 0x21) ∧
      exec (.deleteWord ch b) s = .next (taken 0x22) ∧ exec (.lookUpWord ch b) s = .next (taken 0x23) ∧
      ((s.writeProtect = true ∨ 15 < b.target.toNat) → exec (.purgeDesk ch b) s = .next (taken 0x24)) ∧
      (s.writeProtect = false → b.target.toNat ≤ 15 →
        exec (.purgeDesk ch b) s = .next ((s.fresh.waits ch { code := 0x24, block := b }).modDict fun d =>
          { d with running := some .bucket,
                   purge := some { channel := ch, tag := b.target.toNat, next := 0, removed := 0 },
                   lastKind := .channel, lastChannel := ch })))) ∧
  ∀ s : State,
    let lookup := fun l : Lookup => s.modDict fun d =>
      { d with running := some (.lookup l.core true), presentedLookup := none, lastKind := .composition }
    (s.dict.running.isSome → tryGrant s = none) ∧
    (∀ l, s.dict.running = none → s.dict.presentedLookup = some l → s.dict.lastKind = .channel →
      tryGrant s = some (lookup l)) ∧
    (∀ l, s.dict.running = none → s.dict.presentedLookup = some l → s.dict.purge = none →
      (∀ ch, vget s.dict.presented ch = none) → tryGrant s = some (lookup l)) ∧
    (∀ p, s.dict.running = none → s.dict.purge = some p →
      (s.dict.presentedLookup = none ∨ s.dict.lastKind = .composition) →
      tryGrant s = some (s.modDict fun d =>
        { d with running := some .bucket, lastKind := .channel, lastChannel := p.channel })) ∧
    ∀ ch r, s.dict.running = none → s.dict.purge = none → vget s.dict.presented ch = some r → r.code ≠ 0x24 →
      (s.dict.lastChannel ≠ ch ∨ ∀ c, c ≠ ch → vget s.dict.presented c = none) →
      (s.dict.presentedLookup = none ∨ s.dict.lastKind = .composition) →
      tryGrant s = some (s.modDict fun d =>
        { d with running := some (.request ch r s.writeProtect s.codeMap),
                 presented := vset d.presented ch none, lastKind := .channel, lastChannel := ch })

/-- R72, R77 to R82. The effect and the outcome of an operation come at its completion: a protected request is refused;
ADD WORDS puts a new word at the head of its bucket's chain, for its entries in turn; the first that is refused ends it
with that refusal, and the detail is the number added; AMEND WORD replaces the entry at its place; DELETE WORD
removes it; LOOK UP WORD reports the bucket, with the entry, its place in the chain and the counts as the reply; a bucket
operation of a purge removes the entries of its tag and the last one completes it. A payload that is not as laid out, and a
desk tag above 15, are refused with BAD_ARGUMENT. That an ADD WORDS without its entry count is refused so is the model's
choice (log 23). That a PURGE DESK refused for write protection is refused at the end of one operation is the model's
reading (log 35, deduced); the detail of a refusal for which the manual states none is a free value (log 7). -/
def Obligations.DictionaryOperationsHaveTheirEffect : Prop :=
  (∀ (s : State) (ch : ChannelId) (r : Request) (m : Vector Byte 96),
    s.dict.running = some (.request ch r true m) → s.handed ch r →
    (r.code = 0x20 ∨ r.code = 0x21 ∨ r.code = 0x22 ∨ r.code = 0x24) →
    exec .dictionaryOperationComplete s =
      .next (react ((s.fresh.modDict fun d => { d with running := none }).posts ch r .isProtected 0 []))) ∧
  (∀ (s : State) (ch : ChannelId) (r : Request) (m : Vector Byte 96),
    s.dict.running = some (.request ch r false m) → s.handed ch r →
    let p := r.block.payload
    let chains := s.dict.chains
    let becomes := fun (c : Completion) (detail : Half) (chains : Vector (List Entry) 512) =>
      exec .dictionaryOperationComplete s = .next (react
        ((s.fresh.modDict fun d => { d with running := none, chains := chains }).posts ch r c detail []))
    let refused := fun c : Completion =>
      exec .dictionaryOperationComplete s = .next (react
        ((s.fresh.modDict fun d => { d with running := none }).refuses ch r c))
    (∀ e rest, r.code = 0x20 → r.block.target.toNat ≤ 15 → 2 ≤ p.length → u16 p 0 = 1 →
      takeEntry m r.block.target.toNat (p.drop 2) = some (e, rest) →
      ((findEntry e.word chains).isSome → becomes .alreadyExists 0 chains) ∧
      (findEntry e.word chains = none → 2048 ≤ entryCount chains → becomes .full 0 chains) ∧
      (findEntry e.word chains = none → entryCount chains < 2048 →
        becomes .done 1 (vset chains (bucketOf e.word) (e :: vget chains (bucketOf e.word))))) ∧
    (r.code = 0x20 → 15 < r.block.target.toNat → becomes .badArgument 0 chains) ∧
    (r.code = 0x20 → p.length < 2 → becomes .badArgument 0 chains) ∧
    -- a list of entries (R78): `added` are its first entries, `q` the bytes after them and `left` the chains with them
    (∀ added q left, r.code = 0x20 → r.block.target.toNat ≤ 15 → 2 ≤ p.length →
      EntriesAdded m r.block.target.toNat added (p.drop 2) chains q left →
      (added.length = u16 p 0 → becomes .done (BitVec.ofNat 16 added.length) left) ∧
      (added.length < u16 p 0 → takeEntry m r.block.target.toNat q = none →
        becomes .badArgument (BitVec.ofNat 16 added.length) left) ∧
      ∀ e rest, added.length < u16 p 0 → takeEntry m r.block.target.toNat q = some (e, rest) →
        ((findEntry e.word left).isSome → becomes .alreadyExists (BitVec.ofNat 16 added.length) left) ∧
        (findEntry e.word left = none → 2048 ≤ entryCount left →
          becomes .full (BitVec.ofNat 16 added.length) left)) ∧
    -- and every list has its first entries added, up to its end or to an entry that is refused
    (2 ≤ p.length → ∃ added q left, EntriesAdded m r.block.target.toNat added (p.drop 2) chains q left ∧
      (added.length = u16 p 0 ∨ added.length < u16 p 0 ∧ ∀ e rest,
        takeEntry m r.block.target.toNat q = some (e, rest) →
          (findEntry e.word left).isSome ∨ 2048 ≤ entryCount left)) ∧
    (∀ e old, r.code = 0x21 → r.block.target.toNat ≤ 15 →
      takeEntry m r.block.target.toNat p = some (e, []) → findEntry e.word chains = some old →
      becomes .done (BitVec.ofNat 16 old.tag)
        (vset chains (bucketOf e.word) ((vget chains (bucketOf e.word)).map fun x =>
          if x.word = e.word then e else x))) ∧
    (∀ e, r.code = 0x21 → r.block.target.toNat ≤ 15 →
      takeEntry m r.block.target.toNat p = some (e, []) → findEntry e.word chains = none → refused .notFound) ∧
    (r.code = 0x21 → 15 < r.block.target.toNat → refused .badArgument) ∧
    (r.code = 0x21 → (∀ e, takeEntry m r.block.target.toNat p ≠ some (e, [])) → refused .badArgument) ∧
    (r.code = 0x24 → 15 < r.block.target.toNat → refused .badArgument) ∧
    (∀ w e, r.code = 0x22 → parseWord m p = some w → findEntry w chains = some e →
      becomes .done (BitVec.ofNat 16 e.tag)
        (vset chains (bucketOf w) ((vget chains (bucketOf w)).filter fun x => x.word != w))) ∧
    (∀ w, r.code = 0x22 → parseWord m p = some w → findEntry w chains = none → refused .notFound) ∧
    (r.code = 0x22 → parseWord m p = none → refused .badArgument)) ∧
  (∀ (s : State) (ch : ChannelId) (r : Request) (prot : Bool) (m : Vector Byte 96) (w : List Nat),
    s.dict.running = some (.request ch r prot m) → s.handed ch r → r.code = 0x23 →
    parseWord m r.block.payload = some w → ∃ bytes, exec .dictionaryOperationComplete s = .next (react
      ((s.fresh.modDict fun d => { d with running := none }).posts ch r
        (if (findEntry w s.dict.chains).isSome then .done else .notFound)
        (BitVec.ofNat 16 (bucketOf w).val) bytes)) ∧
      let chain := vget s.dict.chains (bucketOf w)
      let two := fun n : Nat => [BitVec.ofNat 8 n, BitVec.ofNat 8 (n / 256)]
      let counts := two chain.length ++ two (entryCount s.dict.chains)
      (findEntry w s.dict.chains = none → bytes = counts) ∧
      ∀ before e after, chain = before ++ e :: after → e.word = w → (∀ x ∈ before, x.word ≠ w) →
        bytes = counts ++ two (before.length + 1) ++
          [(match e.kind with | .allow => 0 | .never => 1), BitVec.ofNat 8 e.tag, BitVec.ofNat 8 w.length] ++
          w.map (BitVec.ofNat 8) ++ BitVec.ofNat 8 e.positions.length :: e.positions.map (BitVec.ofNat 8)) ∧
  (∀ (s : State) (ch : ChannelId) (r : Request) (prot : Bool) (m : Vector Byte 96),
    s.dict.running = some (.request ch r prot m) → s.handed ch r → r.code = 0x23 →
    parseWord m r.block.payload = none → exec .dictionaryOperationComplete s = .next (react
      ((s.fresh.modDict fun d => { d with running := none }).posts ch r .badArgument 0 []))) ∧
  (∀ (s : State) (p : Purge), s.dict.running = some .bucket → s.dict.purge = some p →
    (∀ h : p.next < 511, exec .dictionaryOperationComplete s = .next (react (s.fresh.modDict fun d =>
      { d with
        running := none
        chains := vset d.chains ⟨p.next, by omega⟩ ((vget d.chains ⟨p.next, by omega⟩).filter fun e => e.tag != p.tag)
        purge := some { p with
          next := p.next + 1
          removed := p.removed + ((vget d.chains ⟨p.next, by omega⟩).filter fun e => e.tag == p.tag).length } }))) ∧
    (∀ r, p.next = 511 → s.handed p.channel r → exec .dictionaryOperationComplete s = .next (react
      ((s.fresh.modDict fun d =>
        { d with running := none, purge := none,
                 chains := vset d.chains 511 ((vget d.chains 511).filter fun e => e.tag != p.tag) }).posts
          p.channel r .done (BitVec.ofNat 16 (p.removed + ((vget s.dict.chains 511).filter fun e => e.tag == p.tag).length))
          [])))) ∧
  ∀ w : List Nat, (bucketOf w).val = ((List.range w.length).map fun i => (i + 1) * w.getD i 0).sum % 512

/-! ### Proof Generator -/

/-- R155. LOAD PROOF CELLS replaces the cells of a run of codes of one set and completes with their number; a set number
above 3, or a payload that is not as laid out, is refused with BAD_ARGUMENT. -/
def Obligations.LoadProofCellsReplacesARun : Prop :=
  ∀ (s : State) (ch : ChannelId) (b : Block), s.readyFor ch → b.payload.length ≤ 1024 →
    let r : Request := { code := 0x60, block := b }
    ((4 ≤ b.target.toNat ∨ parseCells b.payload = none) →
      EventTo (exec (.loadProofCells ch b) s) s (s.fresh.refuses ch r .badArgument)) ∧
    ∀ (set : Fin 4) (first : Nat) (cells : List (Cell × Bool)), b.target.toNat = set.val →
      parseCells b.payload = some (first, cells) → ∃ t,
      EventTo (exec (.loadProofCells ch b) s) s t ∧
      t = (s.fresh.modProof fun p => { p with cells := t.proof.cells }).posts ch r
        (if cells.any (·.2) then .doneClamped else .done) (BitVec.ofNat 16 cells.length) [] ∧
      (∀ k, k ≠ set → vget t.proof.cells k = vget s.proof.cells k) ∧
      ∀ code : Fin 96,
        (∀ i c, cells[i]? = some c → code.val = first + i → vget (vget t.proof.cells set) code = c.1) ∧
        (code.val < first ∨ first + cells.length ≤ code.val →
          vget (vget t.proof.cells set) code = vget (vget s.proof.cells set) code)

/-- R154, R156, R157. A glyph at flash position x stands at column floor(x × 5 / 72). The text field of a band is the OR of
the cells of its glyphs, each bit of a cell's width at its column, and nothing beyond column 1,199. The cell of an absent
glyph is the solid box, of 8 full columns, that of another the cell of its font's proof set (R157). The flag field holds the
cell of each flag that the line carries at its 8 columns, and is blank elsewhere; HYPHENATED has none. The six flag cells
differ from one another and from the solid box (R154); their dots are free values (log 8). -/
def Obligations.BandsAreTheOrOfTheirCells : Prop :=
  (∀ (s : State) (i : LineSlot) (line : LineRecord) (k : Fin 12) (col : Nat), col < 1200 →
    ((vget (assemble s i line).rows k).getLsbD col = true ↔
      ∃ g ∈ line.glyphs, ∃ d, col = g.x * 5 / 72 + d ∧ d < (glyphCell s g).width ∧
        (vget (glyphCell s g).rows k).getLsbD d = true)) ∧
  (∀ (c : Cell) (column : Nat) (k : Fin 12) (col : Nat), 1200 ≤ col → (deposit c column k).getLsbD col = false) ∧
  (∀ (s : State) (g : SetGlyph), g.absent = true → glyphCell s g = solidBox) ∧
  (∀ (s : State) (g : SetGlyph), g.absent = false →
    glyphCell s g = vget (vget s.proof.cells (s.font g.slot).proofSet) g.code) ∧
  (∀ x, x ≤ 14400 → glyphColumn x ≤ 1000) ∧ glyphColumn 1448 = 100 ∧
  solidBox.width = 8 ∧ (∀ (r : Fin 12) (d : Nat), (vget solidBox.rows r).getLsbD d = decide (d < 8)) ∧
  (∀ (s : State) (i : LineSlot) (line : LineRecord) (k : Fin 12) (flag d : Nat), flag < 6 → d < 8 →
    (vget (assemble s i line).rows k).getLsbD (1200 + 8 * flag + d) =
      ([line.flags.loose, line.flags.doubtful, line.flags.overset, line.flags.crowded, line.flags.missing,
          line.flags.fontSubst || line.flags.sizeSubst].getD flag false && (vget (flagCell flag) k).getLsbD d)) ∧
  (∀ j k, j < 6 → k < 6 → j ≠ k → flagCell j ≠ flagCell k) ∧
  ∀ k, k < 6 → flagCell k ≠ Vector.replicate 12 0xFF#8

/-! ### Resets -/

/-- R20, R114. After power-on reset every font slot is EMPTY, all 1,024 kerning cells are free, no number resolves and no
amend is pending; a turret arrival then verifies nothing. Every line slot is free, every list and both queues are empty
and nobody holds the film or the paper. Every other block is in its power-up state too, whole (R43, R46, R84, R134, R153,
R163, R164, R173, R175, R180). Of the values in those states, these are the model's: the latched parameters of the empty
line builders, 0, the levels of the drive lines, 0, and the flash counted as reported (log 6, a choice), the carriage's
position 0 before its home run (log 24, a choice), the absent station of the field `turretAt` (log 45, a choice), and the
levels of the pins, which the reset keeps (log 28, deduced). -/
def Obligations.PowerOnResetEmptiesTheCatalogueAndTheStore : Prop :=
  ∀ s : State, ∃ t, exec .powerOnReset s = .next t ∧
    (∀ i, (t.font i).state = .empty ∧ (t.font i).amend = none ∧ (t.font i).kerning = []) ∧ t.poolFree = 1024 ∧
    (∀ n, t.resolve n = none) ∧ (∀ q code, (verifyAt q code t).fonts = t.fonts) ∧
    (∀ k, t.lineAt k = none) ∧ t.freeCount = 48 ∧ (∀ g, t.linesOf g = []) ∧ t.store.filmQueue = [] ∧
    t.store.paperQueue = [] ∧ t.store.filmHolder = none ∧ t.store.paperHolder = none ∧
    (∀ g, t.galley g = Galley.blank) ∧ t.engine = { state := .idle, lastServed := 7 } ∧
    entryCount t.dict.chains = 0 ∧ t.dict.running = none ∧ t.photo = Photo.powerOn ∧ t.exposure = Exposure.powerOn ∧
    t.film.loaded = false ∧ t.proof.port = .idle ∧ (∀ ch, t.channel ch = Channel.powerOn) ∧ t.attn = 0 ∧
    t.attnEn = 0 ∧ t.config = ConfigSpace.powerOn ∧ t.sensors = Sensors.powerOn s.sensors.inputs ∧
    t.store = Store.blank ∧ t.dict = Dictionary.powerOn ∧ t.film = Film.powerOn ∧ t.proof = ProofGen.powerOn ∧
    (∀ i, t.font i = FontRecord.blank) ∧ t.drives = Drives.powerOn ∧ t.settled = true

/-- R179, R21, R43, R46, R84, R115, R134, R153, R163. A write of 01H to 00H: every galley is CLOSED, the store empty, the
engine IDLE, LIVE records keep their parts with their counts 0, RETIRING ones are EMPTY, the flash request and the port are
withdrawn, Exposure Control is IDLE and the film stands. The configuration space, the sensors and the attention flags stay.
A held amend is applied and its request completes DONE or DONE_CLAMPED with the new revision; the requests of the waiting
texts, and a free film move in progress, complete RESET, with a detail that is a free value (log 7). -/
def Obligations.CompositionResetStopsTheWork : Prop :=
  ∀ s : State, s.config.index = 0 → ∃ t, exec .compositionReset s = .next (react t) ∧
    (∀ g, t.galley g =
      { s.galley g with state := .closed, font := none, pendingReverse := 0, buffer := [], waiting := [], seq := 0,
                        sticky := 0, builder := Builder.blank }) ∧
    t.engine = { state := .idle, lastServed := 7 } ∧ t.store = Store.blank ∧
    (∀ i, (s.font i).state = .live → (s.font i).amend = none →
      t.font i = { s.font i with lineRefs := 0, currentRefs := 0, partialRefs := 0 }) ∧
    (∀ i a, (s.font i).state = .live → (s.font i).amend = some a →
      t.font i = { s.font i with
        lineRefs := 0, currentRefs := 0, partialRefs := 0
        widths := a.parts.widths.getD (s.font i).widths, kerning := a.parts.kerning.getD (s.font i).kerning
        name := a.parts.name.getD (s.font i).name, proofSet := a.parts.proofSet.getD (s.font i).proofSet
        revision := (s.font i).revision + 1, amend := none }) ∧
    (∀ i, (s.font i).state ≠ .live → (t.font i).state = .empty) ∧
    t.photo = { s.photo with flash := none, delay := none, lockWatch := none, flashReported := false,
                             turret := t.photo.turret } ∧
    (∀ p, s.photo.turret = .moving p (some .exposure) → t.photo.turret = .moving p none) ∧
    ((∀ p, s.photo.turret ≠ .moving p (some .exposure)) → t.photo.turret = s.photo.turret) ∧
    t.exposure = Exposure.powerOn ∧ t.film = { s.film with move := none, timer := none } ∧
    t.proof = { s.proof with buffers := Vector.replicate 2 .empty, port := .idle, row := 0, pos := 0, feeds := 0 } ∧
    t.dict.chains = s.dict.chains ∧ t.dict.purge = s.dict.purge ∧ t.dict.presented = s.dict.presented ∧
    t.dict.presentedLookup = none ∧ (∀ core w, s.dict.running = some (.lookup core w) →
      t.dict.running = some (.lookup core false)) ∧
    ((∀ core w, s.dict.running ≠ some (.lookup core w)) → t.dict.running = s.dict.running) ∧
    t.config = s.config ∧ t.sensors = s.sensors ∧ t.attn = s.attn ∧ t.attnEn = s.attnEn ∧
    t.drives = s.drives ∧ t.pending = s.pending ∧
    -- the requests that were held (R21, R30, R43, R153)
    (HeldOnce s →
      (∀ i a, (s.font i).state = .live → (s.font i).amend = some a →
        s.answered t a.channel (if a.clamped then .doneClamped else .done) (((s.font i).revision + 1).setWidth 16)) ∧
      (∀ g, ∀ w ∈ (s.galley g).waiting, ∃ detail, s.answered t w.channel .reset detail) ∧
      (∀ ch target, s.exposure.work = .advanceFilm ch target → ∃ detail, s.answered t ch .reset detail) ∧
      ∀ ch step, s.exposure.work = .cutFilm ch step → ∃ detail, s.answered t ch .reset detail) ∧
    -- a channel that brought none of them
    ((∀ i, (s.font i).amend = none) → (∀ g, (s.galley g).waiting = []) → s.exposure.work.isFreeMove = false →
      t.channels = s.channels) ∧
    ∀ ch, (∀ i a, (s.font i).amend = some a → a.channel ≠ ch) → (∀ g, ∀ w ∈ (s.galley g).waiting, w.channel ≠ ch) →
      (∀ target, s.exposure.work ≠ .advanceFilm ch target) → (∀ step, s.exposure.work ≠ .cutFilm ch step) →
      t.channel ch = s.channel ch
end

