-- ==== Sys2Proof/Laws/State.lean ====
section
/-! SUPPORT. What each named update does to each field of State: one lemma per field per update, all by definition. -/

namespace Sys2Proof.Machine

/-! ### modFont -/

@[simp] theorem State.modFont_fonts (s : State) (i : FontSlot) (f : FontRecord → FontRecord) : (s.modFont i f).fonts = vset s.fonts i (f (s.font i)) := rfl
@[simp] theorem State.modFont_galleys (s : State) (i : FontSlot) (f : FontRecord → FontRecord) : (s.modFont i f).galleys = s.galleys := rfl
@[simp] theorem State.modFont_engine (s : State) (i : FontSlot) (f : FontRecord → FontRecord) : (s.modFont i f).engine = s.engine := rfl
@[simp] theorem State.modFont_dict (s : State) (i : FontSlot) (f : FontRecord → FontRecord) : (s.modFont i f).dict = s.dict := rfl
@[simp] theorem State.modFont_store (s : State) (i : FontSlot) (f : FontRecord → FontRecord) : (s.modFont i f).store = s.store := rfl
@[simp] theorem State.modFont_photo (s : State) (i : FontSlot) (f : FontRecord → FontRecord) : (s.modFont i f).photo = s.photo := rfl
@[simp] theorem State.modFont_exposure (s : State) (i : FontSlot) (f : FontRecord → FontRecord) : (s.modFont i f).exposure = s.exposure := rfl
@[simp] theorem State.modFont_film (s : State) (i : FontSlot) (f : FontRecord → FontRecord) : (s.modFont i f).film = s.film := rfl
@[simp] theorem State.modFont_proof (s : State) (i : FontSlot) (f : FontRecord → FontRecord) : (s.modFont i f).proof = s.proof := rfl
@[simp] theorem State.modFont_channels (s : State) (i : FontSlot) (f : FontRecord → FontRecord) : (s.modFont i f).channels = s.channels := rfl
@[simp] theorem State.modFont_attn (s : State) (i : FontSlot) (f : FontRecord → FontRecord) : (s.modFont i f).attn = s.attn := rfl
@[simp] theorem State.modFont_attnEn (s : State) (i : FontSlot) (f : FontRecord → FontRecord) : (s.modFont i f).attnEn = s.attnEn := rfl
@[simp] theorem State.modFont_config (s : State) (i : FontSlot) (f : FontRecord → FontRecord) : (s.modFont i f).config = s.config := rfl
@[simp] theorem State.modFont_sensors (s : State) (i : FontSlot) (f : FontRecord → FontRecord) : (s.modFont i f).sensors = s.sensors := rfl
@[simp] theorem State.modFont_drives (s : State) (i : FontSlot) (f : FontRecord → FontRecord) : (s.modFont i f).drives = s.drives := rfl
@[simp] theorem State.modFont_pulses (s : State) (i : FontSlot) (f : FontRecord → FontRecord) : (s.modFont i f).pulses = s.pulses := rfl
@[simp] theorem State.modFont_readData (s : State) (i : FontSlot) (f : FontRecord → FontRecord) : (s.modFont i f).readData = s.readData := rfl
@[simp] theorem State.modFont_free (s : State) (i : FontSlot) (f : FontRecord → FontRecord) : (s.modFont i f).free = s.free := rfl
@[simp] theorem State.modFont_pending (s : State) (i : FontSlot) (f : FontRecord → FontRecord) : (s.modFont i f).pending = s.pending := rfl

/-! ### modGalley -/

@[simp] theorem State.modGalley_fonts (s : State) (g : GalleyId) (f : Galley → Galley) : (s.modGalley g f).fonts = s.fonts := rfl
@[simp] theorem State.modGalley_galleys (s : State) (g : GalleyId) (f : Galley → Galley) : (s.modGalley g f).galleys = vset s.galleys g (f (s.galley g)) := rfl
@[simp] theorem State.modGalley_engine (s : State) (g : GalleyId) (f : Galley → Galley) : (s.modGalley g f).engine = s.engine := rfl
@[simp] theorem State.modGalley_dict (s : State) (g : GalleyId) (f : Galley → Galley) : (s.modGalley g f).dict = s.dict := rfl
@[simp] theorem State.modGalley_store (s : State) (g : GalleyId) (f : Galley → Galley) : (s.modGalley g f).store = s.store := rfl
@[simp] theorem State.modGalley_photo (s : State) (g : GalleyId) (f : Galley → Galley) : (s.modGalley g f).photo = s.photo := rfl
@[simp] theorem State.modGalley_exposure (s : State) (g : GalleyId) (f : Galley → Galley) : (s.modGalley g f).exposure = s.exposure := rfl
@[simp] theorem State.modGalley_film (s : State) (g : GalleyId) (f : Galley → Galley) : (s.modGalley g f).film = s.film := rfl
@[simp] theorem State.modGalley_proof (s : State) (g : GalleyId) (f : Galley → Galley) : (s.modGalley g f).proof = s.proof := rfl
@[simp] theorem State.modGalley_channels (s : State) (g : GalleyId) (f : Galley → Galley) : (s.modGalley g f).channels = s.channels := rfl
@[simp] theorem State.modGalley_attn (s : State) (g : GalleyId) (f : Galley → Galley) : (s.modGalley g f).attn = s.attn := rfl
@[simp] theorem State.modGalley_attnEn (s : State) (g : GalleyId) (f : Galley → Galley) : (s.modGalley g f).attnEn = s.attnEn := rfl
@[simp] theorem State.modGalley_config (s : State) (g : GalleyId) (f : Galley → Galley) : (s.modGalley g f).config = s.config := rfl
@[simp] theorem State.modGalley_sensors (s : State) (g : GalleyId) (f : Galley → Galley) : (s.modGalley g f).sensors = s.sensors := rfl
@[simp] theorem State.modGalley_drives (s : State) (g : GalleyId) (f : Galley → Galley) : (s.modGalley g f).drives = s.drives := rfl
@[simp] theorem State.modGalley_pulses (s : State) (g : GalleyId) (f : Galley → Galley) : (s.modGalley g f).pulses = s.pulses := rfl
@[simp] theorem State.modGalley_readData (s : State) (g : GalleyId) (f : Galley → Galley) : (s.modGalley g f).readData = s.readData := rfl
@[simp] theorem State.modGalley_free (s : State) (g : GalleyId) (f : Galley → Galley) : (s.modGalley g f).free = s.free := rfl
@[simp] theorem State.modGalley_pending (s : State) (g : GalleyId) (f : Galley → Galley) : (s.modGalley g f).pending = s.pending := rfl

/-! ### modChannel -/

@[simp] theorem State.modChannel_fonts (s : State) (c : ChannelId) (f : Channel → Channel) : (s.modChannel c f).fonts = s.fonts := rfl
@[simp] theorem State.modChannel_galleys (s : State) (c : ChannelId) (f : Channel → Channel) : (s.modChannel c f).galleys = s.galleys := rfl
@[simp] theorem State.modChannel_engine (s : State) (c : ChannelId) (f : Channel → Channel) : (s.modChannel c f).engine = s.engine := rfl
@[simp] theorem State.modChannel_dict (s : State) (c : ChannelId) (f : Channel → Channel) : (s.modChannel c f).dict = s.dict := rfl
@[simp] theorem State.modChannel_store (s : State) (c : ChannelId) (f : Channel → Channel) : (s.modChannel c f).store = s.store := rfl
@[simp] theorem State.modChannel_photo (s : State) (c : ChannelId) (f : Channel → Channel) : (s.modChannel c f).photo = s.photo := rfl
@[simp] theorem State.modChannel_exposure (s : State) (c : ChannelId) (f : Channel → Channel) : (s.modChannel c f).exposure = s.exposure := rfl
@[simp] theorem State.modChannel_film (s : State) (c : ChannelId) (f : Channel → Channel) : (s.modChannel c f).film = s.film := rfl
@[simp] theorem State.modChannel_proof (s : State) (c : ChannelId) (f : Channel → Channel) : (s.modChannel c f).proof = s.proof := rfl
@[simp] theorem State.modChannel_channels (s : State) (c : ChannelId) (f : Channel → Channel) : (s.modChannel c f).channels = vset s.channels c (f (s.channel c)) := rfl
@[simp] theorem State.modChannel_attn (s : State) (c : ChannelId) (f : Channel → Channel) : (s.modChannel c f).attn = s.attn := rfl
@[simp] theorem State.modChannel_attnEn (s : State) (c : ChannelId) (f : Channel → Channel) : (s.modChannel c f).attnEn = s.attnEn := rfl
@[simp] theorem State.modChannel_config (s : State) (c : ChannelId) (f : Channel → Channel) : (s.modChannel c f).config = s.config := rfl
@[simp] theorem State.modChannel_sensors (s : State) (c : ChannelId) (f : Channel → Channel) : (s.modChannel c f).sensors = s.sensors := rfl
@[simp] theorem State.modChannel_drives (s : State) (c : ChannelId) (f : Channel → Channel) : (s.modChannel c f).drives = s.drives := rfl
@[simp] theorem State.modChannel_pulses (s : State) (c : ChannelId) (f : Channel → Channel) : (s.modChannel c f).pulses = s.pulses := rfl
@[simp] theorem State.modChannel_readData (s : State) (c : ChannelId) (f : Channel → Channel) : (s.modChannel c f).readData = s.readData := rfl
@[simp] theorem State.modChannel_free (s : State) (c : ChannelId) (f : Channel → Channel) : (s.modChannel c f).free = s.free := rfl
@[simp] theorem State.modChannel_pending (s : State) (c : ChannelId) (f : Channel → Channel) : (s.modChannel c f).pending = s.pending := rfl

/-! ### modEngine -/

@[simp] theorem State.modEngine_fonts (s : State) (f : Engine → Engine) : (s.modEngine f).fonts = s.fonts := rfl
@[simp] theorem State.modEngine_galleys (s : State) (f : Engine → Engine) : (s.modEngine f).galleys = s.galleys := rfl
@[simp] theorem State.modEngine_engine (s : State) (f : Engine → Engine) : (s.modEngine f).engine = f s.engine := rfl
@[simp] theorem State.modEngine_dict (s : State) (f : Engine → Engine) : (s.modEngine f).dict = s.dict := rfl
@[simp] theorem State.modEngine_store (s : State) (f : Engine → Engine) : (s.modEngine f).store = s.store := rfl
@[simp] theorem State.modEngine_photo (s : State) (f : Engine → Engine) : (s.modEngine f).photo = s.photo := rfl
@[simp] theorem State.modEngine_exposure (s : State) (f : Engine → Engine) : (s.modEngine f).exposure = s.exposure := rfl
@[simp] theorem State.modEngine_film (s : State) (f : Engine → Engine) : (s.modEngine f).film = s.film := rfl
@[simp] theorem State.modEngine_proof (s : State) (f : Engine → Engine) : (s.modEngine f).proof = s.proof := rfl
@[simp] theorem State.modEngine_channels (s : State) (f : Engine → Engine) : (s.modEngine f).channels = s.channels := rfl
@[simp] theorem State.modEngine_attn (s : State) (f : Engine → Engine) : (s.modEngine f).attn = s.attn := rfl
@[simp] theorem State.modEngine_attnEn (s : State) (f : Engine → Engine) : (s.modEngine f).attnEn = s.attnEn := rfl
@[simp] theorem State.modEngine_config (s : State) (f : Engine → Engine) : (s.modEngine f).config = s.config := rfl
@[simp] theorem State.modEngine_sensors (s : State) (f : Engine → Engine) : (s.modEngine f).sensors = s.sensors := rfl
@[simp] theorem State.modEngine_drives (s : State) (f : Engine → Engine) : (s.modEngine f).drives = s.drives := rfl
@[simp] theorem State.modEngine_pulses (s : State) (f : Engine → Engine) : (s.modEngine f).pulses = s.pulses := rfl
@[simp] theorem State.modEngine_readData (s : State) (f : Engine → Engine) : (s.modEngine f).readData = s.readData := rfl
@[simp] theorem State.modEngine_free (s : State) (f : Engine → Engine) : (s.modEngine f).free = s.free := rfl
@[simp] theorem State.modEngine_pending (s : State) (f : Engine → Engine) : (s.modEngine f).pending = s.pending := rfl

/-! ### modDict -/

@[simp] theorem State.modDict_fonts (s : State) (f : Dictionary → Dictionary) : (s.modDict f).fonts = s.fonts := rfl
@[simp] theorem State.modDict_galleys (s : State) (f : Dictionary → Dictionary) : (s.modDict f).galleys = s.galleys := rfl
@[simp] theorem State.modDict_engine (s : State) (f : Dictionary → Dictionary) : (s.modDict f).engine = s.engine := rfl
@[simp] theorem State.modDict_dict (s : State) (f : Dictionary → Dictionary) : (s.modDict f).dict = f s.dict := rfl
@[simp] theorem State.modDict_store (s : State) (f : Dictionary → Dictionary) : (s.modDict f).store = s.store := rfl
@[simp] theorem State.modDict_photo (s : State) (f : Dictionary → Dictionary) : (s.modDict f).photo = s.photo := rfl
@[simp] theorem State.modDict_exposure (s : State) (f : Dictionary → Dictionary) : (s.modDict f).exposure = s.exposure := rfl
@[simp] theorem State.modDict_film (s : State) (f : Dictionary → Dictionary) : (s.modDict f).film = s.film := rfl
@[simp] theorem State.modDict_proof (s : State) (f : Dictionary → Dictionary) : (s.modDict f).proof = s.proof := rfl
@[simp] theorem State.modDict_channels (s : State) (f : Dictionary → Dictionary) : (s.modDict f).channels = s.channels := rfl
@[simp] theorem State.modDict_attn (s : State) (f : Dictionary → Dictionary) : (s.modDict f).attn = s.attn := rfl
@[simp] theorem State.modDict_attnEn (s : State) (f : Dictionary → Dictionary) : (s.modDict f).attnEn = s.attnEn := rfl
@[simp] theorem State.modDict_config (s : State) (f : Dictionary → Dictionary) : (s.modDict f).config = s.config := rfl
@[simp] theorem State.modDict_sensors (s : State) (f : Dictionary → Dictionary) : (s.modDict f).sensors = s.sensors := rfl
@[simp] theorem State.modDict_drives (s : State) (f : Dictionary → Dictionary) : (s.modDict f).drives = s.drives := rfl
@[simp] theorem State.modDict_pulses (s : State) (f : Dictionary → Dictionary) : (s.modDict f).pulses = s.pulses := rfl
@[simp] theorem State.modDict_readData (s : State) (f : Dictionary → Dictionary) : (s.modDict f).readData = s.readData := rfl
@[simp] theorem State.modDict_free (s : State) (f : Dictionary → Dictionary) : (s.modDict f).free = s.free := rfl
@[simp] theorem State.modDict_pending (s : State) (f : Dictionary → Dictionary) : (s.modDict f).pending = s.pending := rfl

/-! ### modStore -/

@[simp] theorem State.modStore_fonts (s : State) (f : Store → Store) : (s.modStore f).fonts = s.fonts := rfl
@[simp] theorem State.modStore_galleys (s : State) (f : Store → Store) : (s.modStore f).galleys = s.galleys := rfl
@[simp] theorem State.modStore_engine (s : State) (f : Store → Store) : (s.modStore f).engine = s.engine := rfl
@[simp] theorem State.modStore_dict (s : State) (f : Store → Store) : (s.modStore f).dict = s.dict := rfl
@[simp] theorem State.modStore_store (s : State) (f : Store → Store) : (s.modStore f).store = f s.store := rfl
@[simp] theorem State.modStore_photo (s : State) (f : Store → Store) : (s.modStore f).photo = s.photo := rfl
@[simp] theorem State.modStore_exposure (s : State) (f : Store → Store) : (s.modStore f).exposure = s.exposure := rfl
@[simp] theorem State.modStore_film (s : State) (f : Store → Store) : (s.modStore f).film = s.film := rfl
@[simp] theorem State.modStore_proof (s : State) (f : Store → Store) : (s.modStore f).proof = s.proof := rfl
@[simp] theorem State.modStore_channels (s : State) (f : Store → Store) : (s.modStore f).channels = s.channels := rfl
@[simp] theorem State.modStore_attn (s : State) (f : Store → Store) : (s.modStore f).attn = s.attn := rfl
@[simp] theorem State.modStore_attnEn (s : State) (f : Store → Store) : (s.modStore f).attnEn = s.attnEn := rfl
@[simp] theorem State.modStore_config (s : State) (f : Store → Store) : (s.modStore f).config = s.config := rfl
@[simp] theorem State.modStore_sensors (s : State) (f : Store → Store) : (s.modStore f).sensors = s.sensors := rfl
@[simp] theorem State.modStore_drives (s : State) (f : Store → Store) : (s.modStore f).drives = s.drives := rfl
@[simp] theorem State.modStore_pulses (s : State) (f : Store → Store) : (s.modStore f).pulses = s.pulses := rfl
@[simp] theorem State.modStore_readData (s : State) (f : Store → Store) : (s.modStore f).readData = s.readData := rfl
@[simp] theorem State.modStore_free (s : State) (f : Store → Store) : (s.modStore f).free = s.free := rfl
@[simp] theorem State.modStore_pending (s : State) (f : Store → Store) : (s.modStore f).pending = s.pending := rfl

/-! ### modPhoto -/

@[simp] theorem State.modPhoto_fonts (s : State) (f : Photo → Photo) : (s.modPhoto f).fonts = s.fonts := rfl
@[simp] theorem State.modPhoto_galleys (s : State) (f : Photo → Photo) : (s.modPhoto f).galleys = s.galleys := rfl
@[simp] theorem State.modPhoto_engine (s : State) (f : Photo → Photo) : (s.modPhoto f).engine = s.engine := rfl
@[simp] theorem State.modPhoto_dict (s : State) (f : Photo → Photo) : (s.modPhoto f).dict = s.dict := rfl
@[simp] theorem State.modPhoto_store (s : State) (f : Photo → Photo) : (s.modPhoto f).store = s.store := rfl
@[simp] theorem State.modPhoto_photo (s : State) (f : Photo → Photo) : (s.modPhoto f).photo = f s.photo := rfl
@[simp] theorem State.modPhoto_exposure (s : State) (f : Photo → Photo) : (s.modPhoto f).exposure = s.exposure := rfl
@[simp] theorem State.modPhoto_film (s : State) (f : Photo → Photo) : (s.modPhoto f).film = s.film := rfl
@[simp] theorem State.modPhoto_proof (s : State) (f : Photo → Photo) : (s.modPhoto f).proof = s.proof := rfl
@[simp] theorem State.modPhoto_channels (s : State) (f : Photo → Photo) : (s.modPhoto f).channels = s.channels := rfl
@[simp] theorem State.modPhoto_attn (s : State) (f : Photo → Photo) : (s.modPhoto f).attn = s.attn := rfl
@[simp] theorem State.modPhoto_attnEn (s : State) (f : Photo → Photo) : (s.modPhoto f).attnEn = s.attnEn := rfl
@[simp] theorem State.modPhoto_config (s : State) (f : Photo → Photo) : (s.modPhoto f).config = s.config := rfl
@[simp] theorem State.modPhoto_sensors (s : State) (f : Photo → Photo) : (s.modPhoto f).sensors = s.sensors := rfl
@[simp] theorem State.modPhoto_drives (s : State) (f : Photo → Photo) : (s.modPhoto f).drives = s.drives := rfl
@[simp] theorem State.modPhoto_pulses (s : State) (f : Photo → Photo) : (s.modPhoto f).pulses = s.pulses := rfl
@[simp] theorem State.modPhoto_readData (s : State) (f : Photo → Photo) : (s.modPhoto f).readData = s.readData := rfl
@[simp] theorem State.modPhoto_free (s : State) (f : Photo → Photo) : (s.modPhoto f).free = s.free := rfl
@[simp] theorem State.modPhoto_pending (s : State) (f : Photo → Photo) : (s.modPhoto f).pending = s.pending := rfl

/-! ### modExposure -/

@[simp] theorem State.modExposure_fonts (s : State) (f : Exposure → Exposure) : (s.modExposure f).fonts = s.fonts := rfl
@[simp] theorem State.modExposure_galleys (s : State) (f : Exposure → Exposure) : (s.modExposure f).galleys = s.galleys := rfl
@[simp] theorem State.modExposure_engine (s : State) (f : Exposure → Exposure) : (s.modExposure f).engine = s.engine := rfl
@[simp] theorem State.modExposure_dict (s : State) (f : Exposure → Exposure) : (s.modExposure f).dict = s.dict := rfl
@[simp] theorem State.modExposure_store (s : State) (f : Exposure → Exposure) : (s.modExposure f).store = s.store := rfl
@[simp] theorem State.modExposure_photo (s : State) (f : Exposure → Exposure) : (s.modExposure f).photo = s.photo := rfl
@[simp] theorem State.modExposure_exposure (s : State) (f : Exposure → Exposure) : (s.modExposure f).exposure = f s.exposure := rfl
@[simp] theorem State.modExposure_film (s : State) (f : Exposure → Exposure) : (s.modExposure f).film = s.film := rfl
@[simp] theorem State.modExposure_proof (s : State) (f : Exposure → Exposure) : (s.modExposure f).proof = s.proof := rfl
@[simp] theorem State.modExposure_channels (s : State) (f : Exposure → Exposure) : (s.modExposure f).channels = s.channels := rfl
@[simp] theorem State.modExposure_attn (s : State) (f : Exposure → Exposure) : (s.modExposure f).attn = s.attn := rfl
@[simp] theorem State.modExposure_attnEn (s : State) (f : Exposure → Exposure) : (s.modExposure f).attnEn = s.attnEn := rfl
@[simp] theorem State.modExposure_config (s : State) (f : Exposure → Exposure) : (s.modExposure f).config = s.config := rfl
@[simp] theorem State.modExposure_sensors (s : State) (f : Exposure → Exposure) : (s.modExposure f).sensors = s.sensors := rfl
@[simp] theorem State.modExposure_drives (s : State) (f : Exposure → Exposure) : (s.modExposure f).drives = s.drives := rfl
@[simp] theorem State.modExposure_pulses (s : State) (f : Exposure → Exposure) : (s.modExposure f).pulses = s.pulses := rfl
@[simp] theorem State.modExposure_readData (s : State) (f : Exposure → Exposure) : (s.modExposure f).readData = s.readData := rfl
@[simp] theorem State.modExposure_free (s : State) (f : Exposure → Exposure) : (s.modExposure f).free = s.free := rfl
@[simp] theorem State.modExposure_pending (s : State) (f : Exposure → Exposure) : (s.modExposure f).pending = s.pending := rfl

/-! ### modFilm -/

@[simp] theorem State.modFilm_fonts (s : State) (f : Film → Film) : (s.modFilm f).fonts = s.fonts := rfl
@[simp] theorem State.modFilm_galleys (s : State) (f : Film → Film) : (s.modFilm f).galleys = s.galleys := rfl
@[simp] theorem State.modFilm_engine (s : State) (f : Film → Film) : (s.modFilm f).engine = s.engine := rfl
@[simp] theorem State.modFilm_dict (s : State) (f : Film → Film) : (s.modFilm f).dict = s.dict := rfl
@[simp] theorem State.modFilm_store (s : State) (f : Film → Film) : (s.modFilm f).store = s.store := rfl
@[simp] theorem State.modFilm_photo (s : State) (f : Film → Film) : (s.modFilm f).photo = s.photo := rfl
@[simp] theorem State.modFilm_exposure (s : State) (f : Film → Film) : (s.modFilm f).exposure = s.exposure := rfl
@[simp] theorem State.modFilm_film (s : State) (f : Film → Film) : (s.modFilm f).film = f s.film := rfl
@[simp] theorem State.modFilm_proof (s : State) (f : Film → Film) : (s.modFilm f).proof = s.proof := rfl
@[simp] theorem State.modFilm_channels (s : State) (f : Film → Film) : (s.modFilm f).channels = s.channels := rfl
@[simp] theorem State.modFilm_attn (s : State) (f : Film → Film) : (s.modFilm f).attn = s.attn := rfl
@[simp] theorem State.modFilm_attnEn (s : State) (f : Film → Film) : (s.modFilm f).attnEn = s.attnEn := rfl
@[simp] theorem State.modFilm_config (s : State) (f : Film → Film) : (s.modFilm f).config = s.config := rfl
@[simp] theorem State.modFilm_sensors (s : State) (f : Film → Film) : (s.modFilm f).sensors = s.sensors := rfl
@[simp] theorem State.modFilm_drives (s : State) (f : Film → Film) : (s.modFilm f).drives = s.drives := rfl
@[simp] theorem State.modFilm_pulses (s : State) (f : Film → Film) : (s.modFilm f).pulses = s.pulses := rfl
@[simp] theorem State.modFilm_readData (s : State) (f : Film → Film) : (s.modFilm f).readData = s.readData := rfl
@[simp] theorem State.modFilm_free (s : State) (f : Film → Film) : (s.modFilm f).free = s.free := rfl
@[simp] theorem State.modFilm_pending (s : State) (f : Film → Film) : (s.modFilm f).pending = s.pending := rfl

/-! ### modProof -/

@[simp] theorem State.modProof_fonts (s : State) (f : ProofGen → ProofGen) : (s.modProof f).fonts = s.fonts := rfl
@[simp] theorem State.modProof_galleys (s : State) (f : ProofGen → ProofGen) : (s.modProof f).galleys = s.galleys := rfl
@[simp] theorem State.modProof_engine (s : State) (f : ProofGen → ProofGen) : (s.modProof f).engine = s.engine := rfl
@[simp] theorem State.modProof_dict (s : State) (f : ProofGen → ProofGen) : (s.modProof f).dict = s.dict := rfl
@[simp] theorem State.modProof_store (s : State) (f : ProofGen → ProofGen) : (s.modProof f).store = s.store := rfl
@[simp] theorem State.modProof_photo (s : State) (f : ProofGen → ProofGen) : (s.modProof f).photo = s.photo := rfl
@[simp] theorem State.modProof_exposure (s : State) (f : ProofGen → ProofGen) : (s.modProof f).exposure = s.exposure := rfl
@[simp] theorem State.modProof_film (s : State) (f : ProofGen → ProofGen) : (s.modProof f).film = s.film := rfl
@[simp] theorem State.modProof_proof (s : State) (f : ProofGen → ProofGen) : (s.modProof f).proof = f s.proof := rfl
@[simp] theorem State.modProof_channels (s : State) (f : ProofGen → ProofGen) : (s.modProof f).channels = s.channels := rfl
@[simp] theorem State.modProof_attn (s : State) (f : ProofGen → ProofGen) : (s.modProof f).attn = s.attn := rfl
@[simp] theorem State.modProof_attnEn (s : State) (f : ProofGen → ProofGen) : (s.modProof f).attnEn = s.attnEn := rfl
@[simp] theorem State.modProof_config (s : State) (f : ProofGen → ProofGen) : (s.modProof f).config = s.config := rfl
@[simp] theorem State.modProof_sensors (s : State) (f : ProofGen → ProofGen) : (s.modProof f).sensors = s.sensors := rfl
@[simp] theorem State.modProof_drives (s : State) (f : ProofGen → ProofGen) : (s.modProof f).drives = s.drives := rfl
@[simp] theorem State.modProof_pulses (s : State) (f : ProofGen → ProofGen) : (s.modProof f).pulses = s.pulses := rfl
@[simp] theorem State.modProof_readData (s : State) (f : ProofGen → ProofGen) : (s.modProof f).readData = s.readData := rfl
@[simp] theorem State.modProof_free (s : State) (f : ProofGen → ProofGen) : (s.modProof f).free = s.free := rfl
@[simp] theorem State.modProof_pending (s : State) (f : ProofGen → ProofGen) : (s.modProof f).pending = s.pending := rfl

/-! ### modConfig -/

@[simp] theorem State.modConfig_fonts (s : State) (f : ConfigSpace → ConfigSpace) : (s.modConfig f).fonts = s.fonts := rfl
@[simp] theorem State.modConfig_galleys (s : State) (f : ConfigSpace → ConfigSpace) : (s.modConfig f).galleys = s.galleys := rfl
@[simp] theorem State.modConfig_engine (s : State) (f : ConfigSpace → ConfigSpace) : (s.modConfig f).engine = s.engine := rfl
@[simp] theorem State.modConfig_dict (s : State) (f : ConfigSpace → ConfigSpace) : (s.modConfig f).dict = s.dict := rfl
@[simp] theorem State.modConfig_store (s : State) (f : ConfigSpace → ConfigSpace) : (s.modConfig f).store = s.store := rfl
@[simp] theorem State.modConfig_photo (s : State) (f : ConfigSpace → ConfigSpace) : (s.modConfig f).photo = s.photo := rfl
@[simp] theorem State.modConfig_exposure (s : State) (f : ConfigSpace → ConfigSpace) : (s.modConfig f).exposure = s.exposure := rfl
@[simp] theorem State.modConfig_film (s : State) (f : ConfigSpace → ConfigSpace) : (s.modConfig f).film = s.film := rfl
@[simp] theorem State.modConfig_proof (s : State) (f : ConfigSpace → ConfigSpace) : (s.modConfig f).proof = s.proof := rfl
@[simp] theorem State.modConfig_channels (s : State) (f : ConfigSpace → ConfigSpace) : (s.modConfig f).channels = s.channels := rfl
@[simp] theorem State.modConfig_attn (s : State) (f : ConfigSpace → ConfigSpace) : (s.modConfig f).attn = s.attn := rfl
@[simp] theorem State.modConfig_attnEn (s : State) (f : ConfigSpace → ConfigSpace) : (s.modConfig f).attnEn = s.attnEn := rfl
@[simp] theorem State.modConfig_config (s : State) (f : ConfigSpace → ConfigSpace) : (s.modConfig f).config = f s.config := rfl
@[simp] theorem State.modConfig_sensors (s : State) (f : ConfigSpace → ConfigSpace) : (s.modConfig f).sensors = s.sensors := rfl
@[simp] theorem State.modConfig_drives (s : State) (f : ConfigSpace → ConfigSpace) : (s.modConfig f).drives = s.drives := rfl
@[simp] theorem State.modConfig_pulses (s : State) (f : ConfigSpace → ConfigSpace) : (s.modConfig f).pulses = s.pulses := rfl
@[simp] theorem State.modConfig_readData (s : State) (f : ConfigSpace → ConfigSpace) : (s.modConfig f).readData = s.readData := rfl
@[simp] theorem State.modConfig_free (s : State) (f : ConfigSpace → ConfigSpace) : (s.modConfig f).free = s.free := rfl
@[simp] theorem State.modConfig_pending (s : State) (f : ConfigSpace → ConfigSpace) : (s.modConfig f).pending = s.pending := rfl

/-! ### modSensors -/

@[simp] theorem State.modSensors_fonts (s : State) (f : Sensors → Sensors) : (s.modSensors f).fonts = s.fonts := rfl
@[simp] theorem State.modSensors_galleys (s : State) (f : Sensors → Sensors) : (s.modSensors f).galleys = s.galleys := rfl
@[simp] theorem State.modSensors_engine (s : State) (f : Sensors → Sensors) : (s.modSensors f).engine = s.engine := rfl
@[simp] theorem State.modSensors_dict (s : State) (f : Sensors → Sensors) : (s.modSensors f).dict = s.dict := rfl
@[simp] theorem State.modSensors_store (s : State) (f : Sensors → Sensors) : (s.modSensors f).store = s.store := rfl
@[simp] theorem State.modSensors_photo (s : State) (f : Sensors → Sensors) : (s.modSensors f).photo = s.photo := rfl
@[simp] theorem State.modSensors_exposure (s : State) (f : Sensors → Sensors) : (s.modSensors f).exposure = s.exposure := rfl
@[simp] theorem State.modSensors_film (s : State) (f : Sensors → Sensors) : (s.modSensors f).film = s.film := rfl
@[simp] theorem State.modSensors_proof (s : State) (f : Sensors → Sensors) : (s.modSensors f).proof = s.proof := rfl
@[simp] theorem State.modSensors_channels (s : State) (f : Sensors → Sensors) : (s.modSensors f).channels = s.channels := rfl
@[simp] theorem State.modSensors_attn (s : State) (f : Sensors → Sensors) : (s.modSensors f).attn = s.attn := rfl
@[simp] theorem State.modSensors_attnEn (s : State) (f : Sensors → Sensors) : (s.modSensors f).attnEn = s.attnEn := rfl
@[simp] theorem State.modSensors_config (s : State) (f : Sensors → Sensors) : (s.modSensors f).config = s.config := rfl
@[simp] theorem State.modSensors_sensors (s : State) (f : Sensors → Sensors) : (s.modSensors f).sensors = f s.sensors := rfl
@[simp] theorem State.modSensors_drives (s : State) (f : Sensors → Sensors) : (s.modSensors f).drives = s.drives := rfl
@[simp] theorem State.modSensors_pulses (s : State) (f : Sensors → Sensors) : (s.modSensors f).pulses = s.pulses := rfl
@[simp] theorem State.modSensors_readData (s : State) (f : Sensors → Sensors) : (s.modSensors f).readData = s.readData := rfl
@[simp] theorem State.modSensors_free (s : State) (f : Sensors → Sensors) : (s.modSensors f).free = s.free := rfl
@[simp] theorem State.modSensors_pending (s : State) (f : Sensors → Sensors) : (s.modSensors f).pending = s.pending := rfl

/-! ### modDrives -/

@[simp] theorem State.modDrives_fonts (s : State) (f : Drives → Drives) : (s.modDrives f).fonts = s.fonts := rfl
@[simp] theorem State.modDrives_galleys (s : State) (f : Drives → Drives) : (s.modDrives f).galleys = s.galleys := rfl
@[simp] theorem State.modDrives_engine (s : State) (f : Drives → Drives) : (s.modDrives f).engine = s.engine := rfl
@[simp] theorem State.modDrives_dict (s : State) (f : Drives → Drives) : (s.modDrives f).dict = s.dict := rfl
@[simp] theorem State.modDrives_store (s : State) (f : Drives → Drives) : (s.modDrives f).store = s.store := rfl
@[simp] theorem State.modDrives_photo (s : State) (f : Drives → Drives) : (s.modDrives f).photo = s.photo := rfl
@[simp] theorem State.modDrives_exposure (s : State) (f : Drives → Drives) : (s.modDrives f).exposure = s.exposure := rfl
@[simp] theorem State.modDrives_film (s : State) (f : Drives → Drives) : (s.modDrives f).film = s.film := rfl
@[simp] theorem State.modDrives_proof (s : State) (f : Drives → Drives) : (s.modDrives f).proof = s.proof := rfl
@[simp] theorem State.modDrives_channels (s : State) (f : Drives → Drives) : (s.modDrives f).channels = s.channels := rfl
@[simp] theorem State.modDrives_attn (s : State) (f : Drives → Drives) : (s.modDrives f).attn = s.attn := rfl
@[simp] theorem State.modDrives_attnEn (s : State) (f : Drives → Drives) : (s.modDrives f).attnEn = s.attnEn := rfl
@[simp] theorem State.modDrives_config (s : State) (f : Drives → Drives) : (s.modDrives f).config = s.config := rfl
@[simp] theorem State.modDrives_sensors (s : State) (f : Drives → Drives) : (s.modDrives f).sensors = s.sensors := rfl
@[simp] theorem State.modDrives_drives (s : State) (f : Drives → Drives) : (s.modDrives f).drives = f s.drives := rfl
@[simp] theorem State.modDrives_pulses (s : State) (f : Drives → Drives) : (s.modDrives f).pulses = s.pulses := rfl
@[simp] theorem State.modDrives_readData (s : State) (f : Drives → Drives) : (s.modDrives f).readData = s.readData := rfl
@[simp] theorem State.modDrives_free (s : State) (f : Drives → Drives) : (s.modDrives f).free = s.free := rfl
@[simp] theorem State.modDrives_pending (s : State) (f : Drives → Drives) : (s.modDrives f).pending = s.pending := rfl

/-! ### pulse -/

@[simp] theorem State.pulse_fonts (s : State) (p : Pulse) : (s.pulse p).fonts = s.fonts := rfl
@[simp] theorem State.pulse_galleys (s : State) (p : Pulse) : (s.pulse p).galleys = s.galleys := rfl
@[simp] theorem State.pulse_engine (s : State) (p : Pulse) : (s.pulse p).engine = s.engine := rfl
@[simp] theorem State.pulse_dict (s : State) (p : Pulse) : (s.pulse p).dict = s.dict := rfl
@[simp] theorem State.pulse_store (s : State) (p : Pulse) : (s.pulse p).store = s.store := rfl
@[simp] theorem State.pulse_photo (s : State) (p : Pulse) : (s.pulse p).photo = s.photo := rfl
@[simp] theorem State.pulse_exposure (s : State) (p : Pulse) : (s.pulse p).exposure = s.exposure := rfl
@[simp] theorem State.pulse_film (s : State) (p : Pulse) : (s.pulse p).film = s.film := rfl
@[simp] theorem State.pulse_proof (s : State) (p : Pulse) : (s.pulse p).proof = s.proof := rfl
@[simp] theorem State.pulse_channels (s : State) (p : Pulse) : (s.pulse p).channels = s.channels := rfl
@[simp] theorem State.pulse_attn (s : State) (p : Pulse) : (s.pulse p).attn = s.attn := rfl
@[simp] theorem State.pulse_attnEn (s : State) (p : Pulse) : (s.pulse p).attnEn = s.attnEn := rfl
@[simp] theorem State.pulse_config (s : State) (p : Pulse) : (s.pulse p).config = s.config := rfl
@[simp] theorem State.pulse_sensors (s : State) (p : Pulse) : (s.pulse p).sensors = s.sensors := rfl
@[simp] theorem State.pulse_drives (s : State) (p : Pulse) : (s.pulse p).drives = s.drives := rfl
@[simp] theorem State.pulse_pulses (s : State) (p : Pulse) : (s.pulse p).pulses = s.pulses ++ [p] := rfl
@[simp] theorem State.pulse_readData (s : State) (p : Pulse) : (s.pulse p).readData = s.readData := rfl
@[simp] theorem State.pulse_free (s : State) (p : Pulse) : (s.pulse p).free = s.free := rfl
@[simp] theorem State.pulse_pending (s : State) (p : Pulse) : (s.pulse p).pending = s.pending := rfl

/-! ### bumpFree -/

@[simp] theorem State.bumpFree_fonts (s : State) : (s.bumpFree).fonts = s.fonts := rfl
@[simp] theorem State.bumpFree_galleys (s : State) : (s.bumpFree).galleys = s.galleys := rfl
@[simp] theorem State.bumpFree_engine (s : State) : (s.bumpFree).engine = s.engine := rfl
@[simp] theorem State.bumpFree_dict (s : State) : (s.bumpFree).dict = s.dict := rfl
@[simp] theorem State.bumpFree_store (s : State) : (s.bumpFree).store = s.store := rfl
@[simp] theorem State.bumpFree_photo (s : State) : (s.bumpFree).photo = s.photo := rfl
@[simp] theorem State.bumpFree_exposure (s : State) : (s.bumpFree).exposure = s.exposure := rfl
@[simp] theorem State.bumpFree_film (s : State) : (s.bumpFree).film = s.film := rfl
@[simp] theorem State.bumpFree_proof (s : State) : (s.bumpFree).proof = s.proof := rfl
@[simp] theorem State.bumpFree_channels (s : State) : (s.bumpFree).channels = s.channels := rfl
@[simp] theorem State.bumpFree_attn (s : State) : (s.bumpFree).attn = s.attn := rfl
@[simp] theorem State.bumpFree_attnEn (s : State) : (s.bumpFree).attnEn = s.attnEn := rfl
@[simp] theorem State.bumpFree_config (s : State) : (s.bumpFree).config = s.config := rfl
@[simp] theorem State.bumpFree_sensors (s : State) : (s.bumpFree).sensors = s.sensors := rfl
@[simp] theorem State.bumpFree_drives (s : State) : (s.bumpFree).drives = s.drives := rfl
@[simp] theorem State.bumpFree_pulses (s : State) : (s.bumpFree).pulses = s.pulses := rfl
@[simp] theorem State.bumpFree_readData (s : State) : (s.bumpFree).readData = s.readData := rfl
@[simp] theorem State.bumpFree_free (s : State) : (s.bumpFree).free = s.free + 1 := rfl
@[simp] theorem State.bumpFree_pending (s : State) : (s.bumpFree).pending = s.pending := rfl

/-! ### raise -/

@[simp] theorem State.raise_fonts (s : State) (a : Attn) : (State.raise a s).fonts = s.fonts := rfl
@[simp] theorem State.raise_galleys (s : State) (a : Attn) : (State.raise a s).galleys = s.galleys := rfl
@[simp] theorem State.raise_engine (s : State) (a : Attn) : (State.raise a s).engine = s.engine := rfl
@[simp] theorem State.raise_dict (s : State) (a : Attn) : (State.raise a s).dict = s.dict := rfl
@[simp] theorem State.raise_store (s : State) (a : Attn) : (State.raise a s).store = s.store := rfl
@[simp] theorem State.raise_photo (s : State) (a : Attn) : (State.raise a s).photo = s.photo := rfl
@[simp] theorem State.raise_exposure (s : State) (a : Attn) : (State.raise a s).exposure = s.exposure := rfl
@[simp] theorem State.raise_film (s : State) (a : Attn) : (State.raise a s).film = s.film := rfl
@[simp] theorem State.raise_proof (s : State) (a : Attn) : (State.raise a s).proof = s.proof := rfl
@[simp] theorem State.raise_channels (s : State) (a : Attn) : (State.raise a s).channels = s.channels := rfl
@[simp] theorem State.raise_attn (s : State) (a : Attn) : (State.raise a s).attn = s.attn ||| a.mask := rfl
@[simp] theorem State.raise_attnEn (s : State) (a : Attn) : (State.raise a s).attnEn = s.attnEn := rfl
@[simp] theorem State.raise_config (s : State) (a : Attn) : (State.raise a s).config = s.config := rfl
@[simp] theorem State.raise_sensors (s : State) (a : Attn) : (State.raise a s).sensors = s.sensors := rfl
@[simp] theorem State.raise_drives (s : State) (a : Attn) : (State.raise a s).drives = s.drives := rfl
@[simp] theorem State.raise_pulses (s : State) (a : Attn) : (State.raise a s).pulses = s.pulses := rfl
@[simp] theorem State.raise_readData (s : State) (a : Attn) : (State.raise a s).readData = s.readData := rfl
@[simp] theorem State.raise_free (s : State) (a : Attn) : (State.raise a s).free = s.free := rfl
@[simp] theorem State.raise_pending (s : State) (a : Attn) : (State.raise a s).pending = s.pending := rfl

/-! ### Lookup after an update of one of many -/

@[simp] theorem State.font_modFont_self (s : State) (i : FontSlot) (f : FontRecord → FontRecord) :
    (s.modFont i f).font i = f (s.font i) := by simp [State.font]

theorem State.font_modFont_ne (s : State) {i j : FontSlot} (f : FontRecord → FontRecord) (h : i ≠ j) :
    (s.modFont i f).font j = s.font j := by simp [State.font, vget_vset_ne _ _ _ _ h]

@[simp] theorem State.galley_modGalley_self (s : State) (g : GalleyId) (f : Galley → Galley) :
    (s.modGalley g f).galley g = f (s.galley g) := by simp [State.galley]

theorem State.galley_modGalley_ne (s : State) {g h : GalleyId} (f : Galley → Galley) (ne : g ≠ h) :
    (s.modGalley g f).galley h = s.galley h := by simp [State.galley, vget_vset_ne _ _ _ _ ne]

@[simp] theorem State.channel_modChannel_self (s : State) (c : ChannelId) (f : Channel → Channel) :
    (s.modChannel c f).channel c = f (s.channel c) := by simp [State.channel]

theorem State.channel_modChannel_ne (s : State) {c d : ChannelId} (f : Channel → Channel) (h : c ≠ d) :
    (s.modChannel c f).channel d = s.channel d := by simp [State.channel, vget_vset_ne _ _ _ _ h]

/-! ### modBuilder and addSticky -/

theorem State.modBuilder_eq (s : State) (g : GalleyId) (f : Builder → Builder) :
    s.modBuilder g f = s.modGalley g fun x => { x with builder := f x.builder } := rfl

theorem State.addSticky_eq (s : State) (g : GalleyId) (f : Half) :
    s.addSticky g f = s.modGalley g fun x => { x with sticky := x.sticky ||| f } := rfl

end Sys2Proof.Machine
end

