-- ==== Sys2Proof/Laws/Catalogue.lean ====
section
/-! SUPPORT. What the reports of references do (R6 to R9, R12): each touches records and channels only, and leaves every
record as `RecordAfter` says. -/

namespace Sys2Proof.Machine

/-! ### Completions -/

/-- A completion touches its channel only. -/
theorem complete_eq (ch : ChannelId) (c : Completion) (detail : Half) (bytes : List Byte) (s : State) :
    complete ch c detail bytes s = s.modChannel ch fun _ => (complete ch c detail bytes s).channel ch := by
  have same : s = s.modChannel ch fun _ => s.channel ch := by simp [State.modChannel, State.channel]
  unfold complete
  split_ifs with h
  · simp [State.modChannel, State.channel]
  · split
    · simp [State.modChannel, State.channel]
    · exact same

theorem complete_channel_ne {ch c : ChannelId} (ne : ch ≠ c) (x : Completion) (detail : Half) (bytes : List Byte)
    (s : State) : (complete ch x detail bytes s).channel c = s.channel c := by
  rw [complete_eq, State.channel_modChannel_ne _ _ ne]

@[simp] theorem finish_fonts (ch : ChannelId) (c : Completion) (n : Nat) (s : State) :
    (finish ch c n s).fonts = s.fonts := by rw [finish, complete_eq]; rfl

@[simp] theorem finish_galley (ch : ChannelId) (c : Completion) (n : Nat) (g : GalleyId) (s : State) :
    (finish ch c n s).galley g = s.galley g := by rw [finish, complete_eq]; rfl

/-- A completion of a request answers it. -/
theorem answered_complete (s : State) (ch : ChannelId) (c : Completion) (detail : Half) :
    s.answered (complete ch c detail [] s) ch c detail := by
  constructor
  · rintro r ⟨h1, h2, h3, h4⟩
    simp [complete, h1, h2, h4, State.posts, h3]
  · intro h
    simp [complete, h]

/-! ### One record examined (R9) -/

/-- The record that R9 leaves. -/
def FontRecord.examined (r : FontRecord) : FontRecord :=
  if r.state = .retiring ∧ r.lineRefs = 0 ∧ r.currentRefs = 0 ∧ r.partialRefs = 0 then FontRecord.blank
  else
    match r.state, r.amend with
    | .live, some a => if r.partialRefs = 0 then r.amended a.parts else r
    | _, _ => r

/-- R9 for one record. -/
theorem examine_font (i j : FontSlot) (s : State) :
    (examine i s).font j = if j = i then (s.font i).examined else s.font j := by
  have put : ∀ f : FontRecord → FontRecord,
      (s.modFont i f).font j = if j = i then f (s.font i) else s.font j := by
    intro f; split_ifs with h
    · rw [h, State.font_modFont_self]
    · exact State.font_modFont_ne _ _ (Ne.symm h)
  have stay : s.font j = if j = i then s.font i else s.font j := by split_ifs with h <;> simp [h]
  have fin : ∀ ch c n (u : State), (finish ch c n u).font j = u.font j := by
    intros; simp [State.font]
  unfold examine FontRecord.examined
  simp only [Bool.and_eq_true, beq_iff_eq, and_assoc]
  by_cases h : (s.font i).state = .retiring ∧ (s.font i).lineRefs = 0 ∧ (s.font i).currentRefs = 0 ∧
      (s.font i).partialRefs = 0
  · simp only [if_pos h, put]
  · simp only [if_neg h]
    cases hs : (s.font i).state <;> cases ha : (s.font i).amend <;> try exact stay
    dsimp only
    by_cases h2 : (s.font i).partialRefs = 0
    · simp only [if_pos h2, applyAmend, fin, put]
    · simp only [if_neg h2]; exact stay

/-- The second state is the first but for records and channels. -/
def RecordsOnly (s t : State) : Prop := t = { s with fonts := t.fonts, channels := t.channels }

theorem RecordsOnly.refl (s : State) : RecordsOnly s s := rfl

theorem RecordsOnly.trans {s t u : State} (h1 : RecordsOnly s t) (h2 : RecordsOnly t u) : RecordsOnly s u := by
  unfold RecordsOnly at *
  rw [h2, h1]

theorem RecordsOnly.modFont (i : FontSlot) (f : FontRecord → FontRecord) (s : State) : RecordsOnly s (s.modFont i f) := rfl

theorem RecordsOnly.foldl {f : State → FontSlot → State} (h : ∀ i s, RecordsOnly s (f s i)) (is : List FontSlot) (s : State) :
    RecordsOnly s (is.foldl f s) := by
  induction is generalizing s with
  | nil => exact .refl s
  | cons i rest ih => exact (h i s).trans (ih _)

theorem recordsOnly_finish (ch : ChannelId) (c : Completion) (n : Nat) (s : State) : RecordsOnly s (finish ch c n s) := by
  unfold RecordsOnly finish; rw [complete_eq]; rfl

/-- The examination touches records and channels only. -/
theorem recordsOnly_examine (i : FontSlot) (s : State) : RecordsOnly s (examine i s) := by
  unfold examine
  dsimp only
  split
  · exact .modFont ..
  · cases (s.font i).state <;> cases (s.font i).amend <;> try exact .refl s
    dsimp only
    split
    · exact (RecordsOnly.modFont ..).trans (recordsOnly_finish ..)
    · exact .refl s

/-! ### Reports -/

/-- Records lowered or raised in a list, each once. -/
theorem foldl_modFont_font (f : FontRecord → FontRecord) (is : List FontSlot) (once : is.Nodup) (j : FontSlot) (s : State) :
    (is.foldl (fun s i => s.modFont i f) s).font j = if j ∈ is then f (s.font j) else s.font j := by
  induction is generalizing s with
  | nil => simp
  | cons i rest ih =>
    obtain ⟨hi, hr⟩ := List.nodup_cons.mp once
    rw [List.foldl_cons, ih hr]
    by_cases h : j = i
    · subst h; simp [hi]
    · simp [h, State.font_modFont_ne _ _ (Ne.symm h)]

theorem examineAll_font (is : List FontSlot) (once : is.Nodup) (j : FontSlot) (s : State) :
    (examineAll is s).font j = if j ∈ is then (s.font j).examined else s.font j := by
  unfold examineAll
  induction is generalizing s with
  | nil => simp
  | cons i rest ih =>
    obtain ⟨hi, hr⟩ := List.nodup_cons.mp once
    rw [List.foldl_cons, ih hr, examine_font]
    by_cases h : j = i
    · subst h; simp [hi]
    · simp [h]

/-- The reports touch records and channels only. -/
theorem recordsOnly_commitReport (lines leaving : List FontSlot) (s : State) :
    RecordsOnly s (commitReport lines leaving s) :=
  ((RecordsOnly.foldl (fun i s => .modFont i _ s) lines s).trans
    (.foldl (fun i s => .modFont i _ s) leaving _)).trans (.foldl recordsOnly_examine leaving _)

theorem recordsOnly_lineGone (lines : List FontSlot) (s : State) : RecordsOnly s (lineGone lines s) :=
  (RecordsOnly.foldl (fun i s => .modFont i _ s) lines s).trans (.foldl recordsOnly_examine lines _)

theorem recordsOnly_partialGone (slots : List FontSlot) (s : State) : RecordsOnly s (partialGone slots s) :=
  (RecordsOnly.foldl (fun i s => .modFont i _ s) slots s).trans (.foldl recordsOnly_examine slots _)

/-- A record after counts that rise or fall by at most one each, and its examination where one fell. -/
theorem recordAfter_of_examined (r : FontRecord) (up line partials current : Nat) :
    RecordAfter r
      (let counted := { r with
        lineRefs := r.lineRefs + up - line, partialRefs := r.partialRefs - partials,
        currentRefs := r.currentRefs - current }
       if 0 < line + partials + current then counted.examined else counted) up line partials current := by
  unfold RecordAfter FontRecord.examined
  refine ⟨?_, ?_, ?_, ?_, ?_⟩
  · intro h; simp [h]
  · intro h
    rintro (h1 | h1 | h1)
    · simp [h, h1]
    · simp only [if_neg h1]
    · have : r.partialRefs - partials ≠ 0 := by simpa using Nat.pos_iff_ne_zero.mp h1
      cases ha : r.amend <;> simp [h, this]
  · intro a h h1 h2 h3
    have h3 : r.partialRefs - partials = 0 := h3
    simp only [if_pos h2]
    simp [h, h1, h3, FontRecord.amended]
  · intro h
    rintro (h1 | h1)
    · simp only [if_neg h1]
    · have h1 : ¬ (r.lineRefs + up - line = 0 ∧ r.currentRefs - current = 0 ∧ r.partialRefs - partials = 0) := by
        intro e; exact h1 ⟨e.1, e.2.2, e.2.1⟩
      simp only [h, h1, and_false, if_false, ite_self]
  · rintro h h1 ⟨h2, h3, h4⟩
    have h2 : r.lineRefs + up - line = 0 := h2
    have h3 : r.partialRefs - partials = 0 := h3
    have h4 : r.currentRefs - current = 0 := h4
    simp only [if_pos h1]
    simp [h, h2, h3, h4, FontRecord.blank]

/-- R6, R8, R9. Every record after a commit's report. -/
theorem recordAfter_commitReport {lines leaving : List FontSlot} (h1 : lines.Nodup) (h2 : leaving.Nodup) (s : State)
    (j : FontSlot) :
    RecordAfter (s.font j) ((commitReport lines leaving s).font j) (if j ∈ lines then 1 else 0) 0
      (if j ∈ leaving then 1 else 0) 0 := by
  unfold commitReport lowerPartial raiseLine
  rw [examineAll_font _ h2, foldl_modFont_font _ _ h2, foldl_modFont_font _ _ h1]
  have := recordAfter_of_examined (s.font j) (if j ∈ lines then 1 else 0) 0 (if j ∈ leaving then 1 else 0) 0
  convert this using 1
  by_cases a : j ∈ lines <;> by_cases b : j ∈ leaving <;> simp [a, b]

/-- R6, R9. Every record after the report of a line freed or discarded. -/
theorem recordAfter_lineGone {lines : List FontSlot} (h : lines.Nodup) (s : State) (j : FontSlot) :
    RecordAfter (s.font j) ((lineGone lines s).font j) 0 (if j ∈ lines then 1 else 0) 0 0 := by
  unfold lineGone lowerLine
  rw [examineAll_font _ h, foldl_modFont_font _ _ h]
  have := recordAfter_of_examined (s.font j) 0 (if j ∈ lines then 1 else 0) 0 0
  convert this using 1
  by_cases a : j ∈ lines <;> simp [a]

/-- R8, R9. Every record after partial references released at a cancel. -/
theorem recordAfter_partialGone {slots : List FontSlot} (h : slots.Nodup) (s : State) (j : FontSlot) :
    RecordAfter (s.font j) ((partialGone slots s).font j) 0 0 (if j ∈ slots then 1 else 0) 0 := by
  unfold partialGone lowerPartial
  rw [examineAll_font _ h, foldl_modFont_font _ _ h]
  have := recordAfter_of_examined (s.font j) 0 0 (if j ∈ slots then 1 else 0) 0
  convert this using 1
  by_cases a : j ∈ slots <;> simp [a]

end Sys2Proof.Machine
end

