-- ==== Sys2Proof/Laws/Frame.lean ====
section
/-! SUPPORT. What the operations leave alone. `State.outside` gathers the parts that only a few named operations touch:
the configuration space, the undefined attention bits, the enables, the chain registers, the queue, the read data, the
pulses on the lamp and the dictionary's entries. Every other operation keeps all of them, by one lemma each. -/

namespace Sys2Proof.Machine

/-- The parts of State that only a few operations touch. -/
def State.outside (s : State) :
    ConfigSpace × BitVec 16 × BitVec 16 × Vector Word 2 × List Instr × Word × List Pulse × Vector (List Entry) 512 :=
  (s.config, s.attn &&& ~~~attnDefined, s.attnEn, vmap (·.chain) s.channels, s.pending, s.readData,
   s.pulses.filter (· == .lamp), s.dict.chains)

/-! ### The named updates -/

@[simp] theorem outside_modFont (s : State) (i : FontSlot) (f : FontRecord → FontRecord) :
    (s.modFont i f).outside = s.outside := by
  simp only [State.outside, State.modFont_config, State.modFont_attn, State.modFont_attnEn, State.modFont_channels,
    State.modFont_pending, State.modFont_readData, State.modFont_pulses, State.modFont_dict]
@[simp] theorem outside_modGalley (s : State) (g : GalleyId) (f : Galley → Galley) :
    (s.modGalley g f).outside = s.outside := by
  simp only [State.outside, State.modGalley_config, State.modGalley_attn, State.modGalley_attnEn, State.modGalley_channels,
    State.modGalley_pending, State.modGalley_readData, State.modGalley_pulses, State.modGalley_dict]
@[simp] theorem outside_modBuilder (s : State) (g : GalleyId) (f : Builder → Builder) :
    (s.modBuilder g f).outside = s.outside := outside_modGalley s g _
@[simp] theorem outside_modEngine (s : State) (f : Engine → Engine) : (s.modEngine f).outside = s.outside := by
  simp only [State.outside, State.modEngine_config, State.modEngine_attn, State.modEngine_attnEn, State.modEngine_channels,
    State.modEngine_pending, State.modEngine_readData, State.modEngine_pulses, State.modEngine_dict]
@[simp] theorem outside_modStore (s : State) (f : Store → Store) : (s.modStore f).outside = s.outside := by
  simp only [State.outside, State.modStore_config, State.modStore_attn, State.modStore_attnEn, State.modStore_channels,
    State.modStore_pending, State.modStore_readData, State.modStore_pulses, State.modStore_dict]
@[simp] theorem outside_modPhoto (s : State) (f : Photo → Photo) : (s.modPhoto f).outside = s.outside := by
  simp only [State.outside, State.modPhoto_config, State.modPhoto_attn, State.modPhoto_attnEn, State.modPhoto_channels,
    State.modPhoto_pending, State.modPhoto_readData, State.modPhoto_pulses, State.modPhoto_dict]
@[simp] theorem outside_modExposure (s : State) (f : Exposure → Exposure) :
    (s.modExposure f).outside = s.outside := by
  simp only [State.outside, State.modExposure_config, State.modExposure_attn, State.modExposure_attnEn, State.modExposure_channels,
    State.modExposure_pending, State.modExposure_readData, State.modExposure_pulses, State.modExposure_dict]
@[simp] theorem outside_modFilm (s : State) (f : Film → Film) : (s.modFilm f).outside = s.outside := by
  simp only [State.outside, State.modFilm_config, State.modFilm_attn, State.modFilm_attnEn, State.modFilm_channels,
    State.modFilm_pending, State.modFilm_readData, State.modFilm_pulses, State.modFilm_dict]
@[simp] theorem outside_modProof (s : State) (f : ProofGen → ProofGen) : (s.modProof f).outside = s.outside := by
  simp only [State.outside, State.modProof_config, State.modProof_attn, State.modProof_attnEn, State.modProof_channels,
    State.modProof_pending, State.modProof_readData, State.modProof_pulses, State.modProof_dict]
@[simp] theorem outside_modSensors (s : State) (f : Sensors → Sensors) : (s.modSensors f).outside = s.outside := by
  simp only [State.outside, State.modSensors_config, State.modSensors_attn, State.modSensors_attnEn, State.modSensors_channels,
    State.modSensors_pending, State.modSensors_readData, State.modSensors_pulses, State.modSensors_dict]
@[simp] theorem outside_modDrives (s : State) (f : Drives → Drives) : (s.modDrives f).outside = s.outside := by
  simp only [State.outside, State.modDrives_config, State.modDrives_attn, State.modDrives_attnEn, State.modDrives_channels,
    State.modDrives_pending, State.modDrives_readData, State.modDrives_pulses, State.modDrives_dict]
@[simp] theorem outside_bumpFree (s : State) : s.bumpFree.outside = s.outside := by
  simp only [State.outside, State.bumpFree_config, State.bumpFree_attn, State.bumpFree_attnEn, State.bumpFree_channels,
    State.bumpFree_pending, State.bumpFree_readData, State.bumpFree_pulses, State.bumpFree_dict]
@[simp] theorem outside_addSticky (s : State) (g : GalleyId) (f : Half) : (s.addSticky g f).outside = s.outside := outside_modGalley s g _
@[simp] theorem outside_verifyAt (q : Station) (code : BitVec 4) (s : State) :
    (verifyAt q code s).outside = s.outside := by
  simp only [State.outside, verifyAt]
@[simp] theorem outside_unverifyAll (s : State) : (unverifyAll s).outside = s.outside := by
  simp only [State.outside, unverifyAll]

/-- A channel update that keeps the chain register. -/
@[simp] theorem outside_modChannel (s : State) (c : ChannelId) (f : Channel → Channel)
    (h : ∀ k, (f k).chain = k.chain) : (s.modChannel c f).outside = s.outside := by
  have e : vmap (·.chain) (s.modChannel c f).channels = vmap (·.chain) s.channels := by
    apply Vector.ext
    intro i hi
    have := vget_vset s.channels c ⟨i, hi⟩ (f (s.channel c))
    simp only [vget] at this
    simp only [vmap, Vector.getElem_ofFn, State.modChannel_channels, this]
    split
    · next q => subst q; rw [h]; rfl
    · rfl
  simp only [State.outside, e, State.modChannel_config, State.modChannel_attn, State.modChannel_attnEn,
    State.modChannel_pending, State.modChannel_readData, State.modChannel_pulses, State.modChannel_dict]

/-- A dictionary update that keeps the entries. -/
@[simp] theorem outside_modDict (s : State) (f : Dictionary → Dictionary) (h : ∀ d, (f d).chains = d.chains) :
    (s.modDict f).outside = s.outside := by
  simp only [State.outside, State.modDict_dict, h, State.modDict_config, State.modDict_attn, State.modDict_attnEn,
    State.modDict_channels, State.modDict_pending, State.modDict_readData, State.modDict_pulses]

/-- A pulse on another line than the lamp's. -/
@[simp] theorem outside_pulse (s : State) (p : Pulse) (h : p ≠ .lamp) : (s.pulse p).outside = s.outside := by
  simp [State.outside, h]

/-- Every attention flag is a defined bit. -/
theorem Attn.mask_defined (a : Attn) : a.mask &&& ~~~attnDefined = 0#16 := by
  match a with
  | .channel c => revert c; decide
  | .expHold | .proofHold | .filmLow | .sensor | .configReject => decide
  | .galleyClosed g => revert g; decide

@[simp] theorem outside_raise (s : State) (a : Attn) : (s.raise a).outside = s.outside := by
  have e : (s.attn ||| a.mask) &&& ~~~attnDefined = s.attn &&& ~~~attnDefined := by
    have := a.mask_defined
    rw [show (s.attn ||| a.mask) &&& ~~~attnDefined = s.attn &&& ~~~attnDefined ||| a.mask &&& ~~~attnDefined by
      ext i; simp; grind]
    simp [this]
  simp only [State.outside, State.raise_attn, e, State.raise_config, State.raise_attnEn, State.raise_channels,
    State.raise_pending, State.raise_readData, State.raise_pulses, State.raise_dict]

/-! ### The operations -/

/-! #### Ops -/

@[simp] theorem outside_setConditioned (bit : Nat) (level : Bool) (s : State) :
    (State.setConditioned bit level s).outside = s.outside := by
  simp [State.setConditioned]

@[simp] theorem outside_complete (ch : ChannelId) (c : Completion) (detail : Half) (reply : List Byte) (s : State) :
    (complete ch c detail reply s).outside = s.outside := by
  unfold complete; (repeat' split) <;> simp

@[simp] theorem outside_completeUnstated (ch : ChannelId) (c : Completion) (s : State) :
    (completeUnstated ch c s).outside = s.outside := by
  simp [completeUnstated]

@[simp] theorem outside_refuse (ch : ChannelId) (c : Completion) (s : State) :
    (refuse ch c s).outside = s.outside := by
  simp [refuse]

@[simp] theorem outside_finish (ch : ChannelId) (c : Completion) (detail : Nat) (s : State) :
    (finish ch c detail s).outside = s.outside := by
  simp [finish]

@[simp] theorem outside_reply (ch : ChannelId) (detail : Nat) (bytes : List Byte) (s : State) :
    (reply ch detail bytes s).outside = s.outside := by
  simp [reply]

/-! #### Catalogue -/

@[simp] theorem outside_applyAmend (i : FontSlot) (p : AmendParts) (clamped : Bool) (ch : ChannelId) (s : State) :
    (applyAmend i p clamped ch s).outside = s.outside := by
  simp [applyAmend]

@[simp] theorem outside_examine (i : FontSlot) (s : State) :
    (examine i s).outside = s.outside := by
  unfold examine; dsimp only; (repeat' split) <;> simp

@[simp] theorem outside_examineAll (is : List FontSlot) (s : State) :
    (examineAll is s).outside = s.outside := by
  unfold examineAll; induction is generalizing s with
  | nil => rfl
  | cons i is ih => simp [ih]

@[simp] theorem outside_raiseLine (is : List FontSlot) (s : State) :
    (raiseLine is s).outside = s.outside := by
  unfold raiseLine; induction is generalizing s with
  | nil => rfl
  | cons i is ih => simp [ih]

@[simp] theorem outside_lowerLine (is : List FontSlot) (s : State) :
    (lowerLine is s).outside = s.outside := by
  unfold lowerLine; induction is generalizing s with
  | nil => rfl
  | cons i is ih => simp [ih]

@[simp] theorem outside_lowerPartial (is : List FontSlot) (s : State) :
    (lowerPartial is s).outside = s.outside := by
  unfold lowerPartial; induction is generalizing s with
  | nil => rfl
  | cons i is ih => simp [ih]

@[simp] theorem outside_raisePartial (i : FontSlot) (s : State) :
    (raisePartial i s).outside = s.outside := by
  simp [raisePartial]

@[simp] theorem outside_raiseCurrent (i : FontSlot) (s : State) :
    (raiseCurrent i s).outside = s.outside := by
  simp [raiseCurrent]

@[simp] theorem outside_lowerCurrent (i : FontSlot) (s : State) :
    (lowerCurrent i s).outside = s.outside := by
  simp [lowerCurrent]

@[simp] theorem outside_commitReport (lines leaving : List FontSlot) (s : State) :
    (commitReport lines leaving s).outside = s.outside := by
  simp [commitReport]

@[simp] theorem outside_lineGone (lines : List FontSlot) (s : State) :
    (lineGone lines s).outside = s.outside := by
  simp [lineGone]

@[simp] theorem outside_partialGone (slots : List FontSlot) (s : State) :
    (partialGone slots s).outside = s.outside := by
  simp [partialGone]

@[simp] theorem outside_currentGone (i : FontSlot) (s : State) :
    (currentGone i s).outside = s.outside := by
  simp [currentGone]

@[simp] theorem outside_takeLoadFont (ch : ChannelId) (b : Block) (s : State) :
    (takeLoadFont ch b s).outside = s.outside := by
  unfold takeLoadFont; dsimp only; (repeat' split) <;> simp

@[simp] theorem outside_takeAmendFont (ch : ChannelId) (b : Block) (s : State) :
    (takeAmendFont ch b s).outside = s.outside := by
  unfold takeAmendFont; dsimp only; (repeat' split) <;> simp

@[simp] theorem outside_takePlaceFont (ch : ChannelId) (b : Block) (s : State) :
    (takePlaceFont ch b s).1.outside = s.outside := by
  unfold takePlaceFont; (repeat' split) <;> simp

@[simp] theorem outside_takeRetireFont (ch : ChannelId) (b : Block) (s : State) :
    (takeRetireFont ch b s).outside = s.outside := by
  unfold takeRetireFont; dsimp only; (repeat' split) <;> simp

@[simp] theorem outside_takeQueryFont (ch : ChannelId) (b : Block) (s : State) :
    (takeQueryFont ch b s).outside = s.outside := by
  unfold takeQueryFont; (repeat' split) <;> simp

@[simp] theorem outside_resetFont (s : State) (i : FontSlot) :
    (resetFont s i).outside = s.outside := by
  simp [resetFont]

@[simp] theorem outside_catalogueReset (s : State) :
    (catalogueReset s).outside = s.outside := by
  unfold catalogueReset; generalize List.finRange 32 = l; induction l generalizing s with
  | nil => rfl
  | cons i is ih => simp [ih]

/-! #### Store -/

@[simp] theorem outside_putLine (i : LineSlot) (r : LineRecord) (s : State) :
    (putLine i r s).outside = s.outside := by
  simp [putLine]

@[simp] theorem outside_modLine (i : LineSlot) (f : LineRecord → LineRecord) (s : State) :
    (modLine i f s).outside = s.outside := by
  simp [modLine]

@[simp] theorem outside_dropLine (i : LineSlot) (g : GalleyId) (s : State) :
    (dropLine i g s).outside = s.outside := by
  simp [dropLine]

@[simp] theorem outside_joinQueues (g : GalleyId) (m : OutputMode) (s : State) :
    (joinQueues g m s).outside = s.outside := by
  simp [joinQueues]

@[simp] theorem outside_setFilmFigures (s : State) :
    (setFilmFigures s).outside = s.outside := by
  simp [setFilmFigures]

@[simp] theorem outside_assignFilm (g : GalleyId) (s : State) :
    (assignFilm g s).outside = s.outside := by
  unfold assignFilm; dsimp only; (repeat' split) <;> simp

@[simp] theorem outside_assignPaper (g : GalleyId) (s : State) :
    (assignPaper g s).outside = s.outside := by
  simp [assignPaper]

theorem outside_tryAssign {s t : State} (h : tryAssign s = some t) :
    t.outside = s.outside := by
  unfold tryAssign at h
  split at h
  · cases h; split <;> simp
  · obtain ⟨g, -, rfl⟩ := Option.map_eq_some_iff.1 h; simp

@[simp] theorem outside_freeIfDone (i : LineSlot) (s : State) :
    (freeIfDone i s).outside = s.outside := by
  unfold freeIfDone; (repeat' split) <;> simp

@[simp] theorem outside_filmDone (i : LineSlot) (s : State) :
    (filmDone i s).outside = s.outside := by
  simp [filmDone]

@[simp] theorem outside_proofDone (i : LineSlot) (s : State) :
    (proofDone i s).outside = s.outside := by
  simp [proofDone]

@[simp] theorem outside_discardLine (i : LineSlot) (s : State) :
    (discardLine i s).1.outside = s.outside := by
  unfold discardLine; dsimp only; (repeat' split) <;> simp

@[simp] theorem outside_discardLines (is : List LineSlot) (s : State) :
    (discardLines is s).1.outside = s.outside := by
  induction is generalizing s with
  | nil => rfl
  | cons i is ih => simp [discardLines, ih]

@[simp] theorem outside_leaveQueues (g : GalleyId) (s : State) :
    (leaveQueues g s).outside = s.outside := by
  simp [leaveQueues]

@[simp] theorem outside_releaseResources (g : GalleyId) (s : State) :
    (releaseResources g s).outside = s.outside := by
  simp [releaseResources]

@[simp] theorem outside_giveUpFont (g : GalleyId) (s : State) :
    (giveUpFont g s).outside = s.outside := by
  unfold giveUpFont; (repeat' split) <;> simp

@[simp] theorem outside_closeGalley (g : GalleyId) (s : State) :
    (closeGalley g s).outside = s.outside := by
  simp [closeGalley]

theorem outside_tryClose {s t : State} (h : tryClose s = some t) :
    t.outside = s.outside := by
  unfold tryClose at h
  obtain ⟨g, -, rfl⟩ := Option.map_eq_some_iff.1 h; simp

@[simp] theorem outside_storeReset (s : State) :
    (storeReset s).outside = s.outside := by
  simp [storeReset]

/-! #### Photo -/

@[simp] theorem outside_advanceCount (n : Nat) (s : State) :
    (advanceCount n s).outside = s.outside := by
  simp [advanceCount]

@[simp] theorem outside_startLockWatch (s : State) :
    (startLockWatch s).outside = s.outside := by
  simp [startLockWatch]

@[simp] theorem outside_loseLock (s : State) :
    (loseLock s).outside = s.outside := by
  unfold loseLock; (repeat' split) <;> simp

@[simp] theorem outside_lockTest (clean : Bool) (s : State) :
    (lockTest clean s).outside = s.outside := by
  unfold lockTest; (repeat' split) <;> simp

@[simp] theorem outside_indexPulse (s : State) :
    (indexPulse s).outside = s.outside := by
  simp [indexPulse]

@[simp] theorem outside_turretMoveStart (s : State) :
    (turretMoveStart s).outside = s.outside := by
  simp [turretMoveStart]

@[simp] theorem outside_slotArrival (g : Nat) (s : State) :
    (slotArrival g s).outside = s.outside := by
  unfold slotArrival; (repeat' split) <;> simp

@[simp] theorem outside_slotPulse (s : State) :
    (slotPulse s).outside = s.outside := by
  unfold slotPulse; dsimp only; (repeat' split) <;> simp

@[simp] theorem outside_withdrawFlash (s : State) :
    (withdrawFlash s).outside = s.outside := by
  simp [withdrawFlash]

@[simp] theorem outside_armFlash (q : FlashRequest) (s : State) :
    (armFlash q s).outside = s.outside := by
  simp [armFlash]

@[simp] theorem outside_driveTurret (q : Station) (r : Requester) (s : State) :
    (driveTurret q r s).outside = s.outside := by
  simp [driveTurret]

@[simp] theorem outside_latchHere (q : Station) (s : State) :
    (latchHere q s).outside = s.outside := by
  simp [latchHere]

@[simp] theorem outside_turretArrives (q : Station) (code : BitVec 4) (s : State) :
    (turretArrives q code s).outside = s.outside := by
  simp [turretArrives]

@[simp] theorem outside_driveLens (p : LensPos) (s : State) :
    (driveLens p s).outside = s.outside := by
  simp [driveLens]

@[simp] theorem outside_commandCarriage (x : Nat) (s : State) :
    (commandCarriage x s).outside = s.outside := by
  unfold commandCarriage; dsimp only; (repeat' split) <;> simp

@[simp] theorem outside_endHoming (target : Option Nat) (s : State) :
    (endHoming target s).outside = s.outside := by
  unfold endHoming; (repeat' split) <;> simp

@[simp] theorem outside_pulseCarriage (forward : Bool) (s : State) :
    (pulseCarriage forward s).outside = s.outside := by
  simp [pulseCarriage]

@[simp] theorem outside_stepCarriage (s : State) :
    (stepCarriage s).outside = s.outside := by
  unfold stepCarriage; dsimp only; (repeat' split) <;> simp

@[simp] theorem outside_setShutter (t : Track) (s : State) :
    (setShutter t s).outside = s.outside := by
  simp [setShutter]

@[simp] theorem outside_setVerify (v : Option VerifyRun) (s : State) :
    (setVerify v s).outside = s.outside := by
  simp [setVerify]

@[simp] theorem outside_visit (ch : ChannelId) (qs : List Station) (m n : BitVec 4) (s : State) :
    (visit ch qs m n s).outside = s.outside := by
  induction qs generalizing m n s with
  | nil => simp [visit]
  | cons q qs ih => unfold visit; split <;> simp [ih]

@[simp] theorem outside_visitEnds (reached : Bool) (s : State) :
    (visitEnds reached s).outside = s.outside := by
  unfold visitEnds; (repeat' split) <;> simp

@[simp] theorem outside_takeQueryPhoto (ch : ChannelId) (s : State) :
    (takeQueryPhoto ch s).outside = s.outside := by
  simp [takeQueryPhoto]

@[simp] theorem outside_photoReset (s : State) :
    (photoReset s).outside = s.outside := by
  simp [photoReset]

/-! #### Exposure -/

@[simp] theorem outside_setWork (w : ExposureWork) (s : State) :
    (setWork w s).outside = s.outside := by
  simp [setWork]

@[simp] theorem outside_setStep (l : LineWork) (st : LineStep) (s : State) :
    (setStep l st s).outside = s.outside := by
  simp [setStep]

@[simp] theorem outside_stopFilm (s : State) :
    (stopFilm s).outside = s.outside := by
  simp [stopFilm]

@[simp] theorem outside_takeHold (r : HoldReason) (s : State) :
    (takeHold r s).outside = s.outside := by
  unfold takeHold; (repeat' split) <;> simp

@[simp] theorem outside_judgeLow (s : State) :
    (judgeLow s).outside = s.outside := by
  unfold judgeLow; (repeat' split) <;> simp

@[simp] theorem outside_startFilm (forward : Bool) (n : Nat) (s : State) :
    (startFilm forward n s).outside = s.outside := by
  simp [startFilm]

@[simp] theorem outside_moveFilm (m : FilmMove) (s : State) :
    (moveFilm m s).outside = s.outside := by
  unfold moveFilm; dsimp only; (repeat' split) <;> simp

@[simp] theorem outside_lineDone (l : LineWork) (s : State) :
    (lineDone l s).outside = s.outside := by
  simp [lineDone]

@[simp] theorem outside_shutterStep (l : LineWork) (g : SetGlyph) (s : State) :
    (shutterStep l g s).outside = s.outside := by
  unfold shutterStep; (repeat' split) <;> simp

@[simp] theorem outside_carriageStep (l : LineWork) (g : SetGlyph) (s : State) :
    (carriageStep l g s).outside = s.outside := by
  unfold carriageStep; dsimp only; (repeat' split) <;> simp

@[simp] theorem outside_lensStep (l : LineWork) (g : SetGlyph) (s : State) :
    (lensStep l g s).outside = s.outside := by
  unfold lensStep; dsimp only; (repeat' split) <;> simp

@[simp] theorem outside_turretStep (l : LineWork) (g : SetGlyph) (p : Placement) (s : State) :
    (turretStep l g p s).outside = s.outside := by
  unfold turretStep; dsimp only; (repeat' split) <;> simp

@[simp] theorem outside_decidePlaced (l : LineWork) (g : SetGlyph) (p : Placement) (s : State) :
    (decidePlaced l g p s).outside = s.outside := by
  unfold decidePlaced; (repeat' split) <;> simp

@[simp] theorem outside_glyphDecision (l : LineWork) (g : SetGlyph) (s : State) :
    (glyphDecision l g s).outside = s.outside := by
  unfold glyphDecision; dsimp only; (repeat' split) <;> simp

@[simp] theorem outside_nextGlyph (l : LineWork) (s : State) :
    (nextGlyph l s).outside = s.outside := by
  unfold nextGlyph; (repeat' split) <;> simp

@[simp] theorem outside_beginAdvance (l : LineWork) (forward : Bool) (n : Nat) (s : State) :
    (beginAdvance l forward n s).outside = s.outside := by
  unfold beginAdvance; dsimp only; (repeat' split) <;> simp

@[simp] theorem outside_takeLine (i : LineSlot) (r : LineRecord) (s : State) :
    (takeLine i r s).outside = s.outside := by
  simp [takeLine]

theorem outside_tryTakeLine {s t : State} (h : tryTakeLine s = some t) :
    t.outside = s.outside := by
  unfold tryTakeLine at h
  split at h
  · obtain ⟨i, -, h⟩ := Option.bind_eq_some_iff.1 h
    obtain ⟨r, -, rfl⟩ := Option.map_eq_some_iff.1 h; simp
  · cases h

@[simp] theorem outside_applyDeferred (s : State) :
    (applyDeferred s).outside = s.outside := by
  unfold applyDeferred; dsimp only; (repeat' split) <;> simp

@[simp] theorem outside_startCut (work : CutPhase → ExposureWork) (s : State) :
    (startCut work s).outside = s.outside := by
  unfold startCut; (repeat' split) <;> simp

@[simp] theorem outside_beginGap (target : Nat) (s : State) :
    (beginGap target s).outside = s.outside := by
  unfold beginGap; dsimp only; (repeat' split) <;> simp

theorem outside_tryFilmEnd {s t : State} (h : tryFilmEnd s = some t) :
    t.outside = s.outside := by
  unfold tryFilmEnd at h
  split at h
  · obtain ⟨g, -, rfl⟩ := Option.map_eq_some_iff.1 h; simp
  · cases h

@[simp] theorem outside_endFreeMove (ch : ChannelId) (c : Completion) (detail : Nat) (s : State) :
    (endFreeMove ch c detail s).outside = s.outside := by
  simp [endFreeMove]

@[simp] theorem outside_filmMoveDone (s : State) :
    (filmMoveDone s).outside = s.outside := by
  unfold filmMoveDone; (repeat' split) <;> simp

@[simp] theorem outside_noteRemaining (m : FilmMove) (s : State) :
    (noteRemaining m s).outside = s.outside := by
  unfold noteRemaining; (repeat' split) <;> simp

@[simp] theorem outside_stepFilm (s : State) :
    (stepFilm s).outside = s.outside := by
  unfold stepFilm; (repeat' split) <;> simp

@[simp] theorem outside_cutterFell (s : State) :
    (cutterFell s).outside = s.outside := by
  unfold cutterFell; (repeat' split) <;> simp

@[simp] theorem outside_setGalleyStart (s : State) :
    (setGalleyStart s).outside = s.outside := by
  simp [setGalleyStart]

@[simp] theorem outside_cutterRose (s : State) :
    (cutterRose s).outside = s.outside := by
  unfold cutterRose; (repeat' split) <;> simp

@[simp] theorem outside_cutTimedOut (s : State) :
    (cutTimedOut s).outside = s.outside := by
  unfold cutTimedOut; dsimp only; (repeat' split) <;> simp

@[simp] theorem outside_turretReached (l : LineWork) (g : SetGlyph) (s : State) :
    (turretReached l g s).outside = s.outside := by
  unfold turretReached; (repeat' split) <;> simp

@[simp] theorem outside_turretReport (correct : Bool) (s : State) :
    (turretReport correct s).outside = s.outside := by
  unfold turretReport; (repeat' split) <;> simp

@[simp] theorem outside_lensReport (arrived : Bool) (s : State) :
    (lensReport arrived s).outside = s.outside := by
  unfold lensReport; (repeat' split) <;> simp

@[simp] theorem outside_carriageReport (s : State) :
    (carriageReport s).outside = s.outside := by
  unfold carriageReport; (repeat' split) <;> simp

@[simp] theorem outside_stationLost (s : State) :
    (stationLost s).outside = s.outside := by
  unfold stationLost; (repeat' split) <;> simp

@[simp] theorem outside_lensLost (s : State) :
    (lensLost s).outside = s.outside := by
  unfold lensLost; (repeat' split) <;> simp

@[simp] theorem outside_discFault (s : State) :
    (discFault s).outside = s.outside := by
  unfold discFault; (repeat' split) <;> simp

@[simp] theorem outside_placementChanged (i : FontSlot) (s : State) :
    (placementChanged i s).outside = s.outside := by
  unfold placementChanged; (repeat' split) <;> simp

@[simp] theorem outside_flashReport (s : State) :
    (flashReport s).outside = s.outside := by
  unfold flashReport; dsimp only; (repeat' split) <;> simp

@[simp] theorem outside_lidFell (s : State) :
    (lidFell s).outside = s.outside := by
  unfold lidFell; dsimp only; (repeat' split) <;> simp

@[simp] theorem outside_cassetteFell (s : State) :
    (cassetteFell s).outside = s.outside := by
  unfold cassetteFell; dsimp only; (repeat' split) <;> simp

@[simp] theorem outside_loadCassette (inches : Nat) (s : State) :
    (loadCassette inches s).outside = s.outside := by
  unfold loadCassette; dsimp only; (repeat' split) <;> simp

@[simp] theorem outside_takeLoadCassette (ch : ChannelId) (b : Block) (s : State) :
    (takeLoadCassette ch b s).outside = s.outside := by
  unfold takeLoadCassette; (repeat' split) <;> simp

@[simp] theorem outside_retryTurret (l : LineWork) (g : SetGlyph) (s : State) :
    (retryTurret l g s).outside = s.outside := by
  unfold retryTurret; (repeat' split) <;> simp

@[simp] theorem outside_retryLens (l : LineWork) (g : SetGlyph) (s : State) :
    (retryLens l g s).outside = s.outside := by
  unfold retryLens; (repeat' split) <;> simp

/-- The checks of a retry keep what the retry itself keeps. -/
theorem outside_retryPositioning {k : State → State} (keep : ∀ s, (k s).outside = s.outside) (s : State) :
    (retryPositioning k s).outside = s.outside := by
  unfold retryPositioning; (repeat' split) <;> simp [keep]

@[simp] theorem outside_retryStep (s : State) :
    (retryStep s).outside = s.outside := by
  unfold retryStep; (repeat' split) <;> simp [outside_retryPositioning]

@[simp] theorem outside_retry (r : HoldReason) (s : State) :
    (retry r s).outside = s.outside := by
  unfold retry; (repeat' split) <;> simp

@[simp] theorem outside_takeResume (ch : ChannelId) (s : State) :
    (takeResume ch s).outside = s.outside := by
  unfold takeResume; (repeat' split) <;> simp

@[simp] theorem outside_takeAdvanceFilm (ch : ChannelId) (b : Block) (s : State) :
    (takeAdvanceFilm ch b s).outside = s.outside := by
  unfold takeAdvanceFilm; dsimp only; (repeat' split) <;> simp

@[simp] theorem outside_takeCutFilm (ch : ChannelId) (s : State) :
    (takeCutFilm ch s).outside = s.outside := by
  unfold takeCutFilm; (repeat' split) <;> simp

@[simp] theorem outside_takeQueryExposure (ch : ChannelId) (s : State) :
    (takeQueryExposure ch s).outside = s.outside := by
  simp [takeQueryExposure]

@[simp] theorem outside_takeVerify (ch : ChannelId) (s : State) :
    (takeVerify ch s).outside = s.outside := by
  unfold takeVerify; (repeat' split) <;> simp

@[simp] theorem outside_resetFreeMove (s : State) :
    (resetFreeMove s).outside = s.outside := by
  unfold resetFreeMove; (repeat' split) <;> simp

@[simp] theorem outside_exposureReset (s : State) :
    (exposureReset s).outside = s.outside := by
  simp [exposureReset]

/-! #### Proof -/

@[simp] theorem outside_setBuffer (i : Fin 2) (b : BandBuffer) (s : State) :
    (setBuffer i b s).outside = s.outside := by
  simp [setBuffer]

theorem outside_tryTakeProofLine {s t : State} (h : tryTakeProofLine s = some t) :
    t.outside = s.outside := by
  unfold tryTakeProofLine at h
  split at h
  · cases h
  · obtain ⟨b, -, h⟩ := Option.bind_eq_some_iff.1 h
    obtain ⟨i, -, h⟩ := Option.bind_eq_some_iff.1 h
    obtain ⟨r, -, rfl⟩ := Option.map_eq_some_iff.1 h; simp

@[simp] theorem outside_startPort (w : PortWork) (s : State) :
    (startPort w s).outside = s.outside := by
  unfold startPort; (repeat' split) <;> simp

theorem outside_tryStartBand {s t : State} (h : tryStartBand s = some t) :
    t.outside = s.outside := by
  unfold tryStartBand at h
  split at h
  · obtain ⟨i, -, h⟩ := Option.bind_eq_some_iff.1 h
    obtain ⟨b, -, rfl⟩ := Option.map_eq_some_iff.1 h; simp
  · cases h

theorem outside_tryPaperEnd {s t : State} (h : tryPaperEnd s = some t) :
    t.outside = s.outside := by
  unfold tryPaperEnd at h
  split at h
  · obtain ⟨g, -, rfl⟩ := Option.map_eq_some_iff.1 h; simp
  · cases h

@[simp] theorem outside_strobe (data : Byte) (s : State) :
    (strobe data s).outside = s.outside := by
  simp [strobe]

@[simp] theorem outside_bandEnd (i : Fin 2) (b : Band) (s : State) :
    (bandEnd i b s).outside = s.outside := by
  simp [bandEnd]

@[simp] theorem outside_sendTransfer (i : Fin 2) (b : Band) (s : State) :
    (sendTransfer i b s).outside = s.outside := by
  unfold sendTransfer; dsimp only; (repeat' split) <;> simp

@[simp] theorem outside_feedTransfer (s : State) :
    (feedTransfer s).outside = s.outside := by
  unfold feedTransfer; (repeat' split) <;> simp

@[simp] theorem outside_transfer (s : State) :
    (transfer s).outside = s.outside := by
  unfold transfer; (repeat' split) <;> simp

@[simp] theorem outside_paperFell (s : State) :
    (paperFell s).outside = s.outside := by
  unfold paperFell; (repeat' split) <;> simp

@[simp] theorem outside_paperRose (s : State) :
    (paperRose s).outside = s.outside := by
  unfold paperRose; (repeat' split) <;> simp

@[simp] theorem outside_replaceCells (set : Fin 4) (first : Nat) (cells : List Cell) (s : State) :
    (replaceCells set first cells s).outside = s.outside := by
  simp [replaceCells]

@[simp] theorem outside_takeLoadCells (ch : ChannelId) (b : Block) (s : State) :
    (takeLoadCells ch b s).outside = s.outside := by
  unfold takeLoadCells; (repeat' split) <;> simp

@[simp] theorem outside_takeQueryProof (ch : ChannelId) (s : State) :
    (takeQueryProof ch s).outside = s.outside := by
  simp [takeQueryProof]

@[simp] theorem outside_proofReset (s : State) :
    (proofReset s).outside = s.outside := by
  simp [proofReset]

/-! #### Compose -/

@[simp] theorem outside_engineIdle (s : State) :
    (engineIdle s).outside = s.outside := by
  simp [engineIdle]

@[simp] theorem outside_commit (g : GalleyId) (e : LineEnd) (s : State) :
    (commit g e s).outside = s.outside := by
  unfold commit; (repeat' split) <;> simp

@[simp] theorem outside_breakSearch (g : GalleyId) (cs : List Candidate) (s : State) :
    (breakSearch g cs s).outside = s.outside := by
  simp [breakSearch]

@[simp] theorem outside_presentLookup (g : GalleyId) (core : List Nat) (s : State) :
    (presentLookup g core s).outside = s.outside := by
  simp [presentLookup]

@[simp] theorem outside_settle (g : GalleyId) (s : State) :
    (settle g s).outside = s.outside := by
  unfold settle; dsimp only; (repeat' split) <;> simp

theorem outside_tryArbitrate {s t : State} (h : tryArbitrate s = some t) :
    t.outside = s.outside := by
  unfold tryArbitrate at h
  split at h
  · obtain ⟨g, -, rfl⟩ := Option.map_eq_some_iff.1 h; simp
  · cases h

theorem outside_tryEndService {s t : State} (h : tryEndService s = some t) :
    t.outside = s.outside := by
  unfold tryEndService at h
  (repeat' split at h) <;> cases h
  simp

@[simp] theorem outside_emptyBuilder (g : GalleyId) (s : State) :
    (emptyBuilder g s).outside = s.outside := by
  simp [emptyBuilder]

@[simp] theorem outside_engineReset (s : State) :
    (engineReset s).outside = s.outside := by
  simp [engineReset]

/-! #### Galleys -/

@[simp] theorem outside_serveTexts (g : GalleyId) (ts : List WaitingText) (s : State) :
    (serveTexts g ts s).outside = s.outside := by
  induction ts generalizing s with
  | nil => simp [serveTexts]
  | cons t ts ih => unfold serveTexts; split <;> simp [ih]

@[simp] theorem outside_serveWaiting (g : GalleyId) (s : State) :
    (serveWaiting g s).outside = s.outside := by
  simp [serveWaiting]

@[simp] theorem outside_refuseTexts (ts : List WaitingText) (s : State) :
    (refuseTexts ts s).outside = s.outside := by
  unfold refuseTexts; induction ts generalizing s with
  | nil => rfl
  | cons i is ih => simp [ih]

@[simp] theorem outside_resetTexts (ts : List WaitingText) (s : State) :
    (resetTexts ts s).outside = s.outside := by
  unfold resetTexts; induction ts generalizing s with
  | nil => rfl
  | cons i is ih => simp [ih]

@[simp] theorem outside_refuseWaiting (g : GalleyId) (s : State) :
    (refuseWaiting g s).outside = s.outside := by
  simp [refuseWaiting]

@[simp] theorem outside_takeGlyph (g : GalleyId) (c : GlyphCode) (s : State) :
    (takeGlyph g c s).outside = s.outside := by
  unfold takeGlyph; dsimp only; (repeat' split) <;> simp

@[simp] theorem outside_galleyEnding (g : GalleyId) (s : State) :
    (galleyEnding g s).outside = s.outside := by
  unfold galleyEnding; (repeat' split) <;> simp

@[simp] theorem outside_takeEndGalley (g : GalleyId) (s : State) :
    (takeEndGalley g s).outside = s.outside := by
  unfold takeEndGalley; dsimp only; (repeat' split) <;> simp

@[simp] theorem outside_takeFontSelect (g : GalleyId) (n : Nat) (s : State) :
    (takeFontSelect g n s).outside = s.outside := by
  unfold takeFontSelect; (repeat' split) <;> simp

@[simp] theorem outside_takeSize (g : GalleyId) (n : Nat) (s : State) :
    (takeSize g n s).outside = s.outside := by
  unfold takeSize; (repeat' split) <;> simp

@[simp] theorem outside_setParameter (g : GalleyId) (clamped : Bool) (f : Galley → Galley) (s : State) :
    (setParameter g clamped f s).outside = s.outside := by
  unfold setParameter; (repeat' split) <;> simp

@[simp] theorem outside_takeReverse (g : GalleyId) (n : Nat) (s : State) :
    (takeReverse g n s).outside = s.outside := by
  simp [takeReverse]

@[simp] theorem outside_takeQuad (g : GalleyId) (v : Nat) (s : State) :
    (takeQuad g v s).outside = s.outside := by
  unfold takeQuad; (repeat' split) <;> simp

@[simp] theorem outside_takeSpaces (g : GalleyId) (a b c : Nat) (s : State) :
    (takeSpaces g a b c s).outside = s.outside := by
  simp [takeSpaces]

@[simp] theorem outside_applyItem (g : GalleyId) (i : Item) (s : State) :
    (applyItem g i s).outside = s.outside := by
  unfold applyItem; (repeat' split) <;> simp

@[simp] theorem outside_takeItem (g : GalleyId) (i : Item) (rest : List Byte) (s : State) :
    (takeItem g i rest s).outside = s.outside := by
  simp [takeItem]

@[simp] theorem outside_takeOpenGalley (ch : ChannelId) (b : Block) (s : State) :
    (takeOpenGalley ch b s).outside = s.outside := by
  unfold takeOpenGalley; (repeat' split) <;> simp

@[simp] theorem outside_takeSetText (ch : ChannelId) (b : Block) (s : State) :
    (takeSetText ch b s).outside = s.outside := by
  unfold takeSetText; (repeat' split) <;> simp

@[simp] theorem outside_takeSetPriority (ch : ChannelId) (b : Block) (s : State) :
    (takeSetPriority ch b s).outside = s.outside := by
  unfold takeSetPriority; (repeat' split) <;> simp

@[simp] theorem outside_stopServing (g : GalleyId) (s : State) :
    (stopServing g s).outside = s.outside := by
  unfold stopServing; (repeat' split) <;> simp

@[simp] theorem outside_cancelGalley (g : GalleyId) (s : State) :
    (cancelGalley g s).1.outside = s.outside := by
  simp [cancelGalley]

@[simp] theorem outside_closeAtOnce (g : GalleyId) (s : State) :
    (closeAtOnce g s).outside = s.outside := by
  unfold closeAtOnce; (repeat' split) <;> simp

@[simp] theorem outside_takeCancelGalley (ch : ChannelId) (b : Block) (s : State) :
    (takeCancelGalley ch b s).outside = s.outside := by
  unfold takeCancelGalley; dsimp only; (repeat' split) <;> simp

@[simp] theorem outside_takeQueryGalley (ch : ChannelId) (b : Block) (s : State) :
    (takeQueryGalley ch b s).outside = s.outside := by
  unfold takeQueryGalley; (repeat' split) <;> simp

@[simp] theorem outside_resetGalley (s : State) (g : GalleyId) :
    (resetGalley s g).outside = s.outside := by
  simp [resetGalley]

@[simp] theorem outside_galleysReset (s : State) :
    (galleysReset s).outside = s.outside := by
  unfold galleysReset; generalize List.finRange 8 = l; induction l generalizing s with
  | nil => rfl
  | cons i is ih => simp [ih]

/-! #### Dictionary -/

@[simp] theorem outside_present (ch : ChannelId) (r : Request) (s : State) :
    (present ch r s).outside = s.outside := by
  simp [present]

@[simp] theorem outside_setRunning (j : Option DictJob) (s : State) :
    (setRunning j s).outside = s.outside := by
  simp [setRunning]

@[simp] theorem outside_beginRequest (ch : ChannelId) (r : Request) (s : State) :
    (beginRequest ch r s).outside = s.outside := by
  unfold beginRequest; (repeat' split) <;> simp

@[simp] theorem outside_grantChannel (ch : ChannelId) (s : State) :
    (grantChannel ch s).outside = s.outside := by
  unfold grantChannel; (repeat' split) <;> simp

@[simp] theorem outside_grantBucket (p : Purge) (s : State) :
    (grantBucket p s).outside = s.outside := by
  simp [grantBucket]

@[simp] theorem outside_grantLookup (l : Lookup) (s : State) :
    (grantLookup l s).outside = s.outside := by
  simp [grantLookup]

theorem outside_channelGrant {s t : State} (h : channelGrant s = some t) :
    t.outside = s.outside := by
  unfold channelGrant at h
  dsimp only at h
  (repeat' split at h) <;> cases h <;> simp

theorem outside_tryGrant {s t : State} (h : tryGrant s = some t) :
    t.outside = s.outside := by
  unfold tryGrant at h
  split at h
  · cases h
  · exact outside_channelGrant h
  · split at h
    · cases h; simp
    · cases e : channelGrant s with
      | none => rw [e] at h; cases h; simp
      | some u => rw [e] at h; cases h; exact outside_channelGrant e

@[simp] theorem outside_completeLookUpWord (ch : ChannelId) (b : Block) (m : Vector Byte 96) (s : State) :
    (completeLookUpWord ch b m s).outside = s.outside := by
  unfold completeLookUpWord; dsimp only; (repeat' split) <;> simp

@[simp] theorem outside_completeRefusedPurge (ch : ChannelId) (prot : Bool) (s : State) :
    (completeRefusedPurge ch prot s).outside = s.outside := by
  unfold completeRefusedPurge; (repeat' split) <;> simp

@[simp] theorem outside_deliverAnswer (core : List Nat) (s : State) :
    (deliverAnswer core s).outside = s.outside := by
  unfold deliverAnswer; (repeat' split) <;> simp

@[simp] theorem outside_dictionaryReset (s : State) :
    (dictionaryReset s).outside = s.outside := by
  simp [dictionaryReset]

/-! #### Channels -/

@[simp] theorem outside_terminate (ch : ChannelId) (code : BitVec 3) (s : State) :
    (terminate ch code s).outside = s.outside := by
  simp [terminate]

@[simp] theorem outside_placeFontReported (ch : ChannelId) (b : Block) (s : State) :
    (placeFontReported ch b s).outside = s.outside := by
  have e := outside_takePlaceFont ch b s
  unfold placeFontReported
  split <;> simp_all

@[simp] theorem outside_ownerTakes (ch : ChannelId) (r : Request) (s : State) :
    (ownerTakes ch r s).outside = s.outside := by
  unfold ownerTakes; (repeat' split) <;> simp

@[simp] theorem outside_handOver (ch : ChannelId) (r : Request) (s : State) :
    (handOver ch r s).outside = s.outside := by
  simp [handOver]

@[simp] theorem outside_blockArrives (ch : ChannelId) (r : Request) (s : State) :
    (blockArrives ch r s).outside = s.outside := by
  unfold blockArrives; (repeat' split) <;> simp

@[simp] theorem outside_requestArrives (ch : ChannelId) (r : Request) (s : State) :
    (requestArrives ch r s).outside = s.outside := by
  unfold requestArrives; (repeat' split) <;> simp

@[simp] theorem outside_fetchArrives (ch : ChannelId) (f : Fetched) (s : State) :
    (fetchArrives ch f s).outside = s.outside := by
  unfold fetchArrives
  split
  · simp
  · split <;> simp

theorem outside_tryHandOver (ch : ChannelId) {s t : State} (h : tryHandOver ch s = some t) :
    t.outside = s.outside := by
  unfold tryHandOver at h
  dsimp only at h
  split at h
  · obtain ⟨r, -, rfl⟩ := Option.map_eq_some_iff.1 h; simp
  · cases h

@[simp] theorem outside_chainNext (ch : ChannelId) (b : Block) (s : State) :
    (chainNext ch b s).outside = s.outside := by
  unfold chainNext; (repeat' split) <;> simp

@[simp] theorem outside_startChannel (ch : ChannelId) (stopBit : Bool) (s : State) :
    (startChannel ch stopBit s).outside = s.outside := by
  unfold startChannel; dsimp only; (repeat' split) <;> simp

@[simp] theorem outside_stopChannel (ch : ChannelId) (s : State) :
    (stopChannel ch s).outside = s.outside := by
  unfold stopChannel; (repeat' split) <;> simp

@[simp] theorem outside_detach (ch : ChannelId) (s : State) :
    (detach ch s).outside = s.outside := by
  unfold detach; (repeat' split) <;> simp

/-! #### Lines -/

@[simp] theorem outside_reportToRequester (r : Requester) (correct : Bool) (s : State) :
    (reportToRequester r correct s).outside = s.outside := by
  unfold reportToRequester; (repeat' split) <;> simp

@[simp] theorem outside_turretRises (s : State) :
    (turretRises s).outside = s.outside := by
  unfold turretRises; (repeat' split) <;> simp

@[simp] theorem outside_turretFalls (s : State) :
    (turretFalls s).outside = s.outside := by
  unfold turretFalls; (repeat' split) <;> simp

@[simp] theorem outside_turretTimesOut (s : State) :
    (turretTimesOut s).outside = s.outside := by
  unfold turretTimesOut; (repeat' split) <;> simp

@[simp] theorem outside_lensRises (s : State) :
    (lensRises s).outside = s.outside := by
  unfold lensRises; (repeat' split) <;> simp

@[simp] theorem outside_lensFalls (s : State) :
    (lensFalls s).outside = s.outside := by
  unfold lensFalls; (repeat' split) <;> simp

@[simp] theorem outside_lensTimesOut (s : State) :
    (lensTimesOut s).outside = s.outside := by
  unfold lensTimesOut; (repeat' split) <;> simp

@[simp] theorem outside_setEncoder (l : EncoderLine) (f : LineFilter) (s : State) :
    (setEncoder l f s).outside = s.outside := by
  unfold setEncoder; (repeat' split) <;> simp

@[simp] theorem outside_acceptEncoder (l : EncoderLine) (level : Bool) (s : State) :
    (acceptEncoder l level s).outside = s.outside := by
  unfold acceptEncoder; (repeat' split) <;> simp

@[simp] theorem outside_encoderChanged (l : EncoderLine) (s : State) :
    (encoderChanged l s).outside = s.outside := by
  unfold encoderChanged encoderEdge acceptHeldEncoder; dsimp only; (repeat' split) <;> simp

@[simp] theorem outside_setDebouncer (l : DebouncedLine) (f : LineFilter) (s : State) :
    (setDebouncer l f s).outside = s.outside := by
  unfold setDebouncer; (repeat' split) <;> simp

@[simp] theorem outside_reportDebounced (l : DebouncedLine) (level : Bool) (s : State) :
    (reportDebounced l level s).outside = s.outside := by
  unfold reportDebounced; (repeat' split) <;> simp

@[simp] theorem outside_acceptDebounced (l : DebouncedLine) (level : Bool) (s : State) :
    (acceptDebounced l level s).outside = s.outside := by
  simp [acceptDebounced]

@[simp] theorem outside_debouncedChanged (l : DebouncedLine) (s : State) :
    (debouncedChanged l s).outside = s.outside := by
  unfold debouncedChanged debouncedEdge acceptHeldDebounced; dsimp only; (repeat' split) <;> simp

@[simp] theorem outside_sensorChanged (l : SensorLine) (s : State) :
    (sensorChanged l s).outside = s.outside := by
  unfold sensorChanged; (repeat' split) <;> simp

@[simp] theorem outside_setTurretLines (q : Station) (code : BitVec 4) (s : State) :
    (setTurretLines q code s).outside = s.outside := by
  unfold setTurretLines; generalize List.finRange 2 = l; generalize List.finRange 4 = k
  have h : ∀ (l : List (Fin 2)) (s : State),
      (l.foldl (fun s b => s.setConditioned (sensorBit (.turretPos b)) (q.val.testBit b.val)) s).outside = s.outside := by
    intro l; induction l with
    | nil => intro s; rfl
    | cons i is ih => intro s; simp [ih]
  have h2 : ∀ (l : List (Fin 4)) (s : State),
      (l.foldl (fun s b => s.setConditioned (sensorBit (.discCode b)) (code.getLsbD b.val)) s).outside = s.outside := by
    intro l; induction l with
    | nil => intro s; rfl
    | cons i is ih => intro s; rw [List.foldl_cons, ih, outside_setConditioned]
  rw [h2, h]

/-! #### Configuration -/

@[simp] theorem outside_acceptUndebounced (l : DebouncedLine) (s : State) :
    (acceptUndebounced l s).outside = s.outside := by
  unfold acceptUndebounced; (repeat' split) <;> simp

@[simp] theorem outside_compositionReset (s : State) :
    (compositionReset s).outside = s.outside := by
  simp [compositionReset]

/-! #### Timing -/

@[simp] theorem outside_advanceTime (n : Nat) (s : State) :
    (advanceTime n s).outside = s.outside := by
  simp [advanceTime]

/-! #### Optics -/

@[simp] theorem outside_pulseAccepted (l : EncoderLine) (s : State) :
    (pulseAccepted l s).outside = s.outside := by
  simp [pulseAccepted]

@[simp] theorem outside_acceptAfter (l : EncoderLine) (k : Nat) (s : State) :
    (acceptAfter l k s).outside = s.outside := by
  simp [acceptAfter]

@[simp] theorem outside_timeBefore (l : EncoderLine) (n : Nat) (s : State) :
    (timeBefore l n s).outside = s.outside := by
  unfold timeBefore; split <;> simp

@[simp] theorem outside_rechargeEnds (s : State) :
    (rechargeEnds s).outside = s.outside := by
  unfold rechargeEnds; (repeat' split) <;> simp

@[simp] theorem outside_turretArrival (q : Station) (code : BitVec 4) (s : State) :
    (turretArrival q code s).outside = s.outside := by
  simp [turretArrival]

end Sys2Proof.Machine
end

