-- ==== Sys2Proof/Laws/React.lean ====
section
/-! SUPPORT. The reactions of an event: when none applies, on what that depends, and what they leave alone. -/

namespace Sys2Proof.Machine

/-! ### Settled states -/

theorem reactN_of_settled (n : Nat) {s : State} (h : s.settled) : reactN n s = s := by
  cases n with
  | zero => rfl
  | succ n =>
    have e : reactOnce s = none := by simpa [State.settled] using h
    simp [reactN, e]

@[simp] theorem react_of_settled {s : State} (h : s.settled) : react s = s := reactN_of_settled _ h

theorem firstOf_isNone (a b : State → Option State) (s : State) :
    (firstOf a b s).isNone = ((a s).isNone && (b s).isNone) := by
  unfold firstOf
  cases a s <;> simp

/-- A state is settled when no reaction of the list applies. -/
theorem settled_eq (s : State) :
    s.settled =
      ((tryClose s).isNone && ((tryAssign s).isNone && ((tryFilmEnd s).isNone && ((tryPaperEnd s).isNone &&
      ((tryTakeLine s).isNone && ((tryStartBand s).isNone && ((tryTakeProofLine s).isNone &&
      ((tryEndService s).isNone && ((tryArbitrate s).isNone && ((tryGrant s).isNone &&
      ((tryHandOver 0 s).isNone && (tryHandOver 1 s).isNone))))))))))) := by
  simp [State.settled, reactOnce, firstOf_isNone]

/-- A channel that is not fetching, or has no block read, hands nothing over. -/
theorem tryHandOver_isNone {ch : ChannelId} {s : State}
    (h : (s.channel ch).state ≠ .fetching ∨ (s.channel ch).blockRead = none) : (tryHandOver ch s).isNone := by
  unfold tryHandOver
  rcases h with h | h <;> simp [h]

/-- Whether a block that waits for the detached mark may be handed over depends on the channel's own record. -/
theorem tryHandOver_congr {ch : ChannelId} {s t : State} (h : t.channel ch = s.channel ch) :
    (tryHandOver ch t).isNone = (tryHandOver ch s).isNone := by
  unfold tryHandOver
  simp only [h]
  split <;> cases (s.channel ch).blockRead <;> rfl

/-- What a galley shows to the reactions. -/
def Galley.face (x : Galley) : GalleyState × OutputMode × Nat × List Byte := (x.state, x.mode, x.priority, x.buffer)

/-- Whether a state is settled depends on the faces of the galleys, the store, whether Exposure Control is idle and a
VERIFY STATIONS in flight, the proof port and its buffers, the engine, the dictionary and the blocks that wait. -/
theorem settled_congr {s t : State} (galleys : ∀ g, (t.galley g).face = (s.galley g).face)
    (store : t.store = s.store) (idle : t.exposureIdle = s.exposureIdle)
    (verify : t.photo.verify.isNone = s.photo.verify.isNone) (port : t.proof.port = s.proof.port)
    (buffers : t.proof.buffers = s.proof.buffers) (engine : t.engine = s.engine) (dict : t.dict = s.dict)
    (hand : ∀ ch, (tryHandOver ch t).isNone = (tryHandOver ch s).isNone) : t.settled = s.settled := by
  have g1 : ∀ g, (t.galley g).state = (s.galley g).state := fun g => congrArg (·.1) (galleys g)
  have g2 : ∀ g, (t.galley g).mode = (s.galley g).mode := fun g => congrArg (·.2.1) (galleys g)
  have g3 : ∀ g, (t.galley g).priority = (s.galley g).priority := fun g => congrArg (·.2.2.1) (galleys g)
  have g4 : ∀ g, (t.galley g).buffer = (s.galley g).buffer := fun g => congrArg (·.2.2.2) (galleys g)
  have lines : ∀ i, t.lineAt i = s.lineAt i := fun i => by simp [State.lineAt, store]
  have close : (tryClose t).isNone = (tryClose s).isNone := by
    simp only [tryClose, Option.isNone_map, State.closable, State.linesOf, State.holdsFilm, State.holdsPaper, store,
      g1, g2]
  have assignee : t.filmAssignee = s.filmAssignee := by simp only [State.filmAssignee, store, g2]
  have paper : t.paperAssignee = s.paperAssignee := by simp only [State.paperAssignee, store, g2]
  have assign : (tryAssign t).isNone = (tryAssign s).isNone := by
    simp only [tryAssign, assignee, paper]; cases s.filmAssignee <;> simp
  have finished : t.filmFinished = s.filmFinished := by
    simp only [State.filmFinished, State.anyLine, State.linesOf, store, g1, lines]; congr!
  have paperDone : t.paperFinished = s.paperFinished := by
    simp only [State.paperFinished, State.anyLine, State.linesOf, store, g1, lines]; congr!
  have filmEnd : (tryFilmEnd t).isNone = (tryFilmEnd s).isNone := by
    simp only [tryFilmEnd, idle, finished]; split <;> simp
  have paperEnd : (tryPaperEnd t).isNone = (tryPaperEnd s).isNone := by
    simp only [tryPaperEnd, port, paperDone]; split <;> simp
  have nextFilm : t.nextFilmLine = s.nextFilmLine := by
    simp only [State.nextFilmLine, State.supplies, State.firstLine, State.linesOf, store, g1, lines]; congr!
  have nextProof : t.nextProofLine = s.nextProofLine := by
    simp only [State.nextProofLine, State.supplies, State.firstLine, State.linesOf, store, g1, lines]; congr!
  have take : (tryTakeLine t).isNone = (tryTakeLine s).isNone := by
    simp only [tryTakeLine, idle, verify, nextFilm]
    split
    · cases s.nextFilmLine <;> simp [lines]
    · rfl
  have inBuffer : ∀ p, t.bufferIn p = s.bufferIn p := fun p => by simp only [State.bufferIn, buffers]
  have band : (tryStartBand t).isNone = (tryStartBand s).isNone := by
    simp only [tryStartBand, port, inBuffer, buffers]
    split
    · cases s.bufferIn BandBuffer.isReady <;> simp
    · rfl
  have takeProof : (tryTakeProofLine t).isNone = (tryTakeProofLine s).isNone := by
    simp only [tryTakeProofLine, inBuffer, nextProof]
    split
    · rfl
    · cases s.bufferIn BandBuffer.isEmpty with
      | none => rfl
      | some b => cases s.nextProofLine <;> simp [lines]
  have service : (tryEndService t).isNone = (tryEndService s).isNone := by
    simp only [tryEndService, engine, g1, g4]
    cases s.engine.state <;> simp
    split <;> simp
  have mayCommit : ∀ g, t.mayCommit g = s.mayCommit g := fun g => by
    simp only [State.mayCommit, State.holdsFilm, State.holdsPaper, State.freeCount, store]; congr!
  have eligible : ∀ g, t.eligible g = s.eligible g := fun g => by
    simp only [State.eligible, mayCommit, g1, g3, g4]
  have arbitrate : (tryArbitrate t).isNone = (tryArbitrate s).isNone := by
    simp only [tryArbitrate, engine, State.arbitration, eligible, g3]
    split <;> simp
  have grant : (tryGrant t).isNone = (tryGrant s).isNone := by
    have e : (channelGrant t).isNone = (channelGrant s).isNone := by
      simp only [channelGrant, dict]
      cases s.dict.purge with
      | some p => rfl
      | none => dsimp only; split <;> (try rfl); split <;> rfl
    simp only [tryGrant, dict]
    split
    · rfl
    · exact e
    · split
      · rfl
      · cases channelGrant t <;> cases channelGrant s <;> rfl
  simp only [settled_eq, close, assign, filmEnd, paperEnd, take, band, takeProof, service, arbitrate, grant, hand]

/-! ### What reactions leave alone -/

theorem firstOf_eq_some {a b : State → Option State} {s t : State} (h : firstOf a b s = some t) :
    a s = some t ∨ b s = some t := by
  unfold firstOf at h
  cases e : a s with
  | none => rw [e] at h; exact .inr h
  | some u => rw [e] at h; exact .inl h

/-- The reaction that was made is one of the list. -/
theorem reactOnce_cases {s t : State} (h : reactOnce s = some t) :
    tryClose s = some t ∨ tryAssign s = some t ∨ tryFilmEnd s = some t ∨ tryPaperEnd s = some t ∨
    tryTakeLine s = some t ∨ tryStartBand s = some t ∨ tryTakeProofLine s = some t ∨ tryEndService s = some t ∨
    tryArbitrate s = some t ∨ tryGrant s = some t ∨ tryHandOver 0 s = some t ∨ tryHandOver 1 s = some t := by
  unfold reactOnce at h
  iterate 10 refine (firstOf_eq_some h).imp_right fun h => ?_
  exact firstOf_eq_some h

theorem outside_reactOnce {s t : State} (h : reactOnce s = some t) : t.outside = s.outside := by
  rcases reactOnce_cases h with h | h | h | h | h | h | h | h | h | h | h | h
  exacts [outside_tryClose h, outside_tryAssign h, outside_tryFilmEnd h, outside_tryPaperEnd h, outside_tryTakeLine h,
    outside_tryStartBand h, outside_tryTakeProofLine h, outside_tryEndService h, outside_tryArbitrate h,
    outside_tryGrant h, outside_tryHandOver _ h, outside_tryHandOver _ h]

theorem outside_reactN (n : Nat) (s : State) : (reactN n s).outside = s.outside := by
  induction n generalizing s with
  | zero => rfl
  | succ n ih =>
    unfold reactN
    split
    · next t h => rw [ih, outside_reactOnce h]
    · rfl

@[simp] theorem outside_react (s : State) : (react s).outside = s.outside := outside_reactN _ s

/-- A property that every reaction keeps holds after all of them. -/
theorem react_keeps {P : State → Prop} (once : ∀ s t, P s → reactOnce s = some t → P t) {s : State} (h : P s) :
    P (react s) := by
  have all : ∀ n s, P s → P (reactN n s) := by
    intro n
    induction n with
    | zero => intro s h; exact h
    | succ n ih =>
      intro s h
      unfold reactN
      split
      · next t e => exact ih t (once s t h e)
      · exact h
  exact all _ s h

/-! ### Events -/

/-- An event that arises, with its reactions. -/
theorem eventReact_true (f : State → State) (s : State) : eventReact true f s = .next (react (f s.fresh)) := rfl

theorem event_true (f : State → State) (s : State) : event true f s = .next (f s.fresh) := rfl

theorem event_false (f : State → State) (s : State) : event false f s = .next s := rfl

theorem eventReact_false (f : State → State) (s : State) : eventReact false f s = .next s := rfl

/-- An event whose effect leaves a settled state settled brings the part to that effect. -/
theorem eventTo_of_settled {o : Answer} {s t : State} (h : o = .next (react t)) (keep : t.settled = s.settled) :
    EventTo o s t := by
  refine ⟨h, fun hs => ?_⟩
  rw [h, react_of_settled (keep.trans hs)]

end Sys2Proof.Machine
end

