-- ==== Sys2Proof/Laws/Channels.lean ====
section
/-! SUPPORT. What handing over and completing a request do to its channel: one lemma for each, which the proofs about
requests cite. -/

namespace Sys2Proof.Machine

@[simp] theorem vset_vset {α : Type} {n : Nat} (v : Vector α n) (i : Fin n) (x y : α) :
    vset (vset v i x) i y = vset v i y := by
  simp [vset]

/-- What the operations of handing over and posting read of a state's channels. -/
theorem State.handed_congr {ch : ChannelId} {q : Request} {s t : State} (h : t.channel ch = s.channel ch) :
    t.handed ch q ↔ s.handed ch q := by
  simp only [State.handed, h]

theorem State.fresh_channel (ch : ChannelId) (s : State) : s.fresh.channel ch = s.channel ch := rfl

theorem State.waits_handed {ch : ChannelId} (q : Request) {s : State} (h : s.readyFor ch) :
    (s.waits ch q).handed ch q := by
  obtain ⟨-, -, h⟩ := h
  simp [State.handed, State.waits, State.channel, State.modChannel]
  exact h

/-- A completion in a waiting channel is posted (R167). -/
theorem complete_handed {ch : ChannelId} {q : Request} {s : State} (h : s.handed ch q) (c : Completion)
    (detail : Half) (bytes : List Byte) : complete ch c detail bytes s = s.posts ch q c detail bytes := by
  obtain ⟨h1, h2, h3, h4⟩ := h
  simp only [complete, h1, h2, h4, State.posts, State.modChannel]
  simp [h3]

theorem finish_handed {ch : ChannelId} {q : Request} {s : State} (h : s.handed ch q) (c : Completion) (detail : Nat) :
    finish ch c detail s = s.posts ch q c (BitVec.ofNat 16 detail) [] := complete_handed h c _ _

theorem reply_handed {ch : ChannelId} {q : Request} {s : State} (h : s.handed ch q) (detail : Nat)
    (bytes : List Byte) : reply ch detail bytes s = (s.posts ch q .done (BitVec.ofNat 16 detail) bytes).bumpFree := by
  rw [reply, complete_handed h]

/-- A refusal in a waiting channel is posted with a free detail (log 7). -/
theorem refuse_handed {ch : ChannelId} {q : Request} {s : State} (h : s.handed ch q) (c : Completion) :
    refuse ch c s = s.refuses ch q c := by
  rw [refuse, completeUnstated, complete_handed h, State.refuses]

@[simp] theorem posts_waits (ch : ChannelId) (q r : Request) (c : Completion) (detail : Half) (bytes : List Byte)
    (s : State) : (s.waits ch q).posts ch r c detail bytes = s.posts ch r c detail bytes := by
  simp [State.posts, State.waits, State.modChannel, State.channel]

@[simp] theorem refuses_waits (ch : ChannelId) (q r : Request) (c : Completion) (s : State) :
    (s.waits ch q).refuses ch r c = s.refuses ch r c := by
  have e : (s.waits ch q).free = s.free := rfl
  rw [State.refuses, State.refuses, posts_waits, e]

/-- A ready channel's request command: the handover, the taking, and what follows. -/
theorem requestEvent_ready {ch : ChannelId} {s : State} (h : s.readyFor ch) (code : Byte) (b : Block)
    (fits : b.payload.length ≤ 1024) :
    requestEvent code ch b s =
      .next (react (ownerTakes ch { code := code, block := b } (s.fresh.waits ch { code := code, block := b }))) := by
  obtain ⟨h1, h2, h3⟩ := h
  have e : s.fetching ch = true := by simp [State.fetching, h1, h2]
  have d : ((State.fresh s).channel ch).detached = false := h3
  rw [requestEvent, e, eventReact_true]
  simp only [requestArrives, fits, if_true, blockArrives, d, Bool.false_eq_true, if_false]
  rfl

/-- A channel that posts hands nothing over. -/
theorem tryHandOver_posts (c ch : ChannelId) (r : Request) (x : Completion) (detail : Half) (bytes : List Byte)
    {s : State} (h : s.readyFor ch) :
    (tryHandOver c (s.posts ch r x detail bytes)).isNone = (tryHandOver c s).isNone := by
  by_cases e : c = ch
  · subst e
    rw [tryHandOver_isNone (.inr h.2.1), tryHandOver_isNone]
    exact .inl (by simp [State.posts, State.channel, State.modChannel])
  · apply tryHandOver_congr
    simp [State.posts, State.channel, State.modChannel, vget_vset_ne _ _ _ _ (Ne.symm e)]

/-- A channel that waits hands nothing over. -/
theorem tryHandOver_waits (c ch : ChannelId) (r : Request) {s : State} (h : s.readyFor ch) :
    (tryHandOver c (s.waits ch r)).isNone = (tryHandOver c s).isNone := by
  by_cases e : c = ch
  · subst e
    rw [tryHandOver_isNone (.inr h.2.1), tryHandOver_isNone]
    exact .inl (by simp [State.waits, State.channel, State.modChannel])
  · apply tryHandOver_congr
    simp [State.waits, State.channel, State.modChannel, vget_vset_ne _ _ _ _ (Ne.symm e)]

end Sys2Proof.Machine
end

