-- ==== Sys2Proof/Laws/Compose.lean ====
section
/-! SUPPORT. The setting of a line (R63 to R66): each interword space gets one final width, and each glyph the flash
position of what stands before it. -/

namespace Sys2Proof.Machine

theorem shrinkFrom_length (D R : Nat) (spaces : List BSpace) (left : Nat) :
    (shrinkFrom D R spaces left).length = spaces.length := by
  induction spaces generalizing left with
  | nil => rfl
  | cons p rest ih => simp only [shrinkFrom]; split_ifs <;> simp [ih]

/-- The setting gives as many final widths as there are interword spaces. -/
theorem spacing_length (quad : QuadMode) (byBreak : Bool) (spaces : List BSpace) (m n : Nat) :
    (spacing quad byBreak spaces m n).widths.length = spaces.length := by
  unfold spacing
  cases quad <;> dsimp only <;> split_ifs <;> simp_all [stretch, shrink, shrinkFrom_length]

/-- The glyphs of a run, in order. -/
def glyphsOf (items : List LineItem) : List BGlyph :=
  items.filterMap fun i =>
    match i with
    | .glyph b => some b
    | .space _ => none

/-- What a run takes apart from its interword spaces. -/
def fixedWidth (items : List LineItem) : Nat :=
  (items.map fun i =>
    match i with
    | .glyph b => b.advance
    | .space p => if p.isInterword then 0 else p.opt).sum

theorem placeItems_length (truncate : Bool) (items : List LineItem) (ws : List Nat) (p : Nat) :
    (placeItems truncate items ws p).length = (glyphsOf items).length := by
  induction items generalizing ws p with
  | nil => rfl
  | cons i rest ih =>
    cases i with
    | glyph b => simp [placeItems, glyphsOf, ih]
    | space q => simp only [placeItems]; split_ifs <;> simp [glyphsOf, ih]

/-- A glyph of a placed run stands at the flash position of the start, the fixed widths and the final widths before it. -/
theorem placeItems_glyph (truncate : Bool) (before : List LineItem) (b : BGlyph) (after : List LineItem) (ws : List Nat)
    (p : Nat) (enough : (interwords before).length ≤ ws.length) :
    (placeItems truncate (before ++ .glyph b :: after) ws p)[(glyphsOf before).length]? = some
      { code := b.code, slot := b.slot, size := b.size, absent := b.absent,
        x := flashPosition truncate (p + fixedWidth before + (ws.take (interwords before).length).sum) } := by
  induction before generalizing ws p with
  | nil => simp [placeItems, glyphsOf, fixedWidth, interwords]
  | cons i rest ih =>
    cases i with
    | glyph c =>
      have := ih ws (p + c.advance) enough
      have g : glyphsOf (.glyph c :: rest) = c :: glyphsOf rest := by simp [glyphsOf]
      have f : fixedWidth (.glyph c :: rest) = c.advance + fixedWidth rest := by simp [fixedWidth]
      have e : interwords (.glyph c :: rest) = interwords rest := by simp [interwords]
      rw [g, f, e]
      simp only [List.cons_append, placeItems, List.length_cons, List.getElem?_cons_succ]
      rw [this, Nat.add_assoc p]
    | space q =>
      by_cases hq : q.isInterword = true
      · have e : interwords (.space q :: rest) = q :: interwords rest := by simp [interwords, hq]
        rw [e] at enough
        obtain ⟨w, ws, rfl⟩ : ∃ w v, ws = w :: v := by
          cases ws with
          | nil => simp at enough
          | cons w v => exact ⟨w, v, rfl⟩
        have := ih ws (p + w) (by simpa using enough)
        simp only [List.cons_append, placeItems, hq, if_true, List.tail_cons, List.headD_cons]
        have g : glyphsOf (.space q :: rest) = glyphsOf rest := by simp [glyphsOf]
        have f : fixedWidth (.space q :: rest) = fixedWidth rest := by simp [fixedWidth, hq]
        rw [g, this, e, f]
        simp only [List.length_cons, List.take_succ_cons, List.sum_cons]
        congr 3; omega
      · have e : interwords (.space q :: rest) = interwords rest := by simp [interwords, hq]
        have := ih ws (p + q.opt) (by rwa [e] at enough)
        have g : glyphsOf (.space q :: rest) = glyphsOf rest := by simp [glyphsOf]
        have f : fixedWidth (.space q :: rest) = q.opt + fixedWidth rest := by simp [fixedWidth, hq]
        simp only [List.cons_append, placeItems, hq, Bool.false_eq_true, if_false]
        rw [g, this, e, f]
        congr 3; omega

end Sys2Proof.Machine
end

