-- ==== Sys2Proof/Laws/Dictionary.lean ====
section
/-! SUPPORT. The list of ADD WORDS (R78): its first entries are added in turn, up to its end or to one that is refused. -/

namespace Sys2Proof.Machine

/-- The entries that are added take their turn, and the rest of the list goes on from what they leave. -/
theorem addEntries_added {m : Vector Byte 96} {tag : Nat} {es : List Entry} {p q : List Byte}
    {chains left : Vector (List Entry) 512} (h : EntriesAdded m tag es p chains q left) (n k : Nat) :
    addEntries m tag (n + es.length) k p chains = addEntries m tag n (k + es.length) q left := by
  induction es generalizing p chains k with
  | nil => obtain ⟨rfl, rfl⟩ := h; rfl
  | cons e es ih =>
    obtain ⟨rest, h1, h2, h3, h4⟩ := h
    rw [List.length_cons, ← Nat.add_assoc, addEntries, h1]
    simp only [h2, Option.isSome_none, Bool.false_eq_true, if_false, ge_iff_le, Nat.not_le.mpr h3]
    rw [show insertEntry e chains = vset chains (bucketOf e.word) (e :: vget chains (bucketOf e.word)) from rfl,
      ih h4 (k + 1), Nat.add_assoc, Nat.add_comm 1]

/-- Every list has its first entries added. -/
theorem exists_entriesAdded (m : Vector Byte 96) (tag n : Nat) (p : List Byte) (chains : Vector (List Entry) 512) :
    ∃ es q left, EntriesAdded m tag es p chains q left ∧
      (es.length = n ∨ es.length < n ∧ ∀ e rest, takeEntry m tag q = some (e, rest) →
        (findEntry e.word left).isSome ∨ 2048 ≤ entryCount left) := by
  induction n generalizing p chains with
  | zero => exact ⟨[], p, chains, ⟨rfl, rfl⟩, .inl rfl⟩
  | succ n ih =>
    have stop : (∀ e rest, takeEntry m tag p = some (e, rest) →
        (findEntry e.word chains).isSome ∨ 2048 ≤ entryCount chains) →
        ∃ es q left, EntriesAdded m tag es p chains q left ∧
          (es.length = n + 1 ∨ es.length < n + 1 ∧ ∀ e rest, takeEntry m tag q = some (e, rest) →
            (findEntry e.word left).isSome ∨ 2048 ≤ entryCount left) :=
      fun h => ⟨[], p, chains, ⟨rfl, rfl⟩, .inr ⟨Nat.succ_pos n, h⟩⟩
    match h : takeEntry m tag p with
    | none => exact stop (by simp [h])
    | some (e, rest) =>
      by_cases h1 : (findEntry e.word chains).isSome ∨ 2048 ≤ entryCount chains
      · refine stop fun e' rest' h' => ?_
        obtain ⟨rfl, rfl⟩ : e = e' ∧ rest = rest' := by simpa [h] using h'
        exact h1
      · obtain ⟨h1, h2⟩ := not_or.mp h1
        obtain ⟨es, q, left, ha, hb⟩ :=
          ih rest (vset chains (bucketOf e.word) (e :: vget chains (bucketOf e.word)))
        refine ⟨e :: es, q, left, ⟨rest, h, by simpa using h1, by omega, ha⟩, ?_⟩
        rcases hb with hb | ⟨hb, hc⟩
        · exact .inl (by simp [hb])
        · exact .inr ⟨by simpa using hb, hc⟩

end Sys2Proof.Machine
end

