-- ==== Sys2Proof/Laws/Exposure.lean ====
section
/-! SUPPORT. What a hold does (R144), what the steps of a glyph do (R141), and what a retried turret or lens sub-step finds
(R144, R146; log 42). -/

namespace Sys2Proof.Machine

/-- A hold taken where none stands. -/
theorem takeHold_of_none {r : HoldReason} {s : State} (h : s.exposure.hold = none) :
    takeHold r s =
      ((stopFilm (withdrawFlash s)).modExposure fun e => { e with hold := some r, cutTimer := none }).raise .expHold := by
  simp [takeHold, h]

/-- A further cause while HELD changes nothing. -/
theorem takeHold_of_isSome {r : HoldReason} {s : State} (h : s.exposure.hold.isSome) : takeHold r s = s := by
  simp [takeHold, h]

theorem takeHold_at {l : LineWork} {st : LineStep} {r : HoldReason} {s : State} (h : s.exposure.hold = none)
    (hw : s.exposure.work = .line { l with step := st }) : HeldAt l st r (takeHold r s) := by
  rw [takeHold_of_none h]
  refine ⟨hw, rfl, ?_, rfl, rfl, rfl⟩
  simp [State.raised, State.raise, Attn.mask, Attn.bit, stopFilm, withdrawFlash, State.modExposure, State.modFilm,
    State.modPhoto]

/-! ### The steps of a glyph (R141) -/

/-- The lens table stands in the configuration space. -/
theorem lensFor_congr {s t : State} (h : t.config = s.config) (n : Nat) : t.lensFor n = s.lensFor n := by
  simp [State.lensFor, State.lensSize, State.setting, State.entry, h]

theorem carriagePeriod_congr {s t : State} (h : t.config = s.config) : t.carriagePeriod = s.carriagePeriod := by
  simp [State.carriagePeriod, State.setting1, State.setting, State.entry, h]

theorem shutterStep_arms {l : LineWork} {g : SetGlyph} {p : Placement} {x : LensPos} {s : State}
    (hp : (s.font g.slot).placement = some p) (hx : s.lensFor g.size = some x) :
    shutterStep l g s = setStep l .armed
      (armFlash { code := g.code, slot := g.slot, lens := x, x := g.x } (setShutter p.track s)) := by
  simp [shutterStep, hp, hx]

theorem carriageStep_commands {l : LineWork} {g : SetGlyph} {p : Placement} {x : LensPos} {s : State}
    (hp : (s.font g.slot).placement = some p) (hx : s.lensFor g.size = some x) (hh : s.exposure.hold = none) :
    CarriageCommanded l g p x s (carriageStep l g s) ∧ (carriageStep l g s).pulses = s.pulses := by
  have arms : ∀ u : State, u.fonts = s.fonts → u.config = s.config → shutterStep l g u = setStep l .armed
      (armFlash { code := g.code, slot := g.slot, lens := x, x := g.x } (setShutter p.track u)) := by
    intro u h1 h2
    apply shutterStep_arms
    · simpa [State.font, h1] using hp
    · rw [lensFor_congr h2, hx]
  unfold carriageStep CarriageCommanded commandCarriage
  dsimp only [setStep, setWork, State.modExposure]
  cases hc : s.photo.carriage with
  | homing n t => simp [State.settledAt, State.modPhoto, AtStep, hh]
  | settled =>
    by_cases hq : s.photo.position = min 17280 g.x
    · simp [hq, State.settledAt, hc, arms, GlyphArmed, AtStep, armFlash, setShutter, setStep, setWork, State.modExposure,
        State.modPhoto, hh]
    · simp [hq, State.settledAt, AtStep, State.modPhoto, hh, State.carriagePeriod, State.setting1, State.setting,
        State.entry]
  | stepping y =>
    by_cases hq : s.photo.position = min 17280 g.x
    · simp [hq, State.settledAt, arms, GlyphArmed, AtStep, armFlash, setShutter, setStep, setWork, State.modExposure,
        State.modPhoto, hh]
    · simp [hq, State.settledAt, AtStep, State.modPhoto, hh]

/-- What a carriage command does depends on the photo unit and the configuration alone. -/
theorem carriageCommanded_congr {l : LineWork} {g : SetGlyph} {p : Placement} {x : LensPos} {s u t : State}
    (hc : u.photo.carriage = s.photo.carriage) (hp : u.photo.position = s.photo.position) (hg : u.config = s.config)
    (h : CarriageCommanded l g p x u t) : CarriageCommanded l g p x s t := by
  unfold CarriageCommanded at *
  simpa [hc, hp, carriagePeriod_congr hg] using h

theorem carriageStep_lens (l : LineWork) (g : SetGlyph) (s : State) :
    (carriageStep l g s).photo.lens = s.photo.lens := by
  have hc : ∀ (x : Nat) (u : State), (commandCarriage x u).photo.lens = u.photo.lens := by
    intro x u; unfold commandCarriage; dsimp only; (repeat' split) <;> rfl
  have hs : ∀ u : State, (shutterStep l g u).photo.lens = u.photo.lens := by
    intro u; unfold shutterStep takeHold; (repeat' split) <;> rfl
  unfold carriageStep; dsimp only; split <;> simp only [hs, hc] <;> rfl

theorem lensStep_commands {l : LineWork} {g : SetGlyph} {p : Placement} {x : LensPos} {s : State}
    (hp : (s.font g.slot).placement = some p) (hx : s.lensFor g.size = some x) (hh : s.exposure.hold = none) :
    LensCommanded l g p x s (lensStep l g s) := by
  unfold LensCommanded lensStep
  dsimp only
  set u := setStep l .lens (s.modExposure fun e => { e with turretAt := s.photo.turret.station }) with hu
  have hx' : u.lensFor g.size = some x := (lensFor_congr (s := s) (by rfl) _).trans hx
  have hph : u.photo = s.photo := rfl
  rw [hx']
  dsimp only
  rw [hph]
  split
  · next h =>
    have hc := carriageStep_commands (l := l) (s := u) hp hx' hh
    exact ⟨by rw [carriageStep_lens, hph]; exact h, hc.2, carriageCommanded_congr rfl rfl rfl hc.1⟩
  · exact ⟨⟨rfl, hh⟩, rfl, rfl, rfl, rfl, rfl⟩

theorem turretStep_drives {l : LineWork} {g : SetGlyph} {p : Placement} {s : State} (hh : s.exposure.hold = none)
    (h : s.photo.turret ≠ .standing (s.stationMap p.station)) :
    TurretCommanded l (s.stationMap p.station) s (turretStep l g p s) := by
  have hq : (setStep l .turret s).stationMap p.station = s.stationMap p.station := rfl
  have hph : (setStep l .turret s).photo = s.photo := rfl
  unfold turretStep
  simp only [hq, hph, h, if_false]
  exact ⟨⟨rfl, hh⟩, rfl, rfl, rfl, rfl, rfl, rfl, rfl, rfl, rfl, rfl⟩

/-! ### Retries -/

theorem retryPositioning_unloaded {k : State → State} {s : State} (h : s.film.loaded = false) :
    retryPositioning k s = takeHold .cassetteOut s := by simp [retryPositioning, h]

theorem retryPositioning_fault {k : State → State} {s : State} (h : s.film.loaded = true) (hn : s.exposure.note = true)
    (hd : s.photo.disc ≠ .locked) : retryPositioning k s = takeHold .discFault s := by
  simp [retryPositioning, h, hn, hd]

/-- A retry that finds neither goes on with the note clear. -/
theorem retryPositioning_passes {k : State → State} {s : State} (h : s.film.loaded = true)
    (hn : s.exposure.note = false ∨ s.photo.disc = .locked) :
    retryPositioning k s = k (s.modExposure fun e => { e with note := false }) := by
  have : ¬ (s.exposure.note = true ∧ s.photo.disc ≠ .locked) := by
    rintro ⟨a, b⟩
    rcases hn with hn | hn
    · rw [hn] at a; cases a
    · exact b hn
  simp [retryPositioning, h, this]

/-- A lens sub-step retried commands the lens again (R146), unless the station is lost or the font is in MISMATCH. -/
theorem retryLens_commands {l : LineWork} {g : SetGlyph} {s : State} (h : s.turretPlaced g ∨ s.stationKept)
    (hm : ¬ (s.turretPlaced g ∧ (s.font g.slot).verification = .mismatch)) : retryLens l g s = lensStep l g s := by
  have h1 : (s.turretPlaced g && (s.font g.slot).verification == .mismatch) = false := by
    rw [Bool.eq_false_iff]; simpa using hm
  have h2 : (s.turretPlaced g || s.stationKept) = true := by simpa using h
  simp [retryLens, h1, h2]

/-- A lens sub-step retried with the station lost holds again with TURRET_JAM (R144). -/
theorem retryLens_lost {l : LineWork} {g : SetGlyph} {s : State} (h : s.turretPlaced g = false)
    (hk : s.stationKept = false) : retryLens l g s = takeHold .turretJam (setStep l .turret s) := by
  simp [retryLens, h, hk]

/-- A lens sub-step retried at the placement's station with the font in MISMATCH (log 45). -/
theorem retryLens_mismatch {l : LineWork} {g : SetGlyph} {s : State} (h : s.turretPlaced g)
    (hm : (s.font g.slot).verification = .mismatch) :
    retryLens l g s = takeHold .discMismatch (setStep l .decision s) := by
  simp [retryLens, h, hm]

end Sys2Proof.Machine
end

