-- ==== Sys2Proof/Laws/Galleys.lean ====
section
/-! SUPPORT. The waiting text served (R29, R30): what is appended, what waits on, and what the serving touches. -/

namespace Sys2Proof.Machine

/-- The text served is the longest run from the head that fits, one after another; the rest waits on. -/
theorem serveTexts_galley (g : GalleyId) (ts : List WaitingText) (s : State) (fill : (s.galley g).buffer.length ≤ 1024) :
    ∃ n, n ≤ ts.length ∧
      (serveTexts g ts s).galley g =
        { s.galley g with buffer := (s.galley g).buffer ++ (ts.take n).flatMap (·.text), waiting := ts.drop n } ∧
      ((serveTexts g ts s).galley g).buffer.length ≤ 1024 ∧
      ∀ next, ts[n]? = some next → 1024 < ((serveTexts g ts s).galley g).buffer.length + next.text.length := by
  induction ts generalizing s with
  | nil => exact ⟨0, Nat.le_refl 0, by simp [serveTexts], by simpa [serveTexts] using fill, by simp⟩
  | cons t rest ih =>
    by_cases h : t.text.length ≤ (s.galley g).room
    · have fits : (s.galley g).buffer.length + t.text.length ≤ 1024 := by
        simp only [Galley.room] at h; omega
      have e : (finish t.channel .done t.text.length
          (s.modGalley g fun x => { x with buffer := x.buffer ++ t.text })).galley g =
          { s.galley g with buffer := (s.galley g).buffer ++ t.text } := by
        rw [finish_galley, State.galley_modGalley_self]
      obtain ⟨n, h1, h2, h3, h4⟩ := ih (finish t.channel .done t.text.length
        (s.modGalley g fun x => { x with buffer := x.buffer ++ t.text })) (by rw [e]; simpa using fits)
      have u : serveTexts g (t :: rest) s = serveTexts g rest (finish t.channel .done t.text.length
          (s.modGalley g fun x => { x with buffer := x.buffer ++ t.text })) := by rw [serveTexts, if_pos h]
      rw [u]
      refine ⟨n + 1, by simpa using h1, ?_, h3, by simpa using h4⟩
      rw [h2, e]
      simp
    · have u : serveTexts g (t :: rest) s = s.modGalley g fun x => { x with waiting := t :: rest } := by
        rw [serveTexts, if_neg h]
      refine ⟨0, Nat.zero_le _, by simp [u], by simpa [u] using fill, fun next hn => ?_⟩
      obtain rfl : t = next := by simpa using hn
      simp only [Galley.room] at h
      simp [u]; omega

/-- The serving touches channels and the galley only. -/
theorem serveTexts_frame (g : GalleyId) (ts : List WaitingText) (s : State) :
    serveTexts g ts s =
      { s with galleys := (serveTexts g ts s).galleys, channels := (serveTexts g ts s).channels } ∧
    ∀ h, h ≠ g → (serveTexts g ts s).galley h = s.galley h := by
  induction ts generalizing s with
  | nil => exact ⟨rfl, fun h ne => State.galley_modGalley_ne _ _ (Ne.symm ne)⟩
  | cons t rest ih =>
    rw [serveTexts]
    split_ifs
    · obtain ⟨h1, h2⟩ := ih (finish t.channel .done t.text.length
        (s.modGalley g fun x => { x with buffer := x.buffer ++ t.text }))
      constructor
      · rw [h1, finish, complete_eq]; rfl
      · intro h ne
        rw [h2 h ne, finish_galley]
        exact State.galley_modGalley_ne _ _ (Ne.symm ne)
    · exact ⟨rfl, fun h ne => State.galley_modGalley_ne _ _ (Ne.symm ne)⟩

end Sys2Proof.Machine
end

