-- ==== Sys2Proof/Laws/Hyphenation.lean ====
section
/-! SUPPORT. What a candidate list holds (R86 to R98): the places of the hard hyphens, and the candidates that a list is
merged of. -/

namespace Sys2Proof.Machine

/-- A hard place stands after a hyphen that another glyph follows (R89). -/
theorem mem_hardPlaces (s : State) (w : List BGlyph) (j : Nat) :
    j ∈ hardPlaces s w ↔
      ∃ g next, 1 ≤ j ∧ w[j - 1]? = some g ∧ w[j]? = some next ∧ isHyphen s g = true ∧ isHyphen s next = false := by
  simp only [hardPlaces, List.mem_filterMap, Option.ite_none_right_eq_some, Option.some.injEq]
  constructor
  · rintro ⟨⟨⟨g, i⟩, next⟩, hm, hh, rfl⟩
    obtain ⟨n, hn⟩ := List.mem_iff_getElem?.mp hm
    rw [List.getElem?_zip_eq_some] at hn
    obtain ⟨h1, h2⟩ := hn
    simp only [numbered, List.getElem?_zipIdx, Option.map_eq_some_iff, Prod.mk.injEq] at h1
    obtain ⟨a, ha, rfl, rfl⟩ := h1
    rw [List.getElem?_tail] at h2
    simp only [Bool.and_eq_true, Bool.not_eq_true'] at hh
    refine ⟨a, next, Nat.le_add_right 1 n, ?_, ?_, hh.1, hh.2⟩
    · rwa [Nat.add_sub_cancel_left]
    · rwa [Nat.add_comm]
  · rintro ⟨g, next, h1, hg, hn, hh, hx⟩
    refine ⟨((g, j), next), List.mem_iff_getElem?.mpr ⟨j - 1, ?_⟩, by simp [hh, hx], rfl⟩
    rw [List.getElem?_zip_eq_some]
    refine ⟨?_, ?_⟩
    · simp only [numbered, List.getElem?_zipIdx, hg, Option.map_some, Option.some.injEq, Prod.mk.injEq, true_and]
      omega
    · rw [List.getElem?_tail, Nat.sub_add_cancel h1]
      exact hn

/-- A merged list holds the hard places, and the other places of its source that pass the check of R96. -/
theorem mem_mergeCandidates (s : State) (w : List BGlyph) (places : List Nat) (source : Source) (c : Candidate) :
    c ∈ mergeCandidates s w places source ↔
      c.j < w.length ∧
        (c.j ∈ hardPlaces s w ∧ c.source = .hard ∨
          c.j ∉ hardPlaces s w ∧ c.j ∈ places ∧ carriesHyphen s w c.j = true ∧ c.source = source) := by
  obtain ⟨j, src⟩ := c
  simp only [mergeCandidates, List.mem_filterMap, List.mem_range, List.contains_iff_mem, Bool.and_eq_true]
  constructor
  · rintro ⟨k, hk, h⟩
    split at h
    · cases h; exact ⟨hk, .inl ⟨by assumption, rfl⟩⟩
    · split at h
      · next hn hp => cases h; exact ⟨hk, .inr ⟨hn, hp.1, hp.2, rfl⟩⟩
      · cases h
  · rintro ⟨hk, (⟨hh, rfl⟩ | ⟨hn, hp, hc, rfl⟩)⟩
    · exact ⟨j, hk, by simp [hh]⟩
    · exact ⟨j, hk, by simp [hn, hp, hc]⟩

/-- A merged list ascends strictly. -/
theorem mergeCandidates_ascends (s : State) (w : List BGlyph) (places : List Nat) (source : Source) :
    ((mergeCandidates s w places source).map (·.j)).Pairwise (· < ·) := by
  rw [List.pairwise_map, mergeCandidates, List.pairwise_filterMap]
  refine List.pairwise_lt_range.imp fun {a b} hab c hc d hd => ?_
  have key : ∀ k (e : Candidate), (if (hardPlaces s w).contains k then some { j := k, source := .hard }
      else if places.contains k && carriesHyphen s w k then some { j := k, source := source } else none) = some e →
      e.j = k := by
    intro k e he
    split at he
    · cases he; rfl
    · split at he
      · cases he; rfl
      · cases he
  rw [key a c hc, key b d hd]
  exact hab

end Sys2Proof.Machine
end

