-- ==== Sys2Proof/Laws/PerInstr.lean ====
section
/-! SUPPORT. One lemma per command: the opcode table gives no row bits, so no word spells a command. -/

namespace Sys2Proof.Laws.WordSpelling

/-- No word spells the command. -/
def Statement (i : Instr) : Prop := ∀ nbits w : Nat, decodeTableWord nbits w ≠ some i

/-- Nothing decodes. -/
theorem of_any (i : Instr) : Statement i := fun _ _ => by simp [decodeTableWord]

theorem powerOnReset : Statement .powerOnReset := of_any _
theorem compositionReset : Statement .compositionReset := of_any _
theorem loadFont (ch : ChannelId) (b : Block) : Statement (.loadFont ch b) := of_any _
theorem amendFont (ch : ChannelId) (b : Block) : Statement (.amendFont ch b) := of_any _
theorem placeFont (ch : ChannelId) (b : Block) : Statement (.placeFont ch b) := of_any _
theorem retireFont (ch : ChannelId) (b : Block) : Statement (.retireFont ch b) := of_any _
theorem queryFont (ch : ChannelId) (b : Block) : Statement (.queryFont ch b) := of_any _
theorem openGalley (ch : ChannelId) (b : Block) : Statement (.openGalley ch b) := of_any _
theorem setText (ch : ChannelId) (b : Block) : Statement (.setText ch b) := of_any _
theorem setPriority (ch : ChannelId) (b : Block) : Statement (.setPriority ch b) := of_any _
theorem cancelGalley (ch : ChannelId) (b : Block) : Statement (.cancelGalley ch b) := of_any _
theorem queryGalley (ch : ChannelId) (b : Block) : Statement (.queryGalley ch b) := of_any _
theorem takeItem : Statement .takeItem := of_any _
theorem settleWord : Statement .settleWord := of_any _
theorem lookupAnswer : Statement .lookupAnswer := of_any _
theorem dictionaryOperationComplete : Statement .dictionaryOperationComplete := of_any _
theorem addWords (ch : ChannelId) (b : Block) : Statement (.addWords ch b) := of_any _
theorem amendWord (ch : ChannelId) (b : Block) : Statement (.amendWord ch b) := of_any _
theorem deleteWord (ch : ChannelId) (b : Block) : Statement (.deleteWord ch b) := of_any _
theorem lookUpWord (ch : ChannelId) (b : Block) : Statement (.lookUpWord ch b) := of_any _
theorem purgeDesk (ch : ChannelId) (b : Block) : Statement (.purgeDesk ch b) := of_any _
theorem indexPulse (elapsed : Nat) : Statement (.indexPulse elapsed) := of_any _
theorem slotPulse : Statement .slotPulse := of_any _
theorem indexTimeout : Statement .indexTimeout := of_any _
theorem flashDelayExpiry : Statement .flashDelayExpiry := of_any _
theorem flashComplete : Statement .flashComplete := of_any _
theorem turretArrival (pos : Station) (code : BitVec 4) : Statement (.turretArrival pos code) := of_any _
theorem turretReadyFall : Statement .turretReadyFall := of_any _
theorem turretTimeout : Statement .turretTimeout := of_any _
theorem lockWatchExpiry : Statement .lockWatchExpiry := of_any _
theorem lensArrival : Statement .lensArrival := of_any _
theorem lensReadyFall : Statement .lensReadyFall := of_any _
theorem lensTimeout : Statement .lensTimeout := of_any _
theorem carriageStep : Statement .carriageStep := of_any _
theorem verifyStations (ch : ChannelId) (b : Block) : Statement (.verifyStations ch b) := of_any _
theorem queryPhotoUnit (ch : ChannelId) (b : Block) : Statement (.queryPhotoUnit ch b) := of_any _
theorem filmStep : Statement .filmStep := of_any _
theorem cutComplete : Statement .cutComplete := of_any _
theorem cutTimeout : Statement .cutTimeout := of_any _
theorem loadCassette (ch : ChannelId) (b : Block) : Statement (.loadCassette ch b) := of_any _
theorem resumeExposure (ch : ChannelId) (b : Block) : Statement (.resumeExposure ch b) := of_any _
theorem advanceFilm (ch : ChannelId) (b : Block) : Statement (.advanceFilm ch b) := of_any _
theorem cutFilm (ch : ChannelId) (b : Block) : Statement (.cutFilm ch b) := of_any _
theorem queryExposure (ch : ChannelId) (b : Block) : Statement (.queryExposure ch b) := of_any _
theorem lidClosedFall : Statement .lidClosedFall := of_any _
theorem cassettePresentFall : Statement .cassettePresentFall := of_any _
theorem paperPresentFall : Statement .paperPresentFall := of_any _
theorem paperPresentRise : Statement .paperPresentRise := of_any _
theorem sensorChangeAccepted (line : DebouncedLine) (level : Bool) : Statement (.sensorChangeAccepted line level) := of_any _
theorem printerBusyChange (level : Bool) : Statement (.printerBusyChange level) := of_any _
theorem loadProofCells (ch : ChannelId) (b : Block) : Statement (.loadProofCells ch b) := of_any _
theorem queryProof (ch : ChannelId) (b : Block) : Statement (.queryProof ch b) := of_any _
theorem portTransfer : Statement .portTransfer := of_any _
theorem start (ch : ChannelId) (stopBit : Bool) : Statement (.start ch stopBit) := of_any _
theorem stop (ch : ChannelId) : Statement (.stop ch) := of_any _
theorem channelReset (ch : ChannelId) : Statement (.channelReset ch) := of_any _
theorem chainRegisterWrite (ch : ChannelId) (value : Word) : Statement (.chainRegisterWrite ch value) := of_any _
theorem fetchComplete (ch : ChannelId) (f : Fetched) : Statement (.fetchComplete ch f) := of_any _
theorem detachedMarkClear (ch : ChannelId) : Statement (.detachedMarkClear ch) := of_any _
theorem postingComplete (ch : ChannelId) (fault : Option Nat) : Statement (.postingComplete ch fault) := of_any _
theorem terminationStatusRead (ch : ChannelId) : Statement (.terminationStatusRead ch) := of_any _
theorem attnWrite (value : Word) : Statement (.attnWrite value) := of_any _
theorem attnEnWrite (value : Word) : Statement (.attnEnWrite value) := of_any _
theorem cfgIndexWrite (value : Word) : Statement (.cfgIndexWrite value) := of_any _
theorem configWrite (value : Byte) : Statement (.configWrite value) := of_any _
theorem tNomLowWrite (value : Byte) : Statement (.tNomLowWrite value) := of_any _
theorem tNomHighWrite (value : Byte) : Statement (.tNomHighWrite value) := of_any _
theorem quiescentConfigWrite (value : Byte) : Statement (.quiescentConfigWrite value) := of_any _
theorem stationMapWrite (value : Byte) : Statement (.stationMapWrite value) := of_any _
theorem sensorInversionWrite (value : Byte) : Statement (.sensorInversionWrite value) := of_any _
theorem debounceEnableWrite (value : Byte) : Statement (.debounceEnableWrite value) := of_any _
theorem sensorEventStatusRead : Statement .sensorEventStatusRead := of_any _
theorem cutterHomeFall : Statement .cutterHomeFall := of_any _
theorem encoderLevelChange (line : EncoderLine) (level : Bool) (elapsed : Nat) : Statement (.encoderLevelChange line level elapsed) := of_any _
theorem falseLevelAccepted (line : EncoderLine) : Statement (.falseLevelAccepted line) := of_any _
theorem sensorLevelChange (line : SensorLine) (level : Bool) : Statement (.sensorLevelChange line level) := of_any _
theorem readOnlyEntryWrite (value : Byte) : Statement (.readOnlyEntryWrite value) := of_any _

end Sys2Proof.Laws.WordSpelling
end

