-- ==== Sys2Proof/Laws/Proof.lean ====
section
/-! SUPPORT. The flag cells differ, whatever their patterns are (R154). -/

namespace Sys2Proof.Machine

theorem seedPattern_injective {j k : Nat} (hj : j < 256) (hk : k < 256) (h : seedPattern j = seedPattern k) : j = k := by
  have e : byteOf j = byteOf k := by
    have := congrArg (fun v : Vector Byte 12 => v[0]) h
    simpa [seedPattern] using this
  have := congrArg BitVec.toNat e
  simpa [byteOf, Nat.mod_eq_of_lt hj, Nat.mod_eq_of_lt hk] using this

theorem solidPattern_eq : solidPattern = seedPattern 255 := rfl

/-- Two flag cells have different patterns. -/
theorem flagCell_injective {j k : Nat} (hj : j < 6) (hk : k < 6) (h : flagCell j = flagCell k) : j = k :=
  seedPattern_injective (by omega) (by omega) (Config.flagPatterns.injective ((Equiv.swap _ _).injective h))

/-- No flag cell is the solid box. -/
theorem flagCell_ne_solid {k : Nat} (hk : k < 6) : flagCell k ≠ solidPattern := by
  intro h
  have e : Equiv.swap (Config.flagPatterns solidPattern) solidPattern (Config.flagPatterns solidPattern) = solidPattern :=
    Equiv.swap_apply_left _ _
  have := Config.flagPatterns.injective ((Equiv.swap _ _).injective (h.trans e.symm))
  rw [solidPattern_eq] at this
  have := seedPattern_injective (by omega) (by omega) this
  omega

end Sys2Proof.Machine
end

