-- ==== Sys2Proof/Laws/Settled.lean ====
section
/-! SUPPORT. Which updates leave a settled state settled, field by field and request by request. -/

namespace Sys2Proof.Machine

/-! ### The fields of a state at the start of an event, with a posting, a refusal or a waiting request -/

@[simp] theorem State.fresh_fonts (s : State) : (s.fresh).fonts = s.fonts := rfl
@[simp] theorem State.fresh_galleys (s : State) : (s.fresh).galleys = s.galleys := rfl
@[simp] theorem State.fresh_engine (s : State) : (s.fresh).engine = s.engine := rfl
@[simp] theorem State.fresh_dict (s : State) : (s.fresh).dict = s.dict := rfl
@[simp] theorem State.fresh_store (s : State) : (s.fresh).store = s.store := rfl
@[simp] theorem State.fresh_photo (s : State) : (s.fresh).photo = s.photo := rfl
@[simp] theorem State.fresh_exposure (s : State) : (s.fresh).exposure = s.exposure := rfl
@[simp] theorem State.fresh_film (s : State) : (s.fresh).film = s.film := rfl
@[simp] theorem State.fresh_proof (s : State) : (s.fresh).proof = s.proof := rfl
@[simp] theorem State.fresh_channels (s : State) : (s.fresh).channels = s.channels := rfl
@[simp] theorem State.fresh_attn (s : State) : (s.fresh).attn = s.attn := rfl
@[simp] theorem State.fresh_attnEn (s : State) : (s.fresh).attnEn = s.attnEn := rfl
@[simp] theorem State.fresh_config (s : State) : (s.fresh).config = s.config := rfl
@[simp] theorem State.fresh_sensors (s : State) : (s.fresh).sensors = s.sensors := rfl
@[simp] theorem State.fresh_drives (s : State) : (s.fresh).drives = s.drives := rfl
@[simp] theorem State.fresh_readData (s : State) : (s.fresh).readData = s.readData := rfl
@[simp] theorem State.fresh_free (s : State) : (s.fresh).free = s.free := rfl
@[simp] theorem State.fresh_pending (s : State) : (s.fresh).pending = s.pending := rfl

@[simp] theorem State.posts_fonts (s : State) (ch : ChannelId) (r : Request) (c : Completion) (d : Half) (bs : List Byte) : (s.posts ch r c d bs).fonts = s.fonts := rfl
@[simp] theorem State.posts_galleys (s : State) (ch : ChannelId) (r : Request) (c : Completion) (d : Half) (bs : List Byte) : (s.posts ch r c d bs).galleys = s.galleys := rfl
@[simp] theorem State.posts_engine (s : State) (ch : ChannelId) (r : Request) (c : Completion) (d : Half) (bs : List Byte) : (s.posts ch r c d bs).engine = s.engine := rfl
@[simp] theorem State.posts_dict (s : State) (ch : ChannelId) (r : Request) (c : Completion) (d : Half) (bs : List Byte) : (s.posts ch r c d bs).dict = s.dict := rfl
@[simp] theorem State.posts_store (s : State) (ch : ChannelId) (r : Request) (c : Completion) (d : Half) (bs : List Byte) : (s.posts ch r c d bs).store = s.store := rfl
@[simp] theorem State.posts_photo (s : State) (ch : ChannelId) (r : Request) (c : Completion) (d : Half) (bs : List Byte) : (s.posts ch r c d bs).photo = s.photo := rfl
@[simp] theorem State.posts_exposure (s : State) (ch : ChannelId) (r : Request) (c : Completion) (d : Half) (bs : List Byte) : (s.posts ch r c d bs).exposure = s.exposure := rfl
@[simp] theorem State.posts_film (s : State) (ch : ChannelId) (r : Request) (c : Completion) (d : Half) (bs : List Byte) : (s.posts ch r c d bs).film = s.film := rfl
@[simp] theorem State.posts_proof (s : State) (ch : ChannelId) (r : Request) (c : Completion) (d : Half) (bs : List Byte) : (s.posts ch r c d bs).proof = s.proof := rfl
@[simp] theorem State.posts_attn (s : State) (ch : ChannelId) (r : Request) (c : Completion) (d : Half) (bs : List Byte) : (s.posts ch r c d bs).attn = s.attn := rfl
@[simp] theorem State.posts_attnEn (s : State) (ch : ChannelId) (r : Request) (c : Completion) (d : Half) (bs : List Byte) : (s.posts ch r c d bs).attnEn = s.attnEn := rfl
@[simp] theorem State.posts_config (s : State) (ch : ChannelId) (r : Request) (c : Completion) (d : Half) (bs : List Byte) : (s.posts ch r c d bs).config = s.config := rfl
@[simp] theorem State.posts_sensors (s : State) (ch : ChannelId) (r : Request) (c : Completion) (d : Half) (bs : List Byte) : (s.posts ch r c d bs).sensors = s.sensors := rfl
@[simp] theorem State.posts_drives (s : State) (ch : ChannelId) (r : Request) (c : Completion) (d : Half) (bs : List Byte) : (s.posts ch r c d bs).drives = s.drives := rfl
@[simp] theorem State.posts_pulses (s : State) (ch : ChannelId) (r : Request) (c : Completion) (d : Half) (bs : List Byte) : (s.posts ch r c d bs).pulses = s.pulses := rfl
@[simp] theorem State.posts_readData (s : State) (ch : ChannelId) (r : Request) (c : Completion) (d : Half) (bs : List Byte) : (s.posts ch r c d bs).readData = s.readData := rfl
@[simp] theorem State.posts_free (s : State) (ch : ChannelId) (r : Request) (c : Completion) (d : Half) (bs : List Byte) : (s.posts ch r c d bs).free = s.free := rfl
@[simp] theorem State.posts_pending (s : State) (ch : ChannelId) (r : Request) (c : Completion) (d : Half) (bs : List Byte) : (s.posts ch r c d bs).pending = s.pending := rfl

@[simp] theorem State.waits_fonts (s : State) (ch : ChannelId) (r : Request) : (s.waits ch r).fonts = s.fonts := rfl
@[simp] theorem State.waits_galleys (s : State) (ch : ChannelId) (r : Request) : (s.waits ch r).galleys = s.galleys := rfl
@[simp] theorem State.waits_engine (s : State) (ch : ChannelId) (r : Request) : (s.waits ch r).engine = s.engine := rfl
@[simp] theorem State.waits_dict (s : State) (ch : ChannelId) (r : Request) : (s.waits ch r).dict = s.dict := rfl
@[simp] theorem State.waits_store (s : State) (ch : ChannelId) (r : Request) : (s.waits ch r).store = s.store := rfl
@[simp] theorem State.waits_photo (s : State) (ch : ChannelId) (r : Request) : (s.waits ch r).photo = s.photo := rfl
@[simp] theorem State.waits_exposure (s : State) (ch : ChannelId) (r : Request) : (s.waits ch r).exposure = s.exposure := rfl
@[simp] theorem State.waits_film (s : State) (ch : ChannelId) (r : Request) : (s.waits ch r).film = s.film := rfl
@[simp] theorem State.waits_proof (s : State) (ch : ChannelId) (r : Request) : (s.waits ch r).proof = s.proof := rfl
@[simp] theorem State.waits_attn (s : State) (ch : ChannelId) (r : Request) : (s.waits ch r).attn = s.attn := rfl
@[simp] theorem State.waits_attnEn (s : State) (ch : ChannelId) (r : Request) : (s.waits ch r).attnEn = s.attnEn := rfl
@[simp] theorem State.waits_config (s : State) (ch : ChannelId) (r : Request) : (s.waits ch r).config = s.config := rfl
@[simp] theorem State.waits_sensors (s : State) (ch : ChannelId) (r : Request) : (s.waits ch r).sensors = s.sensors := rfl
@[simp] theorem State.waits_drives (s : State) (ch : ChannelId) (r : Request) : (s.waits ch r).drives = s.drives := rfl
@[simp] theorem State.waits_pulses (s : State) (ch : ChannelId) (r : Request) : (s.waits ch r).pulses = s.pulses := rfl
@[simp] theorem State.waits_readData (s : State) (ch : ChannelId) (r : Request) : (s.waits ch r).readData = s.readData := rfl
@[simp] theorem State.waits_free (s : State) (ch : ChannelId) (r : Request) : (s.waits ch r).free = s.free := rfl
@[simp] theorem State.waits_pending (s : State) (ch : ChannelId) (r : Request) : (s.waits ch r).pending = s.pending := rfl

@[simp] theorem State.refuses_fonts (s : State) (ch : ChannelId) (r : Request) (c : Completion) : (s.refuses ch r c).fonts = s.fonts := rfl
@[simp] theorem State.refuses_galleys (s : State) (ch : ChannelId) (r : Request) (c : Completion) : (s.refuses ch r c).galleys = s.galleys := rfl
@[simp] theorem State.refuses_engine (s : State) (ch : ChannelId) (r : Request) (c : Completion) : (s.refuses ch r c).engine = s.engine := rfl
@[simp] theorem State.refuses_dict (s : State) (ch : ChannelId) (r : Request) (c : Completion) : (s.refuses ch r c).dict = s.dict := rfl
@[simp] theorem State.refuses_store (s : State) (ch : ChannelId) (r : Request) (c : Completion) : (s.refuses ch r c).store = s.store := rfl
@[simp] theorem State.refuses_photo (s : State) (ch : ChannelId) (r : Request) (c : Completion) : (s.refuses ch r c).photo = s.photo := rfl
@[simp] theorem State.refuses_exposure (s : State) (ch : ChannelId) (r : Request) (c : Completion) : (s.refuses ch r c).exposure = s.exposure := rfl
@[simp] theorem State.refuses_film (s : State) (ch : ChannelId) (r : Request) (c : Completion) : (s.refuses ch r c).film = s.film := rfl
@[simp] theorem State.refuses_proof (s : State) (ch : ChannelId) (r : Request) (c : Completion) : (s.refuses ch r c).proof = s.proof := rfl
@[simp] theorem State.refuses_attn (s : State) (ch : ChannelId) (r : Request) (c : Completion) : (s.refuses ch r c).attn = s.attn := rfl
@[simp] theorem State.refuses_attnEn (s : State) (ch : ChannelId) (r : Request) (c : Completion) : (s.refuses ch r c).attnEn = s.attnEn := rfl
@[simp] theorem State.refuses_config (s : State) (ch : ChannelId) (r : Request) (c : Completion) : (s.refuses ch r c).config = s.config := rfl
@[simp] theorem State.refuses_sensors (s : State) (ch : ChannelId) (r : Request) (c : Completion) : (s.refuses ch r c).sensors = s.sensors := rfl
@[simp] theorem State.refuses_drives (s : State) (ch : ChannelId) (r : Request) (c : Completion) : (s.refuses ch r c).drives = s.drives := rfl
@[simp] theorem State.refuses_pulses (s : State) (ch : ChannelId) (r : Request) (c : Completion) : (s.refuses ch r c).pulses = s.pulses := rfl
@[simp] theorem State.refuses_readData (s : State) (ch : ChannelId) (r : Request) (c : Completion) : (s.refuses ch r c).readData = s.readData := rfl
@[simp] theorem State.refuses_pending (s : State) (ch : ChannelId) (r : Request) (c : Completion) : (s.refuses ch r c).pending = s.pending := rfl

@[simp] theorem State.fresh_font (s : State) (i : FontSlot) : (s.fresh).font i = s.font i := rfl
@[simp] theorem State.posts_font (s : State) (ch : ChannelId) (r : Request) (c : Completion) (d : Half) (bs : List Byte) (i : FontSlot) : (s.posts ch r c d bs).font i = s.font i := rfl
@[simp] theorem State.waits_font (s : State) (ch : ChannelId) (r : Request) (i : FontSlot) : (s.waits ch r).font i = s.font i := rfl
@[simp] theorem State.refuses_font (s : State) (ch : ChannelId) (r : Request) (c : Completion) (i : FontSlot) : (s.refuses ch r c).font i = s.font i := rfl
@[simp] theorem State.fresh_galley (s : State) (g : GalleyId) : (s.fresh).galley g = s.galley g := rfl
@[simp] theorem State.posts_galley (s : State) (ch : ChannelId) (r : Request) (c : Completion) (d : Half) (bs : List Byte) (g : GalleyId) : (s.posts ch r c d bs).galley g = s.galley g := rfl
@[simp] theorem State.waits_galley (s : State) (ch : ChannelId) (r : Request) (g : GalleyId) : (s.waits ch r).galley g = s.galley g := rfl
@[simp] theorem State.refuses_galley (s : State) (ch : ChannelId) (r : Request) (c : Completion) (g : GalleyId) : (s.refuses ch r c).galley g = s.galley g := rfl

/-! ### Updates that keep a settled state settled -/

/-- What the reactions read of a state, in its own fields. -/
theorem settled_of_fields {s t : State} (galleys : ∀ g, (t.galley g).face = (s.galley g).face)
    (store : t.store = s.store) (idle : t.exposureIdle = s.exposureIdle)
    (verify : t.photo.verify.isNone = s.photo.verify.isNone) (proof : t.proof = s.proof) (engine : t.engine = s.engine)
    (dict : t.dict = s.dict) (channels : t.channels = s.channels) : t.settled = s.settled :=
  settled_congr galleys store idle verify (by rw [proof]) (by rw [proof]) engine dict
    fun ch => tryHandOver_congr (by rw [State.channel, channels, State.channel])

@[simp] theorem settled_fresh (s : State) : (s.fresh).settled = s.settled := by
  apply settled_of_fields <;> simp [State.galley, State.exposureIdle]

@[simp] theorem settled_bumpFree (s : State) : (s.bumpFree).settled = s.settled := by
  apply settled_of_fields <;> simp [State.galley, State.exposureIdle]

@[simp] theorem settled_modFont (s : State) (i : FontSlot) (f : FontRecord → FontRecord) : (s.modFont i f).settled = s.settled := by
  apply settled_of_fields <;> simp [State.galley, State.exposureIdle]

@[simp] theorem settled_modConfig (s : State) (f : ConfigSpace → ConfigSpace) : (s.modConfig f).settled = s.settled := by
  apply settled_of_fields <;> simp [State.galley, State.exposureIdle]

@[simp] theorem settled_modSensors (s : State) (f : Sensors → Sensors) : (s.modSensors f).settled = s.settled := by
  apply settled_of_fields <;> simp [State.galley, State.exposureIdle]

@[simp] theorem settled_modDrives (s : State) (f : Drives → Drives) : (s.modDrives f).settled = s.settled := by
  apply settled_of_fields <;> simp [State.galley, State.exposureIdle]

@[simp] theorem settled_modFilm (s : State) (f : Film → Film) : (s.modFilm f).settled = s.settled := by
  apply settled_of_fields <;> simp [State.galley, State.exposureIdle]

@[simp] theorem settled_raise (s : State) (a : Attn) : (s.raise a).settled = s.settled := by
  apply settled_of_fields <;> simp [State.galley, State.exposureIdle]

@[simp] theorem settled_pulse (s : State) (p : Pulse) : (s.pulse p).settled = s.settled := by
  apply settled_of_fields <;> simp [State.galley, State.exposureIdle]

@[simp] theorem settled_modPhoto (s : State) (f : Photo → Photo)
    (h : (f s.photo).verify.isNone = s.photo.verify.isNone) : (s.modPhoto f).settled = s.settled := by
  apply settled_of_fields <;> simp [State.galley, State.exposureIdle, h]

@[simp] theorem settled_modExposure (s : State) (f : Exposure → Exposure)
    (h : (s.modExposure f).exposureIdle = s.exposureIdle) : (s.modExposure f).settled = s.settled := by
  apply settled_of_fields <;> simp [State.galley, h]

@[simp] theorem settled_modGalley (s : State) (g : GalleyId) (f : Galley → Galley)
    (h : (f (s.galley g)).face = (s.galley g).face) : (s.modGalley g f).settled = s.settled := by
  refine settled_of_fields (fun k => ?_) ?_ ?_ ?_ ?_ ?_ ?_ ?_
  · by_cases e : g = k
    · subst e; simp only [State.galley, State.modGalley_galleys, vget_vset_self]; exact h
    · simp [State.galley, vget_vset_ne _ _ _ _ e]
  all_goals simp [State.exposureIdle]

@[simp] theorem settled_modProof (s : State) (f : ProofGen → ProofGen) (h : (f s.proof).port = s.proof.port)
    (h' : (f s.proof).buffers = s.proof.buffers) : (s.modProof f).settled = s.settled := by
  refine settled_congr ?_ ?_ ?_ ?_ ?_ ?_ ?_ ?_ (fun ch => tryHandOver_congr rfl) <;> simp [State.galley, State.exposureIdle, h, h']

theorem settled_posts {s : State} {ch : ChannelId} (h : s.readyFor ch) (r : Request) (c : Completion) (d : Half)
    (bs : List Byte) : (s.posts ch r c d bs).settled = s.settled := by
  refine settled_congr ?_ ?_ ?_ ?_ ?_ ?_ ?_ ?_ (fun k => tryHandOver_posts k ch _ _ _ _ h) <;> simp [State.exposureIdle]

theorem settled_waits {s : State} {ch : ChannelId} (h : s.readyFor ch) (r : Request) :
    (s.waits ch r).settled = s.settled := by
  refine settled_congr ?_ ?_ ?_ ?_ ?_ ?_ ?_ ?_ (fun k => tryHandOver_waits k ch _ h) <;> simp [State.exposureIdle]

theorem settled_refuses {s : State} {ch : ChannelId} (h : s.readyFor ch) (r : Request) (c : Completion) :
    (s.refuses ch r c).settled = s.settled := by
  rw [State.refuses, settled_bumpFree, settled_posts h]

/-- A ready channel stays ready under an update that keeps the channels. -/
theorem State.readyFor_congr {s t : State} {ch : ChannelId} (h : t.channels = s.channels) :
    t.readyFor ch ↔ s.readyFor ch := by
  simp only [State.readyFor, State.channel, h]

/-! ### Requests -/

/-- A request that its owner refuses when it takes it. -/
theorem request_refused {s : State} {ch : ChannelId} {c : Completion} {code : Byte} {b : Block} (h : s.readyFor ch)
    (fits : b.payload.length ≤ 1024)
    (e : ∀ t, t = s.fresh.waits ch { code := code, block := b } →
      ownerTakes ch { code := code, block := b } t = refuse ch c t) :
    EventTo (requestEvent code ch b s) s (s.fresh.refuses ch { code := code, block := b } c) := by
  have k : s.fresh.readyFor ch := (State.readyFor_congr rfl).2 h
  refine eventTo_of_settled ?_ ?_
  · rw [requestEvent_ready h _ _ fits, e _ rfl, refuse_handed (State.waits_handed _ k), refuses_waits]
  · rw [settled_refuses k, settled_fresh]

/-- A request that its owner completes when it takes it, with an effect `f` that keeps the channels. -/
theorem request_completed {s : State} {ch : ChannelId} {c : Completion} {detail : Half} {bytes : List Byte}
    {code : Byte} {b : Block} (f : State → State) (h : s.readyFor ch) (fits : b.payload.length ≤ 1024)
    (keep : ∀ t, (f t).channels = t.channels)
    (past : ∀ t, f (t.waits ch { code := code, block := b }) = (f t).waits ch { code := code, block := b })
    (e : ∀ t, t = s.fresh.waits ch { code := code, block := b } →
      ownerTakes ch { code := code, block := b } t = complete ch c detail bytes (f t)) :
    requestEvent code ch b s =
      .next (react ((f s.fresh).posts ch { code := code, block := b } c detail bytes)) := by
  have k : s.fresh.readyFor ch := (State.readyFor_congr rfl).2 h
  have w : (f (s.fresh.waits ch { code := code, block := b })).handed ch { code := code, block := b } :=
    (State.handed_congr (by simp only [State.channel, keep])).2 (State.waits_handed _ k)
  rw [requestEvent_ready h _ _ fits, e _ rfl, complete_handed w, past, posts_waits]

/-- The same, with an effect that wakes no reaction. -/
theorem request_completed_settled {s : State} {ch : ChannelId} {c : Completion} {detail : Half} {bytes : List Byte}
    {code : Byte} {b : Block} (f : State → State) (h : s.readyFor ch) (fits : b.payload.length ≤ 1024)
    (keep : ∀ t, (f t).channels = t.channels)
    (past : ∀ t, f (t.waits ch { code := code, block := b }) = (f t).waits ch { code := code, block := b })
    (still : ∀ t, (f t).settled = t.settled)
    (e : ∀ t, t = s.fresh.waits ch { code := code, block := b } →
      ownerTakes ch { code := code, block := b } t = complete ch c detail bytes (f t)) :
    EventTo (requestEvent code ch b s) s
      ((f s.fresh).posts ch { code := code, block := b } c detail bytes) := by
  have k : (f s.fresh).readyFor ch := (State.readyFor_congr (keep _)).2 ((State.readyFor_congr rfl).2 h)
  refine eventTo_of_settled (request_completed f h fits keep past e) ?_
  rw [settled_posts k, still, settled_fresh]

end Sys2Proof.Machine
end

