-- ==== Sys2Proof/Laws/Time.lean ====
section
/-! SUPPORT. What the passing of time does, written out once, and when it passes without an event. -/

namespace Sys2Proof.Machine

/-! ### A timer -/

@[simp] theorem countDown_none (n : Nat) : countDown n none = none := rfl
@[simp] theorem countDown_some (n k : Nat) : countDown n (some k) = some (k - n) := rfl
@[simp] theorem countDown_zero (t : Option Nat) : countDown 0 t = t := by cases t <;> rfl
@[simp] theorem countDown_isSome (n : Nat) (t : Option Nat) : (countDown n t).isSome = t.isSome := by cases t <;> rfl
@[simp] theorem Lamp.countDown_zero (l : Lamp) : l.countDown 0 = l := by cases l <;> rfl
@[simp] theorem LineFilter.countDown_accepted (n : Nat) (f : LineFilter) : (f.countDown n).accepted = f.accepted := rfl
@[simp] theorem LineFilter.countDown_timing (n : Nat) (f : LineFilter) :
    (f.countDown n).timing = Machine.countDown n f.timing := rfl

/-! ### The passing of time -/

/-- What `n` ticks do, in one record. -/
theorem advanceTime_eq (n : Nat) (s : State) :
    advanceTime n s =
      { s with
        photo := { s.photo with
          count := if s.photo.counting then min maxCount (s.photo.count + n) else s.photo.count
          indexTimer := countDown n s.photo.indexTimer, turretTimer := countDown n s.photo.turretTimer
          lensTimer := countDown n s.photo.lensTimer, carriageTimer := countDown n s.photo.carriageTimer
          lamp := s.photo.lamp.countDown n, delay := countDown n s.photo.delay
          lockWatch := countDown n s.photo.lockWatch }
        sensors := { s.sensors with
          index := s.sensors.index.countDown n, slot := s.sensors.slot.countDown n
          cassette := s.sensors.cassette.countDown n, lid := s.sensors.lid.countDown n
          paper := s.sensors.paper.countDown n }
        film := { s.film with timer := countDown n s.film.timer }
        exposure := { s.exposure with cutTimer := countDown n s.exposure.cutTimer } } := rfl

/-- No time has passed with 0 ticks, where the count has not passed its end. -/
theorem advanceTime_zero (s : State) (h : s.photo.count ≤ maxCount) : advanceTime 0 s = s := by
  have e : (if s.photo.counting then min maxCount (s.photo.count + 0) else s.photo.count) = s.photo.count := by
    split
    · simpa using h
    · rfl
  simp only [advanceTime_eq, e, countDown_zero, Lamp.countDown_zero, LineFilter.countDown]

theorem quietFor_zero (s : State) : s.quietFor 0 = true := by
  simp only [State.quietFor, List.all_eq_true]
  intro t _
  cases t <;> simp

/-- A quiet time is quiet up to any moment of it. -/
theorem quietFor_mono {n m : Nat} (le : m ≤ n) {s : State} (h : s.quietFor n = true) : s.quietFor m = true := by
  simp only [State.quietFor, List.all_eq_true] at h ⊢
  intro t ht
  have := h t ht
  cases t with
  | none => rfl
  | some k => simp only [Option.all_some, decide_eq_true_eq] at this ⊢; omega

/-- With no timer due a tick passes. -/
theorem tick_of_none {s : State} (h : dueCommands s = []) : tick s = advanceTime 1 s := by simp [tick, h]

/-- The first due command is queued. -/
theorem tick_of_cons {s : State} {c : Instr} {rest : List Instr} (h : dueCommands s = c :: rest) :
    tick s = { s with pending := s.pending ++ [c] } := by simp [tick, h]

/-! ### A change on an encoder line -/

theorem timedWithin_none {l : EncoderLine} {n : Nat} {s : State} (h : ∀ k, (s.encoder l).timing = some k → n ≤ k) :
    s.timedWithin l n = none := by
  unfold State.timedWithin
  cases e : (s.encoder l).timing with
  | none => rfl
  | some k => simpa [Option.filter] using h k e

/-- With no change of the line whose time is up, the ticks simply pass. -/
theorem timeBefore_of_none {l : EncoderLine} {n : Nat} {s : State} (h : s.timedWithin l n = none) :
    timeBefore l n s = advanceTime n s := by simp [timeBefore, h]

theorem quietBefore_of_none {l : EncoderLine} {n : Nat} {s : State} (h : s.timedWithin l n = none) :
    s.quietBefore l n = s.quietFor n := by simp [State.quietBefore, h]

end Sys2Proof.Machine
end

