-- ==== Sys2Proof/WellFormed.lean ====
section
/-! DEFINITION. When a command is one that the part can meet. -/

namespace Sys2Proof

/-- A channel hands over no payload above 1,024 bytes (R166). -/
def Block.wellFormed (b : Block) : Bool := b.payload.length ≤ 1024

/-- The bytes read for a payload are as many as the header's payload length, bytes 14-15, says, and none when the
header is malformed and the payload is not read (R166; spec 10, 10.6). -/
def Fetched.wellFormed : Fetched → Bool
  | .busError => true
  | .block h p =>
    let len := h[14].toNat + 256 * h[15].toNat
    if h[19] ≠ 0 ∨ len > 1024 then p.isEmpty else p.length == len

/-- The operands of the command are such as the part can be given. The number of bytes that a posting wrote before its
bus error is below what it had to write at most: 65,535 reply bytes and 8 status bytes (R168). -/
def Instr.wellFormed : Instr → Bool
  | .loadFont _ b | .amendFont _ b | .placeFont _ b | .retireFont _ b | .queryFont _ b
  | .openGalley _ b | .setText _ b | .setPriority _ b | .cancelGalley _ b | .queryGalley _ b
  | .addWords _ b | .amendWord _ b | .deleteWord _ b | .lookUpWord _ b | .purgeDesk _ b
  | .verifyStations _ b | .queryPhotoUnit _ b | .loadCassette _ b | .resumeExposure _ b | .advanceFilm _ b
  | .cutFilm _ b | .queryExposure _ b | .loadProofCells _ b | .queryProof _ b => b.wellFormed
  | .fetchComplete _ f => f.wellFormed
  | .postingComplete _ (some k) => k < 65535 + 8
  | .postingComplete _ none => true
  | .powerOnReset | .compositionReset | .takeItem | .settleWord | .lookupAnswer | .dictionaryOperationComplete
  | .indexPulse _ | .slotPulse | .indexTimeout | .flashDelayExpiry | .flashComplete | .turretArrival _ _
  | .turretReadyFall | .turretTimeout | .lockWatchExpiry | .lensArrival | .lensReadyFall | .lensTimeout
  | .carriageStep | .filmStep | .cutComplete | .cutTimeout | .lidClosedFall | .cassettePresentFall
  | .paperPresentFall | .paperPresentRise | .sensorChangeAccepted _ _ | .printerBusyChange _ | .portTransfer
  | .start _ _ | .stop _ | .channelReset _ | .chainRegisterWrite _ _ | .detachedMarkClear _
  | .terminationStatusRead _ | .attnWrite _ | .attnEnWrite _ | .cfgIndexWrite _ | .configWrite _
  | .tNomLowWrite _ | .tNomHighWrite _ | .quiescentConfigWrite _ | .stationMapWrite _ | .sensorInversionWrite _
  | .debounceEnableWrite _ | .sensorEventStatusRead | .cutterHomeFall | .encoderLevelChange _ _ _
  | .falseLevelAccepted _ | .sensorLevelChange _ _ | .readOnlyEntryWrite _ => true

end Sys2Proof
end

