-- ==== Sys2Proof/Tests/Slice0.lean ====
section
/-! SUPPORT. The model's own tests: ill-formed commands, worked examples of the spec, and for every statement with
hypotheses a state and operands that meet them (each clause by itself). -/

namespace Sys2Proof.Tests

open Sys2Proof Sys2Proof.Machine

-- The kernel evaluates these tests one after another.
set_option Elab.async false

/-! ### Helpers -/

/-- A block with a target and a payload; its link is 0, and a status is to be posted. -/
def blk (target : Byte) (payload : List Byte) : Block :=
  { link := 0, statusAddr := 0x100, replyAddr := 0x200, replyCap := 2, flags := 1, target := target, payload := payload }

def req (code : Byte) (b : Block) : Request := { code := code, block := b }

/-- The part after reset with CH0 fetching a block. -/
def fetching : State := State.reset.modChannel 0 fun k => { k with state := .fetching, chain := 0x40 }

/-- CH0 waits with a request. -/
def waitingFor (r : Request) : State :=
  State.reset.modChannel 0 fun k => { k with state := .waiting, inFlight := some r }

/-- The record of a slot made LIVE with a number. -/
def withFont (i : FontSlot) (n : Nat) (s : State) : State :=
  s.modFont i fun x => { x with state := .live, number := n, widths := Vector.replicate 96 10 }

/-- The payload of LOAD FONT: no name, proof set 0, widths 20, no kerning. -/
def fontPayload : List Byte := List.replicate 14 0 ++ List.replicate 96 20 ++ [0]

def atIndex (i : Byte) (s : State) : State := s.modConfig fun c => { c with index := i }

def answer (a : Answer) : Option State :=
  match a with
  | .next t => some t
  | _ => none

/-- A glyph of a line. -/
def glyphA : SetGlyph := { code := 3, slot := 0, size := 12, x := 100, absent := false }

def work (next : Nat) (step : LineStep) : LineWork :=
  { slot := 0, galley := 0, seq := 0, order := [glyphA], next := next, step := step }

/-- A line in exposure at a step of its only glyph. -/
def inLine (step : LineStep) : State := State.reset.modExposure fun e => { e with work := .line (work 1 step) }

def lineRec : LineRecord :=
  { galley := 0, seq := 0, depth := 0, flags := {}, glyphs := [glyphA], film := true, proof := false,
    filmProgress := .inExposure, proofProgress := .notBegun }

def placement0 : Placement := { station := 0, track := 0, code := 5 }

/-- All flash conditions hold for the glyph, whose request is armed. -/
def armedRequest : FlashRequest := { code := 3, slot := 0, lens := 0, x := 100 }

def readyToFlash : State :=
  (((withFont 0 1 State.reset).modFont 0 fun x =>
      { x with placement := some placement0, verification := .verified }).modPhoto fun p =>
      { p with disc := .locked, turret := .standing 0, lens := .standing 0, carriage := .settled, position := 100,
               flash := some armedRequest, period := 80000, slotCount := 3 }).modSensors fun x =>
      { x with lid := { accepted := true, timing := none } }

def loaded (s : State) : State := s.modFilm fun f => { f with loaded := true, length := 1440 }

theorem flashAllowed_readyToFlash : FlashAllowed armedRequest readyToFlash :=
  ⟨by decide +kernel, ⟨placement0, by decide +kernel⟩, by decide +kernel, by decide +kernel, by decide +kernel,
    by decide +kernel, by decide +kernel⟩

/-- Galley 0 OPEN with a buffer, in service, font slot 0 current. -/
def serving (buffer : List Byte) : State :=
  ((withFont 0 1 State.reset).modGalley 0 fun x =>
      { x with state := .opened, font := some 0, size := 12, leading := 24, measure := 100, priority := 1,
               buffer := buffer }).modEngine fun _ => { state := .serving 0, lastServed := 0 }

def glyphB (n : Nat) : BGlyph :=
  { code := 1, slot := 0, size := 12, track := 0, width := 10, absent := false, advance := n }

def openBuilder (f : Builder → Builder) (s : State) : State :=
  s.modBuilder 0 fun b => f { b with isOpen := true, latched := { Latched.blank with measure := 16000 } }

/-! ### Ill-formed commands -/

theorem test_wellFormed_refuses_long_payload :
    Instr.wellFormed (.setText 0 (blk 0 (List.replicate 1025 0))) = false := by decide +kernel

theorem test_wellFormed_accepts_full_payload :
    Instr.wellFormed (.setText 0 (blk 0 (List.replicate 1024 0))) = true := by decide +kernel

theorem test_wellFormed_refuses_short_fetch :
    Instr.wellFormed (.fetchComplete 0 (.block ((Vector.replicate 20 0).set 14 3) [1, 2])) = false := by decide +kernel

theorem test_wellFormed_refuses_payload_of_bad_header :
    Instr.wellFormed (.fetchComplete 0 (.block ((Vector.replicate 20 0).set 19 1) [1])) = false := by decide +kernel

theorem test_wellFormed_refuses_fault_past_the_end :
    Instr.wellFormed (.postingComplete 0 (some 65543)) = false := by decide +kernel

/-! ### The machine -/

theorem test_no_word_is_a_command : decodeTableWord 32 0xFFFFFFFF = none := rfl

theorem test_withFetchWord_keeps_the_state : State.reset.withFetchWord 8 0 = State.reset := rfl

theorem test_step_takes_the_front_command :
    step { State.reset with pending := [.attnEnWrite 0xFFFFFFFF, .slotPulse] } =
      .next { State.reset with attnEn := 0xFF7F, pending := [.slotPulse] } := rfl

theorem test_tick_counts_down :
    (answer (step State.reset)).map (fun t => (t.photo.indexTimer, t.photo.carriageTimer)) =
      some (some 159999, some 7) := by decide +kernel

theorem test_due_timer_queues_its_command :
    (answer (step (State.reset.modPhoto fun p => { p with carriageTimer := some 0 }))).map (·.pending) =
      some [.carriageStep] := by decide +kernel

/-- R120: an index pulse accepted at the very end of the index timeout restarts it, and the timeout does not come. -/
def pulseAtTimeout : State :=
  (State.reset.modPhoto fun p => { p with indexTimer := some 0 }).modSensors fun x =>
    { x with inputs := 1, index := { accepted := false, timing := some 0 } }

theorem test_pulse_comes_before_timeout :
    dueCommands pulseAtTimeout = [.indexPulse 0, .indexTimeout] ∧
    (answer (step pulseAtTimeout)).map (·.pending) = some [.indexPulse 0] ∧
    ((answer (exec (.indexPulse 0) pulseAtTimeout)).map fun t => (t.photo.indexTimer, dueCommands t)) =
      some (some 160000, []) := by decide +kernel

/-- R116: a level that has held for the rejection time when the line returns is accepted, as a pulse. -/
theorem test_held_level_is_a_pulse :
    let s := (State.reset.modPhoto fun p => { p with carriageTimer := none }).modSensors fun x =>
      { x with inputs := 1, index := { accepted := false, timing := some 16 } }
    ([15, 16, 100].map fun n => (answer (exec (.encoderLevelChange .index false n) s)).map fun t =>
      (t.photo.counting, t.photo.count, t.sensors.index.timing)) =
    [some (false, 0, none), some (true, 0, some 16), some (true, 84, some 16)] := by decide +kernel

/-! ### Worked examples of the spec -/

/-- R27: sizes 22, 26, 40 and 0 hp with the default lens table. -/
theorem test_nearest_lens :
    [22, 26, 40, 0].map (fun n => nearestLens n State.reset) = [some 20, some 24, some 36, some 12] := by
  decide +kernel

/-- R156: flash position 1,448 stands at column 100. -/
theorem test_glyph_column : glyphColumn 1448 = 100 := by decide +kernel

/-- R159: the most significant bit of a byte carries the leftmost column. -/
theorem test_row_byte : rowByte 0x181#1248 0 = 0x81 ∧ rowByte 0x181#1248 1 = 0x80 := by decide +kernel

/-- R66: halves go to the even position. -/
theorem test_flash_position :
    [8, 24, 25, 23].map (flashPosition false) = [0, 2, 2, 1] ∧ flashPosition true 31 = 1 := by decide +kernel

def sp (min opt max : Nat) : BSpace := { kind := .interword, size := 12, min := min, opt := opt, max := max }

/-- Worked example 3.8 (R64): the justified line of measure 32,160 FU and natural width 31,400 FU. -/
theorem test_stretch :
    spacing .justify true [sp 600 800 1600, sp 600 800 1600, sp 600 800 1600] 32160 31400 =
      { widths := [1054, 1053, 1053], offset := 0, loose := false } := by decide +kernel

/-- Worked example 3.9 (R65): the shrunk line of measure 31,200 FU and natural width 31,450 FU. -/
theorem test_shrink :
    spacing .left true [sp 600 800 1600, sp 600 800 1600, sp 600 800 1600] 31200 31450 =
      { widths := [716, 717, 717], offset := 0, loose := false } := by decide +kernel

/-- Worked examples 3.8 and 3.9 (R66): positions rounded and truncated, with the tie at 23,160 FU. -/
theorem test_positions :
    [7154, 16507, 22260, 23160, 7916, 18133, 27150].map (flashPosition false) =
        [447, 1032, 1391, 1448, 495, 1133, 1697] ∧
      [7154, 16507, 22260, 23160, 7916, 18133, 27150].map (flashPosition true) =
        [447, 1031, 1391, 1447, 494, 1133, 1696] := by decide +kernel

/-- Worked example 4.6 (R72): the buckets of typesetting, on and no. -/
theorem test_bucket :
    (bucketOf [20, 25, 16, 5, 19, 5, 20, 20, 9, 14, 7]).val = 349 ∧ (bucketOf [15, 14]).val = 43 ∧
      (bucketOf [14, 15]).val = 44 := by decide +kernel

/-- The letter classes and the digraphs of worked example 5.9. -/
def classes : State :=
  State.reset.modConfig fun c =>
    { c with
      entries := Vector.ofFn fun k : Fin 201 =>
        if [0x80, 0x84, 0x88, 0x8E, 0x94].contains k.val then 1
        else if 0xA8 ≤ k.val ∧ k.val ≤ 0xB1 then [3, 8, 19, 8, 20, 8, 16, 8, 3, 11].getD (k.val - 0xA8) 0
        else vget c.entries k }

/-- Worked example 5.9 (R94): the rule positions of composition in four zones, and of mother. -/
theorem test_rule_positions :
    ([(2, 3), (1, 1), (4, 5), (5, 7)].map fun z =>
        rulePositions classes z.1 z.2 [3, 15, 13, 16, 15, 19, 9, 20, 9, 15, 14]) =
        [[3, 5, 7], [3, 5, 7], [5], []] ∧
      rulePositions classes 2 3 [13, 15, 20, 8, 5, 18] = [] := by decide +kernel

/-- Worked example 9.9 (R156, R159): row 5 of two overlapping glyphs, and its bytes on the port. -/
theorem test_overlap :
    let a : Cell := { width := 9, rows := Vector.replicate 12 0x183#16 }
    let b : Cell := { width := 7, rows := Vector.replicate 12 0x66#16 }
    let row := deposit a (glyphColumn 1448) 5 ||| deposit b (glyphColumn 1560) 5
    (rowByte row 12, rowByte row 13, rowByte row 14) = (0x0C, 0x1E, 0x60) := by decide +kernel

/-- R174: an item is complete only with its operand bytes. -/
theorem test_head_item :
    headItem [0x68, 24] = none ∧ headItem [0x68, 24, 0, 7] = some (.size 24, [7]) ∧
      headItem [0x71, 1] = some (.bad, [1]) ∧ headItem [0x5F] = some (.glyph 95, []) := by decide +kernel

/-- R26: the space values are raised in their order. -/
theorem test_space_values : spaceValues 70 5 64 = (63, 63, 63) ∧ spaceValues 5 2 20 = (5, 5, 20) := by decide +kernel

/-- R3: a pair that is not in the list kerns by 0. -/
theorem test_kern :
    let f := { FontRecord.blank with kerning := [{ left := 1, right := 2, adjust := -3 }] }
    f.kern 1 2 = -3 ∧ f.kern 2 1 = 0 := by decide +kernel

/-- Worked example 3.10 (R50, R51): kerning against the zero clamp. -/
theorem test_advance :
    advance 6 0 (-4) 24 = 240 ∧ advance 6 (-9) (-4) 24 = 0 ∧ advance 20 0 (-4) 24 = 1920 := by decide +kernel

/-- Worked example 7.8 (R122): delays in ticks. -/
theorem test_flash_delay :
    flashDelay 96 80000 = 313 ∧ flashDelay 128 80000 = 417 ∧ flashDelay 255 78400 = 813 ∧
      flashDelay 255 81600 = 847 ∧ flashDelay 0 80000 = 0 := by decide +kernel

/-- R177: a write to 05H alone takes the accepted low byte. -/
theorem test_t_nom :
    ((answer (exec (.tNomHighWrite 0x20) (atIndex 5 State.reset))).map (·.tNom)) = some (0x2088 * 16) := by
  decide +kernel

/-- R178: T_nom above 10,000 is refused. -/
theorem test_t_nom_refused :
    ((answer (exec (.tNomHighWrite 0x28) (atIndex 5 State.reset))).map fun t =>
      (t.tNom, t.config.lastRefusal, t.raised .configReject)) = some (80000, 1, true) := by decide +kernel

/-- R10: LOAD FONT into slot 0, and the channel posts DONE with detail 0. -/
theorem test_load_font :
    ((answer (exec (.loadFont 0 (blk 7 fontPayload)) fetching)).map fun t =>
      ((t.font 0).state, (t.font 0).number, vget (t.font 0).widths 95, t.resolve 7,
        (t.channel 0).posting.map (·.completion))) =
      some (.live, 7, 20, some 0, some .done) := by decide +kernel

/-- R168: the posted status of a NO-OP. -/
theorem test_posting :
    ((answer (exec (.postingComplete 0 none)
      ((waitingFor (req 0 (blk 0 []))).posts 0 (req 0 (blk 0 [])) .done 0 [1, 2, 3]))).map fun t =>
        ((t.channel 0).written, (t.channel 0).state, (t.channel 0).term)) =
      some ([(0x200, 1), (0x201, 2), (0x100, 0), (0x101, 0), (0x102, 0), (0x103, 0), (0x104, 2), (0x105, 0),
        (0x106, 3), (0x107, 0)], .terminated, 1) := by decide +kernel

/-- R123: the lamp fires for the armed request, and the lamp recharges for 12 × 64 ticks. -/
theorem test_flash_fires :
    ((answer (exec .flashDelayExpiry (readyToFlash.modPhoto fun p => { p with delay := some 0 }))).map fun t =>
      (t.pulses, t.photo.lamp, t.photo.flash)) = some ([.lamp], .recharging 768, none) := by decide +kernel

/-- R62: a line-end item on an empty line commits a blank line. -/
theorem test_blank_line :
    ((answer (exec .takeItem (serving [0x65]))).map fun t =>
      ((t.lineAt 0).map fun r => (r.glyphs.length, r.depth), t.linesOf 0, (t.galley 0).seq)) =
      some (some (0, 24), [0], 1) := by decide +kernel

/-- R131: a step toward 0. -/
theorem test_carriage_step :
    ((answer (exec .carriageStep (State.reset.modPhoto fun p =>
      { p with carriage := .stepping 9, position := 10 }))).map fun t =>
        (t.photo.position, t.photo.carriage, t.pulses)) = some (9, .settled, [.carriageStep false]) := by decide +kernel

/-! ### Witnesses: each statement's hypotheses are met

Each theorem names its statement; its conjuncts follow the statement's clauses in their order. -/

/-- The lid's rise is being timed. -/
def lidTimed : State :=
  (atIndex 0x15 State.reset).modSensors fun x =>
    { x with inputs := 0x1000, lid := { accepted := false, timing := some 7 } }

theorem ready_fetching : fetching.readyFor 0 := by unfold State.readyFor; decide +kernel

theorem test_meets_EmptyQueueLetsATickPass :
    State.reset.pending = [] ∧ dueCommands State.reset = [] ∧
    (let s := State.reset.modPhoto fun p => { p with carriageTimer := some 0 }
     s.pending = [] ∧ dueCommands s = .carriageStep :: []) ∧
    (lidTimed.modSensors fun x => { x with lid := { x.lid with timing := some 0 } }).debouncer .lidClosed =
      { accepted := false, timing := some 0 } := by decide +kernel

theorem test_meets_EveryStepKeepsTheConfigurationLegal :
    ConfigLegal (atIndex 5 State.reset).config ∧ (answer (step (atIndex 5 State.reset))).isSome := by
  unfold ConfigLegal; decide +kernel

theorem test_meets_EveryStepKeepsTheWindowRegistersLegal :
    WindowLegal fetching ∧ (answer (step fetching)).isSome := by unfold WindowLegal; decide +kernel

/-- The dictionary with one entry, in its bucket. -/
def oneEntry : Entry := { word := [1, 2], kind := .allow, positions := [1], tag := 3 }
def withEntry (s : State) : State := s.modDict fun d => { d with chains := insertEntry oneEntry d.chains }

theorem chains_withEntry (b : Fin 512) :
    vget (withEntry State.reset).dict.chains b = if (5 : Fin 512) = b then [oneEntry] else [] := by
  have h : (withEntry State.reset).dict.chains = vset (Vector.replicate 512 []) 5 [oneEntry] := rfl
  rw [h, vget_vset]
  split
  · rfl
  · simp [vget]

theorem test_meets_EveryStepKeepsTheDictionaryLegal :
    DictionaryLegal (withEntry State.reset) ∧ (answer (step (withEntry State.reset))).isSome := by
  refine ⟨⟨?_, ?_, by decide +kernel, fun _ _ _ _ h => nomatch h⟩, by decide +kernel⟩
  · intro b e he
    rw [chains_withEntry b] at he
    split at he
    · next hb =>
      obtain rfl := List.mem_singleton.mp he
      subst hb
      exact ⟨⟨by decide, by decide, by decide, by decide, by decide, by decide, by decide, by decide⟩, by decide⟩
    · cases he
  · intro b
    rw [chains_withEntry b]
    split <;> simp

theorem test_meets_LampFiresOnlyUnderTheFlashConditions :
    let s := { readyToFlash.modPhoto (fun p => { p with delay := some 0 }) with pending := [.flashDelayExpiry] }
    .lamp ∉ s.pulses ∧ (answer (step s)).any (fun t => decide (.lamp ∈ t.pulses)) := by decide +kernel

theorem test_meets_LampFiresOnlyUnderTheFlashConditions_guarded :
    let s := readyToFlash.modPhoto fun p => { p with delay := some 3 }
    DelayGuarded s ∧ s.photo.delay.isSome ∧ (answer (step s)).isSome := by unfold DelayGuarded; decide +kernel

theorem test_meets_EveryStepKeepsFontNumbersUnique :
    FontNumbersUnique (withFont 0 1 (withFont 1 250 State.reset)) ∧
      (answer (step (withFont 0 1 (withFont 1 250 State.reset)))).isSome := by unfold FontNumbersUnique; decide +kernel

theorem test_meets_EveryStepKeepsChannelsConsistent :
    (∀ ch, ChannelConsistent ((waitingFor (req 0x20 (blk 0 []))).channel ch)) ∧
      (answer (step (waitingFor (req 0x20 (blk 0 []))))).isSome := by unfold ChannelConsistent; decide +kernel

theorem storeLegal_iff (t : Store) :
    StoreLegal t ↔ (∀ g, (vget t.order g).Nodup) ∧
      ∀ g k, k ∈ vget t.order g ↔ (vget t.slots k).any (fun r => decide (r.galley = g)) = true := by
  simp [StoreLegal, Option.any_eq_true]

/-- Galley 3 is OPEN with two stored lines, of which the film has begun one; CH1 waits with a text of it. -/
def twoLines : State :=
  ((fetching.modGalley 3 fun x => { x with state := .opened, waiting := [{ channel := 1, text := [1, 2] }] }).modChannel 1
    fun k => { k with state := .waiting, inFlight := some (req 0x31 (blk 3 [1, 2])) }).modStore fun t =>
      { t with
        slots := vset (vset t.slots 0 (some { lineRec with galley := 3 })) 1
          (some { lineRec with galley := 3, proof := true, filmProgress := .notBegun })
        order := vset t.order 3 [0, 1] }

theorem storeLegal_twoLines : StoreLegal twoLines.store := by
  rw [storeLegal_iff]; decide +kernel

theorem heldOnce_twoLines : HeldOnce twoLines := by unfold HeldOnce; decide +kernel

theorem test_meets_EveryStepKeepsHeldRequestsAndLineLists :
    (∀ ch, ChannelConsistent (twoLines.channel ch)) ∧ HeldOnce twoLines ∧ twoLines.heldBy = [1] ∧
      StoreLegal twoLines.store ∧ (answer (step twoLines)).isSome :=
  ⟨by unfold ChannelConsistent; decide +kernel, heldOnce_twoLines, by decide +kernel, storeLegal_twoLines,
    by decide +kernel⟩

/-- Every record LIVE with number 9. -/
def fullFonts : State := { fetching with fonts := Vector.replicate 32 { FontRecord.blank with state := .live, number := 9 } }

/-- All 1,024 cells of the kerning pool in use. -/
def noCells : State :=
  (withFont 0 9 fetching).modFont 0 fun x => { x with kerning := List.replicate 1024 { left := 0, right := 0, adjust := 0 } }

theorem test_meets_LoadFontChecksThenFillsTheLowestEmptySlot :
    fetching.readyFor 0 ∧ (blk 250 fontPayload).payload.length ≤ 1024 ∧
    (blk 0 fontPayload).target.toNat < 1 ∧ 250 < (blk 251 fontPayload).target.toNat ∧ parseLoadFont [] = none ∧
    (1 ≤ (blk 1 fontPayload).target.toNat ∧ (blk 250 fontPayload).target.toNat ≤ 250 ∧
      (parseLoadFont fontPayload).isSome) ∧
    (((withFont 3 7 fetching).font 3).state = .live ∧ ((withFont 3 7 fetching).font 3).number = 7) ∧
    (∀ j, (fullFonts.font j).state ≠ .empty ∧ (fullFonts.font j).number ≠ 7) ∧
    ((∀ j, (noCells.font j).number ≠ 7) ∧
      (parseLoadFont (List.replicate 14 0 ++ List.replicate 96 20 ++ [1, 0, 0, 0])).any
        (fun f => decide (noCells.poolFree < f.kerning.length))) ∧
    ((∀ j, (fetching.font j).state = .empty) ∧
      (parseLoadFont fontPayload).any fun f => decide (f.kerning.length ≤ fetching.poolFree)) :=
  ⟨ready_fetching, by decide +kernel⟩

/-- An amend of the proof set alone, and one of the kerning to a single pair. -/
def amendSet : List Byte := [8, 2]
def amendKern : List Byte := [2, 1, 0, 1, 5]

theorem test_meets_AmendFontAppliesOrIsHeld :
    fetching.readyFor 0 ∧ (parseAmendFont amendSet).isSome ∧
    (let s := (withFont 0 7 fetching).modFont 0 fun x =>
        { x with amend := some { parts := ⟨none, none, none, some 1⟩, clamped := false, channel := 1 } }
     s.resolve 7 = some 0 ∧ (s.font 0).amend.isSome) ∧
    (let s := withFont 0 7 fetching
     s.resolve 7 = some 0 ∧ (s.font 0).amend = none ∧ (s.font 0).partialRefs = 0 ∧
       (parseAmendFont amendSet).any (fun p => p.1.kerning.isNone) ∧
       (parseAmendFont amendKern).any fun p =>
         decide ((p.1.kerning.getD []).length ≤ s.poolFree + (s.font 0).kerning.length)) ∧
    (let s := (withFont 0 7 fetching).modFont 0 fun x => { x with partialRefs := 1 }
     s.resolve 7 = some 0 ∧ (s.font 0).amend = none ∧ 0 < (s.font 0).partialRefs ∧
       (parseAmendFont amendKern).any fun p => decide ((p.1.kerning.getD []).length ≤ s.poolFree)) :=
  ⟨ready_fetching, by decide +kernel⟩

theorem test_meets_AmendFontAppliesOrIsHeld_refusals :
    fetching.readyFor 0 ∧ parseAmendFont [] = none ∧ (parseAmendFont amendSet).isSome ∧
    (∀ j, (fetching.font j).number ≠ 7) ∧
    (let s := (withFont 0 7 fetching).modFont 0 fun x => { x with state := .retiring }
     (s.font 0).state = .retiring ∧ (s.font 0).number = 7 ∧ ∀ j, (s.font j).state ≠ .live) ∧
    (let s := (withFont 0 7 noCells).modFont 1 fun x => { x with state := .live, number := 8 }
     s.resolve 8 = some 1 ∧ (s.font 1).amend = none ∧ (s.font 1).partialRefs = 0 ∧
       (parseAmendFont amendKern).any fun p => decide (s.poolFree + (s.font 1).kerning.length < (p.1.kerning.getD []).length)) :=
  ⟨ready_fetching, by decide +kernel⟩

theorem test_meets_PlaceFontSetsThePlacementAndItsVerification :
    fetching.readyFor 0 ∧
    parsePlaceFont [0, 0, 3, 3, 15] = some { selector := none, placement := some { station := 3, track := 3, code := 15 } } ∧
    parsePlaceFont [2, 0, 0, 0, 0] = some { selector := none, placement := none } ∧
    (withFont 31 7 fetching).address none 7 = some 31 ∧ (withFont 31 7 fetching).photo.flash = none :=
  ⟨ready_fetching, by decide +kernel⟩

theorem test_meets_PlaceFont_refusals_and_armed_request :
    parsePlaceFont [9] = none ∧ fetching.address none 7 = none ∧
    (let s := (loaded readyToFlash).modExposure fun e => { e with work := .line (work 1 .armed) }
     s.address none 1 = some 0 ∧ s.photo.flash = some armedRequest ∧ armedRequest.slot = 0 ∧
       s.exposure.work = .line (work 1 .armed) ∧ s.exposure.hold = none ∧ (work 1 .armed).glyph = some glyphA ∧
       glyphA.slot = 0 ∧ s.film.loaded = true ∧ s.photo.turret ≠ .standing (s.stationMap 3) ∧
       s.exposure.note = false) := by decide +kernel

theorem test_meets_RetireFontEmptiesOrRetires :
    fetching.readyFor 0 ∧ (∀ j, (fetching.font j).state ≠ .live) ∧
    (let s := (withFont 0 7 fetching).modFont 0 fun x =>
        { x with amend := some { parts := ⟨none, none, none, some 1⟩, clamped := false, channel := 1 } }
     s.resolve 7 = some 0 ∧ (s.font 0).amend.isSome) ∧
    (let s := withFont 0 7 fetching
     s.resolve 7 = some 0 ∧ (s.font 0).amend = none ∧ (s.font 0).lineRefs = 0 ∧ (s.font 0).currentRefs = 0 ∧
       (s.font 0).partialRefs = 0) ∧
    (let s := (withFont 0 7 fetching).modFont 0 fun x => { x with lineRefs := 1 }
     s.resolve 7 = some 0 ∧ (s.font 0).amend = none ∧ 0 < (s.font 0).lineRefs) :=
  ⟨ready_fetching, by decide +kernel⟩

theorem test_meets_QueriesReportAndChangeNothingElse :
    fetching.readyFor 0 ∧ parseQueryFont [1] = none ∧ (blk 0 [1]).payload.length ≤ 1024 ∧
    (parseQueryFont [] = some none ∧ fetching.address none 7 = none) ∧
    parseQueryFont [1, 31] = some (some 31) ∧
    (withFont 31 7 fetching).address (some 31) 7 = some 31 ∧ galleyOf 7 = some 7 ∧ galleyOf 8 = none ∧
    (∀ i, (fetching.font i).name.length ≤ 12) ∧
    (List.replicate 12 (65 : Byte)).length ≤ 12 :=
  ⟨ready_fetching, by decide +kernel⟩

theorem test_meets_StartAndStopGovernTheChain :
    ((State.reset.channel 1).running = false ∧ (State.reset.channel 1).chain = 0) ∧
    (let s := State.reset.modChannel 1 fun k => { k with state := .terminated, chain := 4 }
     (s.channel 1).running = false ∧ (s.channel 1).chain ≠ 0) ∧
    ((fetching.channel 0).running = true ∧ (fetching.channel 0).state = .fetching) ∧
    ((waitingFor (req 0 (blk 0 []))).channel 0).state = .waiting := by decide +kernel

/-- CH1 has a purge presented that the dictionary has not taken. -/
def presented : State :=
  (State.reset.modChannel 1 fun k => { k with state := .waiting, inFlight := some (req 0x24 (blk 3 [])) }).modDict
    fun d => { d with presented := vset d.presented 1 (some (req 0x24 (blk 3 []))) }

theorem test_meets_ChannelResetLeavesTheChannelIdle :
    (State.reset.channel 0).inFlight = none ∧
    (((waitingFor (req 0x31 (blk 0 []))).channel 0).inFlight.isSome ∧
      vget (waitingFor (req 0x31 (blk 0 []))).dict.presented 0 = none) ∧
    ((presented.channel 1).inFlight.isSome ∧ (vget presented.dict.presented 1).isSome) ∧
    (State.reset.channel 0).state ≠ .posting := by decide +kernel

theorem test_meets_ChannelRegistersAreReadAndWritten :
    (State.reset.channel 0).running = false ∧ (fetching.channel 0).running = true ∧
    (let s := State.reset.modChannel 0 fun k => { k with detached := true }
     (s.channel 0).detached = true ∧ s.ownerHolds 0 = false) := by decide +kernel

/-- A header with a code, a payload length and a spare byte. -/
def header (code len0 len1 spare : Byte) : Vector Byte 20 :=
  #v[0, 0, 0, 0, 0, 0, 0, 0, 0, 0, 0, 0, 0, 0, len0, len1, code, 1, 0, spare]

theorem test_meets_FetchHandsOverOrTerminates :
    ((fetching.channel 0).state = .fetching ∧ (fetching.channel 0).blockRead = none ∧
      (fetching.channel 0).detached = false) ∧
    (header 0 0 0 1)[19] ≠ 0 ∧ 1024 < (header 0 1 4 0)[14].toNat + 256 * (header 0 1 4 0)[15].toNat ∧
    (parseBlock (header 0 0 0 0) []).any (fun r => r.code == 0) ∧
    (parseBlock (header 0xFF 0 0 0) []).any (fun r => decide (r.code.toNat ∉ [0, 0x10, 0x61])) ∧
    (∀ c ∈ [0x10#8, 0x24, 0x34, 0x44, 0x51, 0x61], (parseBlock (header c 0 0 0) []).any fun r => r.code == c) ∧
    (let s := fetching.modChannel 0 fun k => { k with detached := true }
     (s.channel 0).state = .fetching ∧ (s.channel 0).blockRead = none ∧ (s.channel 0).detached = true) ∧
    ((header 0 0 4 0)[19] = 0 ∧ (header 0 0 4 0)[14].toNat + 256 * (header 0 0 4 0)[15].toNat ≤ 1024) := by
  decide +kernel

/-- CH0 posts a block with the given flags and link; the stop pending mark may stand. -/
def posting (flags : Byte) (link : Word) (stop : Bool) : State :=
  State.reset.modChannel 0 fun k =>
    { k with
      state := .posting, stop := stop
      posting := some { request := req 0 { blk 0 [] with flags := flags, link := link }, completion := .done,
                        detail := 0, reply := [] } }

theorem test_meets_PostingWithoutFaultDecidesWhatFollows :
    ((posting 2 0x40 false).postingOf 0).any (fun p => p.request.block.flags.getLsbD 1) ∧
    ((posting 0 3 false).postingOf 0).any (fun p =>
      !p.request.block.flags.getLsbD 1 && (p.request.block.link &&& 0xFFFFFFFC#32) == 0) ∧
    ((posting 0 4 true).postingOf 0).any (fun p =>
      !p.request.block.flags.getLsbD 1 && (p.request.block.link &&& 0xFFFFFFFC#32) != 0) ∧
    ((posting 0 4 true).channel 0).stop = true ∧ ((posting 0 4 false).channel 0).stop = false := by decide +kernel

theorem test_meets_PostingWritesTheReplyThenTheStatus :
    ((posting 5 0 false).postingOf 0).any (fun p =>
      p.request.block.flags.getLsbD 0 && p.request.block.flags.getLsbD 2 && decide (7 < p.writes.length)) := by
  decide +kernel

theorem test_meets_AttentionFlagsAndInterruptLine :
    (answer (exec (.channelReset 0) State.reset)).isSome := by decide +kernel

theorem test_meets_ConfigurationIndexSelectsTheEntryRead :
    (answer (exec (.cfgIndexWrite 200) State.reset)).any (fun t => t.config.index != State.reset.config.index) := by
  decide +kernel

theorem test_meets_PlainEntriesStoreTheirDefinedBits :
    (atIndex 1 State.reset).config.index = BitVec.ofNat 8 (1 : Fin 201).val ∧
    (atIndex 0x10 State.reset).config.index = BitVec.ofNat 8 (0x10 : Fin 201).val ∧
    State.reset.config.index = 0 := by decide +kernel

theorem test_meets_TNomIsAssembledFromTwoWrites :
    (atIndex 4 State.reset).config.index = 4 ∧ (atIndex 5 State.reset).config.index = 5 ∧
    (let n := (vget State.reset.config.entries 4).toNat + 256 * (0x27 : Byte).toNat
     2500 ≤ n ∧ n ≤ 10120) ∧
    (let n := (0x10 : Byte).toNat + 256 * (0x27 : Byte).toNat
     n = 10000) ∧
    (vget State.reset.config.entries 4).toNat + 256 * (9 : Byte).toNat < 2500 := by decide +kernel

theorem test_meets_GuardedEntriesRefuseWithTheirCode :
    (∀ i : Fin 201, (atIndex (BitVec.ofNat 8 i.val) State.reset).config.index = BitVec.ofNat 8 i.val) ∧
    ((∀ g, (State.reset.galley g).state = .closed) ∧ ∀ k, State.reset.lineAt k = none) ∧
    (95#8).toNat ≤ 95 ∧ (40#8).toNat ≤ 40 ∧ ¬ (41#8).toNat ≤ 40 ∧
    ((serving []).galley 0).state ≠ .closed ∧
    (atIndex 0xC8 State.reset).config.index = 0xC8 ∧ 0xC9 ≤ (atIndex 0xC9 State.reset).config.index.toNat := by
  decide +kernel

theorem test_meets_StationMapWriteUnverifiesEveryFont :
    (atIndex 0x12 State.reset).config.index = 0x12 ∧
    (∀ l m : Fin 4, (0x1B#8).toNat / 4 ^ l.val % 4 = (0x1B#8).toNat / 4 ^ m.val % 4 → l = m) ∧
    ((∀ g, (State.reset.galley g).state = .closed) ∧ ∀ k, State.reset.lineAt k = none) ∧
    ¬ (∀ l m : Fin 4, (0x00#8).toNat / 4 ^ l.val % 4 = (0x00#8).toNat / 4 ^ m.val % 4 → l = m) := by decide +kernel

/-- A galley of a mode at the front of its queues; nobody holds the film or the paper. -/
def queued (m : OutputMode) : State :=
  (State.reset.modGalley 3 fun x => { x with state := .opened, mode := m }).modStore fun t =>
    { t with filmQueue := if m = .proof then [] else [3], paperQueue := if m = .film then [] else [3] }

/-- Galley 3 holds the film and the paper; its first stored line has no consumer left to begin it, its second one waits. -/
def holder (gstate : GalleyState) (r : LineRecord) : State :=
  (State.reset.modGalley 3 fun x => { x with state := gstate, mode := .both }).modStore fun t =>
    { t with
      filmHolder := some 3, paperHolder := some 3, filmQueue := [3], paperQueue := [3]
      slots := vset (vset t.slots 0 (some { lineRec with proof := true, proofProgress := .sent })) 1 (some r)
      order := vset t.order 3 [0, 1] }

/-- A line that waits for both consumers. -/
def waitingLine (depth : Int) : LineRecord :=
  { lineRec with galley := 3, depth := depth, proof := true, filmProgress := .notBegun }

/-- Galley 3 holds the film and the paper, with its work finished. -/
def finished : State :=
  (State.reset.modGalley 3 fun x => { x with state := .ending, mode := .both }).modStore fun t =>
    { t with filmHolder := some 3, paperHolder := some 3, filmQueue := [3], paperQueue := [3] }

theorem test_meets_StoreAssignsHandsOutAndCloses_close_and_assign :
    (let s := finished.modStore fun t => { t with filmEndDone := true, paperEndDone := true }
     s.closable 3 = true ∧ (∀ h, h < 3 → s.closable h = false) ∧ (tryClose s).isSome ∧ reactOnce s = tryClose s) ∧
    (tryClose (queued .film) = none ∧ (tryAssign (queued .film)).isSome ∧ (queued .film).store.filmHolder = none ∧
      (queued .film).store.filmQueue = [3] ∧ ((queued .film).galley 3).mode = .film) ∧
    ((queued .both).store.filmQueue = [3] ∧ (queued .both).store.paperQueue.head? = some 3 ∧
      (queued .both).store.paperHolder = none ∧ ((queued .both).galley 3).mode = .both) ∧
    ((queued .proof).filmAssignee = none ∧ (queued .proof).store.paperQueue = [3] ∧
      ((queued .proof).galley 3).mode = .proof) ∧
    (let s := (queued .both).modStore fun t => { t with paperHolder := some 2 }
     s.store.paperHolder.isSome ∧ s.store.filmQueue = [3]) ∧
    State.reset.store.filmQueue = [] ∧ State.reset.store.paperQueue = [] := by
  refine ⟨⟨?_, ?_, ?_, rfl⟩, ?_⟩ <;> decide +kernel

theorem test_meets_StoreAssignsHandsOutAndCloses_film :
    (let s := holder .opened (waitingLine 24)
     s.exposure.work = .none ∧ s.exposure.hold = none ∧ s.photo.verify = none ∧ s.store.filmHolder = some 3 ∧
       (s.galley 3).state = .opened ∧ s.linesOf 3 = [0] ++ 1 :: [] ∧ s.lineAt 1 = some (waitingLine 24) ∧
       (s.lineAt 0).any (fun q => q.filmProgress != .notBegun) ∧ s.film.loaded = false) ∧
    ((waitingLine 0).depth = 0 ∧ exposureOrder State.reset (waitingLine 0).glyphs ≠ [] ∧
      exposureOrder State.reset [{ glyphA with absent := true }] = [] ∧ (waitingLine (-3)).depth < 0) ∧
    (let s := loaded (holder .ending (waitingLine 144))
     s.film.loaded = true ∧ s.film.position + (144 : Int).natAbs * 10 ≤ s.film.length ∧
       s.film.length < s.film.position + (145 : Int).natAbs * 10) ∧
    (let s := (loaded (holder .opened (waitingLine (-3)))).modFilm fun f => { f with position := 1 }
     s.film.galleyStart < s.film.position) ∧
    (State.reset.grouped = false ∧ State.reset.store.filmHolder = none ∧ (inLine .lens).exposure.work ≠ .none) ∧
    (finished.exposure.work = .none ∧ finished.exposure.hold = none ∧ finished.store.filmHolder = some 3 ∧
      (finished.galley 3).state = .ending ∧ finished.linesOf 3 = [] ∧ finished.store.filmEndBegun = false ∧
      finished.film.loaded = false ∧ finished.cutterHome = false ∧
      finished.film.deepest + finished.setting 0x0E * 10 = 720 ∧ (loaded finished).film.position < 720 ∧
      720 ≤ (loaded finished).film.length) ∧
    (let s := (loaded finished).modFilm fun f => { f with position := 720 }
     s.film.loaded = true ∧ 720 ≤ s.film.position ∧ (s.setConditioned 10 true).cutterHome = true) ∧
    ((loaded finished).modFilm fun f => { f with deepest := 721 }).film.length < 721 + 720 := by
  refine ⟨?_, ?_, ?_, ?_, ?_, ?_, ?_, ?_⟩ <;> decide +kernel

theorem test_meets_StoreAssignsHandsOutAndCloses_at_once :
    (let s := (finished.modStore fun t => { t with filmEndDone := true, paperEndDone := true }).modGalley 3 fun x =>
        { x with font := some 31 }
     s.closable 3 = true ∧ (s.galley 3).font = some 31 ∧ s.heldBy = []) ∧
    (let s := loaded (holder .opened (waitingLine 0))
     (exposureOrder s (waitingLine 0).glyphs).head? = some glyphA ∧ s.film.loaded = true) ∧
    (let s := loaded (holder .opened (waitingLine (-3)))
     (waitingLine (-3)).depth < 0 ∧ s.film.position ≤ s.film.galleyStart ∧
       (exposureOrder s (waitingLine (-3)).glyphs).head? = some glyphA ∧ exposureOrder s [] = []) := by decide +kernel

theorem test_meets_StoreAssignsHandsOutAndCloses_paper :
    (finished.proof.port = .idle ∧ finished.store.paperHolder = some 3 ∧ (finished.galley 3).state = .ending ∧
      finished.linesOf 3 = [] ∧ finished.store.paperEndBegun = false) ∧
    (let s := (holder .opened (waitingLine 0)).modProof fun p =>
        { p with buffers := vset p.buffers 1 (.ready { slot := 1, galley := 3, seq := 0, rows := Vector.replicate 12 0 }) }
     s.proof.port = .idle ∧ (vget s.proof.buffers 1).isReady = true ∧ (vget s.proof.buffers 0).isReady = false ∧
       s.lineAt 1 = some (waitingLine 0)) ∧
    (let s := holder .opened (waitingLine 0)
     (∀ j, (vget s.proof.buffers j).isReady = false) ∧ vget s.proof.buffers 0 = .empty ∧
       s.store.paperHolder = some 3 ∧ s.linesOf 3 = [0] ++ 1 :: [] ∧ (waitingLine 0).proof = true ∧
       (waitingLine 0).proofProgress = .notBegun ∧ (s.lineAt 0).any fun q => q.proofProgress != .notBegun) := by
  refine ⟨?_, ?_, ?_⟩ <;> decide +kernel

/-- Lid, cassette and paper accepted present. -/
def allPresent (s : State) : State :=
  s.modSensors fun x =>
    { x with cassette := { accepted := true, timing := none }, lid := { accepted := true, timing := none },
             paper := { accepted := true, timing := none } }

theorem test_meets_AcceptedSensorChangesAreReported :
    (allPresent State.reset).lidClosed = true ∧ State.reset.exposure.work.isLine = false ∧
    ((allPresent (inLine .lens)).exposure.work.isLine = true ∧ (allPresent (inLine .lens)).exposure.hold = none) ∧
    ((allPresent State.reset).cassettePresent = true ∧ State.reset.exposure.work = .none) ∧
    (inLine .lens).exposure.state = .line ∧ (allPresent State.reset).paperPresent = true ∧
    State.reset.paperPresent = false ∧ (∀ l, (State.reset.debouncer l).accepted = false) ∧
    State.reset.exposure.figuresDeferred = false ∧
    (State.reset.modProof fun p => { p with port := .held .endFeed }).proof.port = .held .endFeed := by
  refine ⟨by decide +kernel, by decide +kernel, by decide +kernel, by decide +kernel, by decide +kernel,
    by decide +kernel, by decide +kernel, ?_, by decide +kernel, by decide +kernel⟩
  intro l; cases l <;> decide +kernel

theorem test_meets_AcceptedSensorChanges_free_moves :
    (let s := allPresent ((waitingFor (req 0x42 (blk 0 [1, 0]))).modExposure fun e =>
        { e with work := .advanceFilm 0 true, figuresDeferred := true })
     s.cassettePresent = true ∧ s.exposure.work = .advanceFilm 0 true ∧
       (answer (exec .cassettePresentFall s)).any fun t =>
         (t.channel 0).posting.any (fun p => p.completion == .wrongState) && t.exposure.work == .none) ∧
    (let s := allPresent ((waitingFor (req 0x43 (blk 0 []))).modExposure fun e => { e with work := .cutFilm 0 .awaitRise })
     s.cassettePresent = true ∧ s.exposure.work = .cutFilm 0 .awaitRise) := by decide +kernel

theorem test_meets_SensorLevelsAreConditionedAndDebounced :
    (State.reset.conditioned (debouncedBit .lidClosed) = !true ∧ (State.reset.debouncer .lidClosed).accepted = !true ∧
      (State.reset.debouncer .lidClosed).timing ≠ some 0 ∧ State.reset.debounceEnabled .lidClosed = true) ∧
    (lidTimed.conditioned (debouncedBit .lidClosed) = !false ∧ (lidTimed.debouncer .lidClosed).accepted = false ∧
      (lidTimed.debouncer .lidClosed).timing ≠ some 0) ∧
    (let s := lidTimed.modSensors fun x => { x with lid := { x.lid with timing := some 0 } }
     s.conditioned (debouncedBit .lidClosed) = !false ∧ (s.debouncer .lidClosed).timing = some 0 ∧
       s.debounceEnabled .lidClosed = true) ∧
    (let s := State.reset.modConfig fun c => { c with entries := vset c.entries 0x15 0 }
     s.debounceEnabled .lidClosed = false) ∧
    State.reset.conditioned (sensorBit .printerBusy) = !true ∧
    (let s := State.reset.setConditioned 2 true
     s.conditioned (sensorBit .turretReady) = true ∧ State.reset.conditioned (sensorBit .turretReady) = false ∧
       State.reset.photo.turret.isStanding = false) ∧
    ((State.reset.setConditioned 9 true).conditioned (sensorBit .lensReady) = true ∧
      State.reset.conditioned (sensorBit .lensReady) = false) ∧
    (State.reset.cutterHome = false ∧ (State.reset.setConditioned 10 true).cutterHome = true) ∧
    (atIndex 0x16 State.reset).config.index = 0x16 := by
  refine ⟨?_, ?_, ?_, ?_, ?_, ?_, ?_, ?_, ?_⟩ <;> decide +kernel

theorem test_meets_SensorLevels_writes :
    (let s := atIndex 0x13 State.reset
     s.config.index = BitVec.ofNat 8 (0x13 : Fin 201).val ∧ 0#8 &&& definedBits 0x13 = vget s.config.entries 0x13 ∧
       (0xFF#8 &&& definedBits 0x13) = 0xFF ∧ (s.encoder .slot).accepted = s.conditioned (encoderBit .slot) ∧
       (s.encoder .index).timing ≠ some 0 ∧ s.rejectionTime ≠ 0) ∧
    (let s := (atIndex 0x13 State.reset).modSensors fun x => { x with slot := { accepted := true, timing := some 3 } }
     (s.encoder .slot).accepted = !s.conditioned (encoderBit .slot)) ∧
    (let s := atIndex 0x14 State.reset
     s.config.index = BitVec.ofNat 8 (0x14 : Fin 201).val ∧
       (((vget s.config.entries 0x14 ^^^ (0x04#8 &&& definedBits 0x14)).setWidth 15 <<< 8 : BitVec 15) =
         1#15 <<< sensorBit .cutterHome) ∧
       (s.debouncer .paperPresent).accepted = s.conditioned (debouncedBit .paperPresent)) ∧
    (let s := atIndex 0x15 State.reset
     s.config.index = 0x15 ∧ ∀ l ∈ [DebouncedLine.cassettePresent, .lidClosed, .paperPresent],
       (s.debouncer l).timing = none) ∧
    (lidTimed.config.index = 0x15 ∧ (5#8).getLsbD (debounceIndex .lidClosed) = false ∧
      (lidTimed.debouncer .lidClosed).timing.isSome ∧ (lidTimed.debouncer .cassettePresent).timing = none ∧
      (lidTimed.debouncer .paperPresent).timing = none ∧
      (lidTimed.debouncer .lidClosed).accepted = !lidTimed.conditioned (debouncedBit .lidClosed)) := by
  refine ⟨?_, ?_, ?_, ?_, ?_⟩ <;> decide +kernel

theorem test_meets_EncoderChangesWaitTheRejectionTime :
    (State.reset.conditioned (encoderBit .slot) = !true ∧ State.reset.quietFor 8 = true ∧
      (State.reset.encoder .slot).accepted = !true ∧ (State.reset.encoder .slot).timing = none ∧
      State.reset.rejectionTime ≠ 0) ∧
    (let s := State.reset.modSensors fun x => { x with inputs := 2, slot := { accepted := false, timing := some 5 } }
     s.conditioned (encoderBit .slot) = !false ∧ s.quietFor 4 = true ∧ s.quietFor 5 = true ∧
       (s.encoder .slot).accepted = false ∧ (s.encoder .slot).timing = some 5 ∧
       (answer (exec .slotPulse (advanceTime 5 s))).any fun t => t.quietFor 3 && !t.quietFor 4) ∧
    State.reset.quietFor 9 = false ∧
    (let s := (State.reset.modSensors fun x =>
        { x with inputs := 2, slot := { accepted := true, timing := none } }).modConfig fun c =>
        { c with entries := vset c.entries 6 0 }
     s.conditioned (encoderBit .slot) = true ∧ (s.encoder .slot).accepted = true ∧ (s.encoder .slot).timing = none ∧
       s.quietFor 8 = true ∧ s.rejectionTime = 0) := by
  refine ⟨?_, ?_, ?_, ?_⟩ <;> decide +kernel

def bandOf : Band := { slot := 0, galley := 0, seq := 0, rows := Vector.replicate 12 0 }

/-- The port sends a band and stands at a row and a byte. -/
def sendingAt (row pos : Nat) : State :=
  (State.reset.modProof fun p =>
    { p with buffers := vset p.buffers 0 (.sending bandOf), port := .sending, row := row, pos := pos }).modStore fun t =>
      { t with slots := vset t.slots 0 (some { lineRec with film := false, proof := true, proofProgress := .sent }) }

def endFeeds (n : Nat) : State := State.reset.modProof fun p => { p with port := .endFeed, feeds := n }

theorem test_meets_PortTransfersFollowTheBand :
    (State.reset.setConditioned 14 true).printerBusy = true ∧
    ((sendingAt 11 155).printerBusy = false ∧ (sendingAt 11 155).proof.port = .sending ∧
      (sendingAt 11 155).sendingBand = some (0, bandOf) ∧ (sendingAt 11 155).proof.row < 12 ∧
      (sendingAt 11 155).proof.pos < 156) ∧
    ((sendingAt 11 156).sendingBand = some (0, bandOf) ∧ 156 ≤ (sendingAt 11 156).proof.pos) ∧
    ((sendingAt 12 2).sendingBand = some (0, bandOf) ∧ 12 ≤ (sendingAt 12 2).proof.row) ∧
    ((sendingAt 12 3).sendingBand = some (0, bandOf) ∧ 3 ≤ (sendingAt 12 3).proof.pos ∧
      ((sendingAt 12 3).lineAt bandOf.slot).isSome) ∧
    ((endFeeds 48).printerBusy = false ∧ (endFeeds 48).proof.port = .endFeed ∧ 1 < (endFeeds 48).proof.feeds) ∧
    (endFeeds 1).proof.feeds = 1 ∧ State.reset.printerBusy = !true := by decide +kernel

theorem test_meets_IndexPulseMeasuresThePeriodAndJudgesTheLock :
    let s := State.reset.modPhoto fun p =>
      { p with counting := true, count := 80000, slotCount := 96, carriageTimer := none }
    s.quietFor 1601 = true ∧ State.reset.quietFor 9 = false ∧ s.photo.counting = true ∧ s.photo.slotCount = 96 ∧
    (answer (exec (.indexPulse 1600) s)).any (fun t =>
      t.photo.period == 81600 && decide (((t.photo.period : Int) - s.tNom) * 50 ≤ s.tNom)) ∧
    (answer (exec (.indexPulse 1600) s)).map (·.photo.disc) = some .proving ∧
    (answer (exec (.indexPulse 1601) s)).map (·.photo.disc) = some .unlocked ∧
    State.reset.photo.counting = false := by decide +kernel

theorem test_meets_SlotPulseStartsTheFlashDelay :
    FlashAllowed armedRequest readyToFlash ∧ readyToFlash.photo.flash = some armedRequest ∧
    readyToFlash.photo.delay = none ∧ readyToFlash.photo.slotCount < 96 ∧
    readyToFlash.photo.slotCount = armedRequest.code.val ∧ State.reset.photo.flash = none :=
  ⟨flashAllowed_readyToFlash, by decide +kernel⟩

theorem test_meets_FlashFiresAndIsReportedComplete :
    (let s := readyToFlash.modPhoto fun p => { p with delay := some 0 }
     s.photo.delay.isSome ∧ s.photo.flash = some armedRequest ∧ 0 < s.rechargeTime) ∧
    FlashAllowed armedRequest (readyToFlash.modPhoto fun p => { p with delay := some 0 }) ∧
    (let s := readyToFlash.modConfig fun c => { c with entries := vset c.entries 7 0 }
     s.rechargeTime = 0) ∧
    (let s := State.reset.modPhoto fun p => { p with lamp := .recharging 0 }
     s.photo.lamp ≠ .ready ∧ s.photo.flashReported = true ∧ s.exposure.work.isLine = false) ∧
    (let s := ((inLine .armed).modPhoto fun p => { p with lamp := .recharging 0 }).modExposure fun e =>
        { e with hold := some .lidOpen }
     s.photo.lamp ≠ .ready ∧ s.exposure.work = .line (work 1 .armed) ∧ s.exposure.hold.isSome) ∧
    (let s := ((inLine .armed).modPhoto fun p => { p with lamp := .recharging 0 }).modStore fun t =>
        { t with slots := vset t.slots 0 (some lineRec) }
     s.exposure.hold = none ∧ (work 1 .armed).next = (work 1 .armed).order.length ∧ (s.lineAt 0).isSome) ∧
    (work 0 .armed).next < (work 0 .armed).order.length ∧ (work 0 .armed).order[(work 0 .armed).next]? = some glyphA := by
  refine ⟨by decide +kernel, ?_, by decide +kernel, by decide +kernel, by decide +kernel, by decide +kernel,
    by decide +kernel⟩
  exact ⟨by decide +kernel, ⟨placement0, by decide +kernel⟩, by decide +kernel, by decide +kernel,
    by decide +kernel, by decide +kernel, by decide +kernel⟩

/-- A glyph decision of a font placed at the turret's station, for each check and each step that it goes on to. -/
theorem test_meets_GlyphDecided :
    (inLine .decision).exposure.hold = none ∧ (inLine .decision).film.loaded = false ∧
    ((loaded (inLine .decision)).font glyphA.slot).placement = none ∧
    (let s := loaded readyToFlash
     (s.font glyphA.slot).placement = some placement0 ∧ s.photo.turret = .standing (s.stationMap placement0.station) ∧
       s.lensFor glyphA.size = some 0 ∧ (s.font glyphA.slot).verification = .verified ∧ s.exposure.note = false ∧
       (glyphDecision (work 1 .decision) glyphA s).exposure.work = .line (work 1 .armed)) ∧
    (let s := (loaded readyToFlash).modFont 0 fun x => { x with verification := .unverified }
     placement0.code ≠ s.discCodeLines ∧
       (glyphDecision (work 1 .decision) glyphA s).exposure.hold = some .discMismatch) ∧
    (let s := ((loaded readyToFlash).modPhoto fun p => { p with disc := .proving }).modExposure fun e => { e with note := true }
     s.exposure.note = true ∧ s.photo.disc ≠ .locked) ∧
    (loaded readyToFlash).photo.turret ≠ .standing ((loaded readyToFlash).stationMap 3) := by decide +kernel

theorem test_meets_DiscTimersUnlockAndReportTheFault :
    (readyToFlash.photo.indexTimer.isSome ∧ readyToFlash.photo.disc = .locked) ∧
    (State.reset.photo.indexTimer.isSome ∧ State.reset.photo.disc ≠ .locked) ∧
    (let s := (inLine .lens).modPhoto fun p => { p with lockWatch := some 0 }
     s.photo.lockWatch.isSome ∧ s.exposure.work.isLine = true ∧ s.exposure.hold = none) ∧
    (let s := ((inLine .lens).modPhoto fun p => { p with lockWatch := some 0 }).modExposure fun e =>
        { e with hold := some .lidOpen }
     s.photo.lockWatch.isSome ∧ s.exposure.work.isLine = true ∧ s.exposure.hold.isSome) := by decide +kernel

/-- A line waits in its turret sub-step for a move to a station, commanded by Exposure Control. -/
def turretMoving (p : Station) : State :=
  (inLine .turret).modPhoto fun x => { x with turret := .moving (some p) (some .exposure), turretTimer := some 5 }

theorem test_meets_TurretArrivalsFallsAndTimeouts :
    (State.reset.photo.turret.isStanding = false ∧ State.reset.photo.disc = .unlocked ∧
      State.reset.photo.turret = .unknown) ∧
    ((turretMoving 2).photo.turret = .moving (some 2) (some .exposure) ∧ (turretMoving 2).photo.turretExpired = false ∧
      (turretMoving 2).exposure.work = .line (work 1 .turret) ∧ (turretMoving 2).exposure.hold = none ∧
      (work 1 .turret).glyph = some glyphA ∧ (turretMoving 2).photo.turretTimer.isSome) ∧
    (let s := (withFont 0 1 (turretMoving 0)).modFont 0 fun x => { x with placement := some placement0 }
     (s.font glyphA.slot).placement = some placement0 ∧ (s.font glyphA.slot).state ≠ .empty ∧
       s.stationMap placement0.station = 0 ∧ placement0.code ≠ 4) ∧
    ((inLine .armed).exposure.work = .line (work 1 .armed) ∧ (work 1 .armed).step.pastTurret = true ∧
      (work 1 .armed).glyph = some glyphA) := by decide +kernel

/-- A correct arrival with the lens elsewhere, with the disc LOCKED before it, and with the placement moved meanwhile. -/
theorem test_meets_TurretArrivals_for_the_line :
    (let s := ((withFont 0 1 (turretMoving 0)).modFont 0 fun x => { x with placement := some placement0 }).modPhoto
        fun p => { p with disc := .locked }
     s.stationMap placement0.station = 0 ∧ s.lensFor glyphA.size = some 0 ∧ s.photo.disc = .locked ∧
       s.photo.turret.isStanding = false ∧
       (answer (exec (.turretArrival 0 placement0.code) s)).any fun t => t.pulses == [.lensMove 0]) ∧
    (let s := (withFont 0 1 (turretMoving 0)).modFont 0 fun x => { x with placement := some { placement0 with station := 3 } }
     s.stationMap 3 ≠ 0 ∧ (s.font 0).verification = .unverified ∧ (s.font 0).state ≠ .empty) := by decide +kernel

theorem test_meets_turretFalls_and_timeouts_of_no_requester :
    (∀ p r, State.reset.photo.turret ≠ .moving p r) ∧
    (State.reset.modPhoto fun p => { p with turretTimer := some 0 }).photo.turretTimer.isSome := by
  constructor
  · intro p r h; cases h
  · rfl

theorem test_meets_LensArrivalsFallsAndTimeouts :
    (let s := State.reset.modPhoto fun p => { p with lens := .moving 7, lensTimer := some 0 }
     s.photo.lens = .moving 7 ∧ s.photo.lensTimer.isSome ∧ s.exposure.work.isLine = false) ∧
    (let s := (inLine .carriage).modPhoto fun p => { p with lens := .standing 0 }
     s.photo.lens = .standing 0 ∧ s.exposure.hold = none ∧ (work 1 .carriage).glyph = some glyphA ∧
       (work 1 .carriage).step.pastLens = true ∧ (work 1 .lens).step.pastLens = false) ∧
    (let s := (inLine .lens).modPhoto fun p => { p with lens := .moving 0, lensTimer := some 0 }
     s.photo.lensTimer.isSome ∧ s.exposure.work = .line (work 1 .lens) ∧ (work 1 .lens).step = .lens) := by
  decide +kernel

theorem test_meets_LensArrivals_for_the_line :
    (let s := ((withFont 0 1 (inLine .lens)).modFont 0 fun x => { x with placement := some placement0 }).modPhoto fun p =>
        { p with lens := .moving 0 }
     s.photo.lens = .moving 0 ∧ s.photo.lensExpired = false ∧ s.exposure.work = .line (work 1 .lens) ∧
       s.exposure.hold = none ∧ (s.font glyphA.slot).placement = some placement0 ∧ s.lensFor glyphA.size = some 0) ∧
    (inLine .turret).exposure.work = .line (work 1 .turret) ∧ (work 1 .turret).step ≠ .lens := by decide +kernel

/-- The carriage settles at the glyph's x, and at 0 after the home run, in the carriage sub-step. -/
theorem test_meets_CarriageSteps_for_the_line :
    (let s := ((withFont 0 1 (inLine .carriage)).modFont 0 fun x => { x with placement := some placement0 }).modPhoto fun p =>
        { p with carriage := .stepping 100, position := 99 }
     s.photo.carriageTimer.isSome ∧ s.photo.position + 1 = min 17280 glyphA.x ∧
       s.photo.carriage = .stepping (min 17280 glyphA.x) ∧ (s.font glyphA.slot).placement = some placement0 ∧
       s.lensFor glyphA.size = some 0 ∧
       (answer (exec .carriageStep s)).any fun t => t.photo.flash == some armedRequest) ∧
    ((inLine .carriage).font glyphA.slot).placement = none ∧ min 17280 { glyphA with x := 0 }.x = 0 ∧
    (inLine .lens).photo.carriageTimer.isSome := by decide +kernel

theorem test_meets_CarriageStepsTowardItsTarget :
    (let s := State.reset.modPhoto fun p => { p with carriage := .stepping 0, position := 1 }
     s.photo.carriageTimer.isSome ∧ s.exposure.work.isLine = false ∧ s.photo.carriage = .stepping 0 ∧
       s.photo.position ≠ 0) ∧
    (State.reset.photo.carriage = .homing 17280 none ∧ 1 < 17280) ∧
    (State.reset.modPhoto fun p => { p with carriage := .homing 1 none }).photo.carriage = .homing 1 none ∧
    (State.reset.modPhoto fun p => { p with carriage := .homing 1 (some 1) }).photo.carriage =
      .homing 1 (some 1) := by decide +kernel

/-- The film has steps left to move. -/
def moving (w : ExposureWork) (n : Nat) (s : State) : State :=
  (s.modFilm fun f =>
    { f with loaded := true, length := 2880, move := some { forward := true, remaining := n }, timer := some 0 }).modExposure
    fun e => { e with work := w }

theorem test_meets_FilmStepMovesOneStep :
    (let s := moving (.gap 720) 2 State.reset
     s.film.timer.isSome ∧ s.film.move = some { forward := true, remaining := 2 } ∧ s.exposure.work.isLine = false ∧
       s.film.loaded = true ∧ s.film.lowNoted = false ∧ s.film.deepest < s.film.position + 1 ∧
       s.film.length - (s.film.position + 1) < s.setting 0x0F * 1440) ∧
    (moving (.line (work 1 (.advance true 2))) 2 State.reset).exposure.work = .line (work 1 (.advance true 2)) ∧
    (let s := moving (.advanceFilm 0 true) 1 (waitingFor (req 0x42 (blk 0 [1, 0])))
     s.exposure.work = .advanceFilm 0 true ∧ s.exposure.figuresDeferred = false) ∧
    (moving (.gap 1) 1 (State.reset.setConditioned 10 true)).cutterHome = true ∧
    (moving (.gap 1) 1 State.reset).cutterHome = false ∧
    (moving (.line { work 1 (.advance true 1) with order := [] }) 1 State.reset).exposure.work =
      .line { work 1 (.advance true 1) with order := [] } ∧
    (work 1 (.advance true 1)).glyph = some glyphA := by decide +kernel

theorem handed_waitingFor (r : Request) : (waitingFor r).handed 0 r := by unfold State.handed; exact ⟨rfl, rfl, rfl, rfl⟩

theorem test_meets_CutEndsAtTheCutterOrTimesOut :
    (let s := State.reset.modExposure fun e => { e with work := .cut 5 .awaitFall, cutTimer := some 0 }
     s.exposure.work = .cut 5 .awaitFall ∧ s.exposure.hold = none ∧ s.exposure.cutTimer.isSome) ∧
    State.reset.exposure.work.isCut = false ∧
    (State.reset.modExposure fun e => { e with work := .cut 5 .awaitRise }).exposure.work = .cut 5 .awaitRise ∧
    (let s := (waitingFor (req 0x43 (blk 0 []))).modExposure fun e =>
        { e with work := .cutFilm 0 .awaitRise, cutTimer := some 0 }
     s.exposure.work = .cutFilm 0 .awaitRise ∧ s.exposure.figuresDeferred = false ∧ s.exposure.cutTimer.isSome) := by
  decide +kernel

def loadable : State := allPresent fetching

theorem test_meets_LoadCassetteRecordsANewCassette :
    fetching.readyFor 0 ∧ (blk 0 []).payload.length ≠ 2 ∧
    ((blk 0 [1, 0]).payload.length = 2 ∧ fetching.cassettePresent = false) ∧
    (loadable.cassettePresent = true ∧
      ¬ ((moving (.gap 1) 1 loadable).store.filmHolder = none ∧ (moving (.gap 1) 1 loadable).exposure.state = .idle) ∧
      (moving (.gap 1) 1 loadable).exposure.hold = none) ∧
    (loadable.store.filmHolder = none ∧ loadable.exposure.state = .idle ∧ loadable.film.lowNoted = false ∧
      max 1 (min 1200 (u16 [0, 0] 0)) < loadable.setting 0x0F ∧
      loadable.setting 0x0F ≤ max 1 (min 1200 (u16 [0xFF, 0xFF] 0))) ∧
    (let s := (moving (.gap 1) 1 loadable).modExposure fun e => { e with hold := some .filmOut }
     s.exposure.hold = some .filmOut ∧ s.exposure.work = .gap 1) := ⟨ready_fetching, by decide +kernel⟩

theorem test_meets_FreeFilmMovesBegin :
    fetching.readyFor 0 ∧ (blk 0 [1]).payload.length ≠ 2 ∧ fetching.film.loaded = false ∧
    ((loaded fetching).film.loaded = true ∧ (loaded fetching).store.filmHolder = none ∧
      (loaded fetching).exposure.state = .idle ∧ (loaded fetching).cutterHome = false ∧
      (loaded (fetching.setConditioned 10 true)).cutterHome = true) ∧
    (moving (.gap 1) 1 fetching).exposure.state ≠ .idle ∧
    min (0 + u16 [0, 0] 0 * 10) 1440 - 0 = 0 ∧ 0 < min (0 + u16 [145, 0] 0 * 10) 1440 - 0 :=
  ⟨ready_fetching, by decide +kernel⟩

def held (r : HoldReason) (w : ExposureWork) : State :=
  fetching.modExposure fun e => { e with work := w, hold := some r }

/-- A line held at a step of its glyph, whose font is placed; the film is loaded. -/
def heldGlyph (r : HoldReason) (step : LineStep) (v : Verification) (s : State) : State :=
  ((loaded s).modFont 0 fun x => { x with state := .live, placement := some placement0, verification := v }).modExposure
    fun e => { e with work := .line (work 1 step), hold := some r }

theorem test_meets_ResumeRetriesTheHeldStep :
    fetching.readyFor 0 ∧ fetching.exposure.hold = none ∧
    (held .lidOpen (.line (work 1 .decision))).lidClosed = false ∧
    (let s := held .cutJam (.cut 5 .awaitRise)
     s.exposure.hold = some .cutJam ∧ s.film.loaded = false ∧ s.cutterHome = false ∧
       (s.setConditioned 10 true).cutterHome = true ∧ (loaded s).film.loaded = true) ∧
    (let s := loaded (held .filmOut (.gap 1440))
     s.film.loaded = true ∧ s.film.position < 1440 ∧ 1440 ≤ s.film.length ∧ s.film.length < 1441) ∧
    (let s := loaded (held .filmOut (.line (work 1 (.advance true 1440))))
     s.exposure.work = .line (work 1 (.advance true 1440)) ∧ s.film.position + 1440 ≤ s.film.length ∧
       s.film.length < s.film.position + 1441) ∧
    (let s := (loaded (held .cassetteOut (.line (work 1 (.advance false 3))))).modFilm fun f => { f with position := 2 }
     s.film.galleyStart < s.film.position) ∧
    (let s := (held .lidOpen (.line (work 2 .decision))).modStore fun t => { t with slots := vset t.slots 0 (some lineRec) }
     (work 2 .decision).glyph = none ∧ s.lineAt 0 = some lineRec) := ⟨ready_fetching, by decide +kernel⟩

theorem test_meets_ResumeRetriesTheHeldStep_glyph :
    (let s := held .cassetteOut (.line (work 1 .decision))
     s.film.loaded = false ∧ s.exposure.work = .line (work 1 .decision) ∧ (work 1 .decision).glyph = some glyphA) ∧
    (let s := loaded (held .fontUnplaced (.line (work 1 .decision)))
     s.film.loaded = true ∧ (s.font 0).placement = none ∧ s.exposure.note = false) ∧
    (let s := heldGlyph .discMismatch .decision .mismatch fetching
     (s.font 0).placement.isSome ∧ (s.font 0).verification = .mismatch) ∧
    (let s := (heldGlyph .lidOpen .armed .verified fetching).modExposure fun e => { e with note := true }
     s.exposure.note = true ∧ s.photo.disc ≠ .locked ∧ (s.font 0).verification = .verified) ∧
    (let s := heldGlyph .turretJam .armed .unverified (fetching.modPhoto fun p => { p with turret := .standing 0 })
     (s.font 0).verification = .unverified ∧ (s.font 0).state ≠ .empty ∧
       s.photo.turret = .standing (s.stationMap placement0.station) ∧ placement0.code ≠ s.discCodeLines ∧
       placement0.code = ({ s with sensors := { s.sensors with inputs := 0xA0 } }).discCodeLines) ∧
    (let s := heldGlyph .turretJam .turret .unverified fetching
     s.photo.turret ≠ .standing (s.stationMap placement0.station) ∧ (s.font 0).placement = some placement0) ∧
    (let s := heldGlyph .lensJam .lens .verified (fetching.modPhoto fun p => { p with turret := .standing 0 })
     s.photo.turret = .standing (s.stationMap placement0.station) ∧ s.lensFor glyphA.size = some 0 ∧
       s.photo.lens ≠ .standing 0) ∧
    (let s := heldGlyph .discFault .lens .verified (fetching.modPhoto fun p =>
        { p with turret := .standing 0, lens := .standing 0, carriage := .settled, position := 100 })
     s.photo.lens = .standing 0 ∧ s.photo.carriage = .settled ∧ s.photo.position = glyphA.x ∧ glyphA.x ≤ 17280) := by
  refine ⟨?_, ?_, ?_, ?_, ?_, ?_, ?_⟩ <;> decide +kernel

/-- A line held in its lens sub-step, the turret at the station where its turret sub-step ended. -/
def lensHeld (f : FontRecord → FontRecord) : State :=
  ((heldGlyph .lensJam .lens .verified (fetching.modPhoto fun p => { p with turret := .standing 0 })).modExposure fun e =>
    { e with turretAt := some 0 }).modFont 0 f

/-- R146: the lens move is commanded again, also where the placement was moved or cleared while HELD; R144: a station lost
while HELD holds again; a font in MISMATCH at the turret's station holds instead (log 45). -/
theorem test_lens_sub_step_retried :
    let moved := fun x : FontRecord => { x with placement := some { placement0 with station := 3 }, verification := .unverified }
    ([lensHeld id, lensHeld moved, lensHeld fun x => { x with placement := none },
      (lensHeld moved).modPhoto fun p => { p with turret := .standing 1 },
      lensHeld fun x => { x with verification := .mismatch }].map fun s =>
      (answer (exec (.resumeExposure 0 (blk 0 [])) s)).map fun t => (t.exposure.hold, t.pulses)) =
    [some (none, [.lensMove 0]), some (none, [.lensMove 0]), some (none, [.lensMove 0]), some (some .turretJam, []),
      some (some .discMismatch, [])] := by decide +kernel

theorem test_meets_ResumeRetriesTheHeldStep_lens :
    (let s := lensHeld fun x => { x with placement := none }
     s.exposure.turretAt = some 0 ∧ s.photo.turret = .standing 0 ∧ s.film.loaded = true ∧ s.exposure.note = false ∧
       s.lensFor glyphA.size = some 0 ∧ s.photo.lens ≠ .standing 0) ∧
    (let s := (lensHeld id).modPhoto fun p => { p with turret := .standing 1 }
     s.photo.turret ≠ .standing (s.stationMap placement0.station) ∧ s.photo.turret ≠ .standing 0) := by decide +kernel

/-- R146 and R144: a retry of the lens sub-step, or of the cut, with the cassette out holds again. -/
theorem test_retry_finds_the_cassette_out :
    ([held .lensJam (.line (work 1 .lens)), held .cutJam (.cut 5 .awaitRise)].map fun s =>
      (answer (exec (.resumeExposure 0 (blk 0 [])) s)).map fun t => (t.exposure.hold, t.pulses)) =
    [some (some .cassetteOut, []), some (some .cassetteOut, [])] := by decide +kernel

/-- A font placed at station 3, expecting code 5. -/
def placedAt3 : State :=
  (withFont 31 7 fetching).modFont 31 fun x => { x with placement := some { placement0 with station := 3 } }

def standingAt (q : Station) (s : State) : State := s.modPhoto fun p => { p with turret := .standing q }

/-- A visit of station 3 under way. -/
def visiting : State :=
  placedAt3.modPhoto fun p =>
    { p with turret := .moving (some 3) (some .verify), turretTimer := some 1
             verify := some { channel := 0, visits := [3], mismatch := 0, notReached := 0 } }

theorem test_meets_VerifyStationsVisitsInOrder :
    fetching.readyFor 0 ∧ (inLine .lens).exposure.work.isLine = true ∧ visiting.photo.verify.isSome ∧
    (fetching.exposure.work.isLine = false ∧ fetching.photo.verify = none ∧
      ∀ i, (fetching.font i).state = .empty) ∧
    ((placedAt3.font 31).state ≠ .empty ∧
       (placedAt3.font 31).placement.map (fun p => placedAt3.stationMap p.station) = some 3 ∧
       (∀ i, i ≠ 31 → (placedAt3.font i).state = .empty) ∧ placedAt3.photo.turret ≠ .standing 3 ∧
       (standingAt 3 placedAt3).photo.turret = .standing 3) ∧
    (visiting.photo.turret = .moving (some 3) (some .verify) ∧ visiting.photo.turretExpired = false ∧
      visiting.photo.turretTimer.isSome ∧ (visiting.photo.verify.map (·.visits)) = some [3]) :=
  ⟨ready_fetching, by decide +kernel⟩

/-- R132: a visit at the standing station is made at once; code 0 is latched, so the font is in MISMATCH. -/
theorem test_visit_at_the_standing_station :
    ((answer (exec (.verifyStations 0 (blk 0 [])) (standingAt 3 placedAt3))).map fun t =>
      ((t.font 31).verification, t.photo.latched, (t.channel 0).posting.map (·.detail))) =
      some (.mismatch, some 0, some 8) := by decide +kernel

/-- The payload of OPEN GALLEY: mode BOTH, priority 1, font 7, size 22, and the rest in range. -/
def openPayload : List Byte := [2, 1, 7, 22, 0, 24, 0, 100, 0, 3, 5, 8, 20, 0, 3, 2, 0, 0]

/-- Galley 0 takes a line end with a glyph of slot 0 in progress; CH1 holds an amend of that font. -/
def amendHeld (partials : Nat) : State :=
  ((openBuilder (fun b => { b with items := [.glyph (glyphB 600)], glyphCount := 1 }) (serving [0x65])).modFont 0 fun x =>
    { x with partialRefs := partials
             amend := some { parts := ⟨none, none, none, some 1⟩, clamped := true, channel := 1 } }).modChannel 1 fun k =>
      { k with state := .waiting, inFlight := some (req 0x11 (blk 1 amendSet)) }

theorem test_meets_AmendFontAppliesOrIsHeld_later :
    (let s := amendHeld 1
     s.engine.state = .serving 0 ∧ (s.galley 0).state = .opened ∧
       headItem (s.galley 0).buffer = some (.lineEnd, []) ∧ (s.galley 0).builder.word = [] ∧
       (s.galley 0).waiting = [] ∧ s.freeSlot.isSome ∧ HeldOnce s ∧ (s.galley 0).builder.hasGlyphOf 0 = true ∧
       (s.font 0).state = .live ∧ (s.font 0).amend.isSome ∧ (s.font 0).partialRefs = 1 ∧
       ((answer (exec .takeItem s)).any fun t =>
         (t.font 0).proofSet == 1 && (t.font 0).revision == 1 && (t.channel 1).state == .posting)) ∧
    (HeldOnce (amendHeld 2) ∧ 1 < ((amendHeld 2).font 0).partialRefs) := by
  unfold HeldOnce; decide +kernel

theorem test_meets_OpenGalleySetsUpAClosedGalley :
    fetching.readyFor 0 ∧ galleyOf 8 = none ∧ parseOpenGalley [] = none ∧
    (galleyOf 7 = some 7 ∧ (parseOpenGalley openPayload).any (fun a => a.fontNumber == 7 && a.size == 22)) ∧
    ((serving []).galley 0).state ≠ .closed ∧
    ((fetching.galley 7).state = .closed ∧ fetching.resolve 7 = none) ∧
    ((withFont 0 7 fetching).resolve 7).isSome ∧
    (let s := fetching.modConfig fun c =>
        { c with entries := Vector.ofFn fun k : Fin 201 => if 0x18 ≤ k.val ∧ k.val ≤ 0x1F then 0 else vget c.entries k }
     ∀ p, s.lensSize p = 0) ∧
    nearestLens 22 (withFont 0 7 fetching) = some 20 := ⟨ready_fetching, by decide +kernel⟩

/-- Galley 7 OPEN, with some bytes in its buffer and some waiting text; CH0 fetching. -/
def galley7 (state : GalleyState) (fill : Nat) (waiting : List WaitingText) : State :=
  fetching.modGalley 7 fun x => { x with state := state, buffer := List.replicate fill 0, waiting := waiting }

theorem test_meets_SetTextAndSetPriorityServeTheGalley :
    fetching.readyFor 0 ∧ galleyOf (blk 7 []).target = some 7 ∧ (fetching.galley 7).state ≠ .opened ∧
    (let x := (galley7 .opened 1023 []).galley 7
     x.state = .opened ∧ x.waiting = [] ∧ x.buffer.length + (blk 7 [1]).payload.length ≤ 1024) ∧
    (let x := (galley7 .opened 1024 []).galley 7
     1024 < x.buffer.length + (blk 7 [1]).payload.length ∧ x.buffer.length ≤ 1024) ∧
    (let x := (galley7 .opened 1024 [{ channel := 1, text := [1] }]).galley 7
     x.waiting = [{ channel := 1, text := [1] }] ∧ 1024 < x.buffer.length + 1) ∧
    galleyOf (blk 8 []).target = none ∧ (blk 7 []).payload.length ≠ 1 ∧ 3 < (4#8).toNat ∧ (3#8).toNat ≤ 3 ∧ ((galley7 .cancelling 0 []).galley 7).state = .cancelling ∧
    ((galley7 .ending 0 []).galley 7).state = .ending := ⟨ready_fetching, by decide +kernel⟩

theorem test_meets_CancelGalleyClosesOrCancels :
    fetching.readyFor 0 ∧ (fetching.galley 7).state = .closed ∧
    (let s := galley7 .ending 3 []
     (s.galley 7).state = .ending ∧ s.linesOf 7 = [] ∧ (s.galley 7).waiting = [] ∧ (∀ i, (s.font i).amend = none) ∧
       s.store.filmHolder ≠ some 7 ∧ s.store.paperHolder ≠ some 7) ∧
    (let s := (galley7 .opened 3 []).modStore fun t => { t with paperHolder := some 7 }
     s.store.paperHolder = some 7 ∧ s.store.paperEndDone = false) := ⟨ready_fetching, by decide +kernel⟩

theorem test_meets_CancelGalleyClosesOrCancels_lines :
    twoLines.readyFor 0 ∧ galleyOf (blk 3 []).target = some 3 ∧ (twoLines.galley 3).state = .opened ∧
    HeldOnce twoLines ∧ StoreLegal twoLines.store ∧
    ((answer (exec (.cancelGalley 0 (blk 3 [])) twoLines)).any fun t =>
      t.linesOf 3 == [0] && (t.galley 3).state == .cancelling &&
      (t.channel 0).posting.any (fun p => p.completion == .done && p.detail == 1) &&
      (t.channel 1).posting.any fun p => p.completion == .wrongState && p.detail == 0) :=
  ⟨by unfold State.readyFor; decide +kernel, by decide +kernel, by decide +kernel, heldOnce_twoLines, storeLegal_twoLines,
    by decide +kernel⟩

theorem test_meets_CancelGalleyClosesOrCancels_closes :
    let s := twoLines.modStore fun t => { t with slots := vset t.slots 0 none, order := vset t.order 3 [1] }
    s.readyFor 0 ∧ HeldOnce s ∧ StoreLegal s.store ∧
    ((answer (exec (.cancelGalley 0 (blk 3 [])) s)).any fun t =>
      t.linesOf 3 == [] && (t.galley 3).state == .closed && t.raised (.galleyClosed 3)) ∧
    (s.lineAt 1).any (fun r => r.proof && r.film) ∧
    ((twoLines.lineAt 0).any fun r => !r.proof && (proofDone 0 twoLines).lineAt 0 == some r) := by
  refine ⟨by unfold State.readyFor; decide +kernel, by unfold HeldOnce; decide +kernel, ?_, by decide +kernel,
    by decide +kernel, by decide +kernel⟩
  rw [storeLegal_iff]; decide +kernel

theorem test_meets_TakingAnItemHasTheEffectOfItsKind :
    ((serving [0]).engine.state = .serving 0 ∧ ((serving [0]).galley 0).state = .opened ∧
      headItem [0] = some (.glyph 0, []) ∧ ((serving [0]).galley 0).waiting = [] ∧
      ((serving [0]).galley 0).font = some 0 ∧ ((serving [0]).galley 0).builder.word = [] ∧
      ((serving [0]).galley 0).builder.usesSlot 0 = false ∧ (serving [0]).freeSlot = some 0) ∧
    (let b := ((openBuilder (fun b => { b with items := [.glyph (glyphB 600)], glyphCount := 1 }) (serving [0])).galley 0).builder
     b.isOpen = true ∧ b.word = [] ∧ b.usesSlot 0 = true ∧ b.afterBreak = false ∧ 0 < b.glyphCount) ∧
    (let b := ((openBuilder (fun b => { b with word := List.replicate 62 (glyphB 1) ++ [glyphB 600] }) (serving [0])).galley 0).builder
     b.word = List.replicate 62 (glyphB 1) ++ [glyphB 600] ∧ b.word.length < 64 ∧ b.usesSlot 0 = true ∧
       (glyphB 600).slot = 0 ∧ (glyphB 600).size = ((serving [0]).galley 0).size) ∧
    (headItem [0x61, 1] = some (.space .em, [1]) ∧ headItem [0x60] = some (.space .interword, []) ∧
      headItem [0x64] = some (.discretionary, [])) ∧
    (let b := ((openBuilder id (serving [0x61])).galley 0).builder
     b.glyphCount = 0 ∧ (b.gap.map (·.min)).sum + 32 * 5 * 12 ≤ b.latched.measure ∧
       b.latched.measure < (b.gap.map (·.min)).sum + 32 * 5 * 120) ∧
    ((openBuilder (fun b => { b with afterBreak := true }) (serving [0x61])).galley 0).builder.afterBreak = true ∧
    (let b := ((openBuilder (fun b => { b with word := [glyphB 600] }) (serving [0x64])).galley 0).builder
     b.word ≠ [] ∧ b.marks = []) ∧
    ((openBuilder (fun b => { b with word := [glyphB 600], marks := [1] }) (serving [0x64])).galley 0).builder.marks = [1] ∧
    (headItem [0x68, 22, 0] = some (.size 22, []) ∧ nearestLens 22 State.reset = some 20) ∧
    (headItem [0x69, 0x20, 1] = some (.leading 288, []) ∧ headItem [0x69, 0x21, 1] = some (.leading 289, [])) ∧
    (headItem [0x6B, 72, 0] = some (.measure 72, []) ∧ headItem [0x6B, 0xA0, 5] = some (.measure 1440, []) ∧
      headItem [0x6B, 71, 0] = some (.measure 71, [])) ∧
    headItem [0x6A, 0x20, 1] = some (.reverse 288, []) ∧ headItem [0x6C, 3] = some (.quad 3, []) ∧
    headItem [0x6C, 4] = some (.quad 4, []) ∧
    (headItem [0x67, 9] = some (.fontSelect 9, []) ∧ (serving []).resolve 9 = none ∧ (serving []).resolve 1 = some 0 ∧
      (withFont 5 9 (serving [])).resolve 9 = some 5 ∧ ((serving []).galley 0).font ≠ some 5 ∧
      ((serving []).font 0).state = .live ∧ ((serving []).font 0).amend = none) ∧
    headItem [0xFF] = some (.bad, []) ∧
    (headItem [0x65] = some (.lineEnd, []) ∧ headItem [0x66, 7] = some (.endGalley, [7]) ∧
      (serving [0x65]).lineAt 0 = none) := by
  refine ⟨?_, ?_, ?_, ?_, ?_, ?_, ?_, ?_, ?_, ?_, ?_, ?_, ?_, ?_, ?_, ?_, ?_⟩ <;> decide +kernel

/-- A glyph of a font that the line does not use yet, with a word of another font (R49). -/
theorem test_meets_TakingAnItem_first_of_its_font :
    let s := (openBuilder (fun b => { b with word := List.replicate 63 (glyphB 1) }) (serving [0])).modGalley 0 fun x =>
      { x with font := some 5 }
    (s.galley 0).font = some 5 ∧ (s.galley 0).builder.word ≠ [] ∧ (s.galley 0).builder.word.length < 64 ∧
      (s.galley 0).builder.usesSlot 5 = false ∧
      (answer (exec .takeItem s)).any fun t => (t.font 5).partialRefs == 1 := by decide +kernel

theorem test_meets_TakingAnItem_parameters :
    (headItem [0x6D, 1, 2, 3]).isSome ∧ (headItem [0x6E, 3]).isSome ∧ (headItem [0x6F, 3, 7]).isSome ∧
      (headItem [0x70, 2, 3]).isSome ∧
      (let s := (serving []).modFont 0 fun x => { x with state := .retiring, currentRefs := 1 }
       (s.font 0).state = .retiring ∧ (s.font 0).currentRefs ≤ 1 ∧ (s.font 0).lineRefs = 0) := by decide +kernel

/-- Both channels wait with a text of galley 0, which serves an item before a buffer that is nearly full. -/
def textsWait (item : Byte) : State :=
  let text := fun ch n => ({ channel := ch, text := List.replicate n 7 } : WaitingText)
  let waits := fun k : Channel => { k with state := .waiting, inFlight := some (req 0x31 (blk 0 [])) }
  (((serving (item :: List.replicate 1020 1)).modGalley 0 fun x => { x with waiting := [text 1 3, text 0 2] }).modChannel 0
    waits).modChannel 1 waits

theorem test_meets_TakingAnItem_waiting_text :
    (let s := textsWait 0x65
     s.engine.state = .serving 0 ∧ (s.galley 0).state = .opened ∧ (s.galley 0).buffer.length ≤ 1024 ∧
       (headItem (s.galley 0).buffer).any (fun i => i.1 == .lineEnd) ∧ (s.galley 0).builder.word = [] ∧
       s.freeSlot.isSome ∧ HeldOnce s ∧
       ((answer (exec .takeItem s)).any fun t => (t.galley 0).buffer.length == 1023 && (t.galley 0).waiting.length == 1 &&
         (t.channel 1).posting.any (fun p => p.completion == .done && p.detail == 3) &&
         (t.channel 0).state == .waiting)) ∧
    (let s := textsWait 0x66
     (headItem (s.galley 0).buffer).any (fun i => i.1 == .endGalley) ∧ HeldOnce s ∧
       ((answer (exec .takeItem s)).any fun t => (t.galley 0).waiting == [] &&
         (t.channel 0).posting.any (fun p => p.completion == .wrongState && p.detail == 0) &&
         (t.channel 1).posting.any fun p => p.completion == .wrongState && p.detail == 0)) := by
  unfold HeldOnce; decide +kernel

/-- A word of one glyph too wide for the line, or one that fits. -/
def wordOf (n : Nat) : State := openBuilder (fun b => { b with word := [glyphB n] }) (serving [0x60])

/-- The code map gives codes 1 and 2 the letters 1 and 2; the galley hyphenates; two glyphs stand in its word. -/
def toLookUp : State :=
  (openBuilder (fun b =>
      { b with word := [glyphB 9000, { glyphB 9000 with code := 2 }],
               latched := { b.latched with measure := 16000, hyphenate := true } }) (serving [0x60])).modConfig fun c =>
    { c with entries := vset (vset c.entries 0x21 1) 0x22 2 }

theorem test_meets_SettlingAWordPlacesItOrLooksItUp :
    ((wordOf 16000).engine.state = .serving 0 ∧ ((wordOf 16000).galley 0).state = .opened ∧
      headItem ((wordOf 16000).galley 0).buffer = some (.space .interword, []) ∧
      ((wordOf 16000).galley 0).builder.word ≠ [] ∧ (Item.space .interword).endsWord 1 = true) ∧
    (let b := ((wordOf 16000).galley 0).builder
     b.nMin + (b.gap.map (·.min)).sum + (b.word.map (·.advance)).sum ≤ 16000 ∧ b.glyphCount + b.word.length ≤ 240) ∧
    (let b := (toLookUp.galley 0).builder
     ¬ b.nMin + (b.gap.map (·.min)).sum + (b.word.map (·.advance)).sum ≤ 16000 ∧
       lookupCore toLookUp b = some [1, 2]) ∧
    (State.reset.modDict fun d => { d with running := some (.lookup [1, 2] false) }).dict.running =
      some (.lookup [1, 2] false) ∧
    (let s := (toLookUp.modDict fun d => { d with running := some (.lookup [1, 2] true) }).modEngine fun e =>
        { e with state := .lookup 0 }
     s.dict.running = some (.lookup [1, 2] true) ∧ s.engine.state = .lookup 0 ∧ s.lineAt 0 = none) := by decide +kernel

/-- Three glyphs too wide for the line, the second a hyphen: the hyphen glyph's code is 13 by default. -/
def toDivide (f : Builder → Builder) : State :=
  openBuilder (fun b => f { b with word := [glyphB 9000, { glyphB 500 with code := 13 }, glyphB 9000],
                                   latched := { b.latched with measure := 16000, hyphenate := true } }) (serving [0x60])

theorem test_meets_Settling_break_search :
    (let s := toDivide id
     let b := (s.galley 0).builder
     b.nMin + (b.gap.map (·.min)).sum + (b.word.map (·.advance)).sum = 18500 ∧ lookupCore s b = none ∧
       s.lineAt 0 = none ∧ candidates s b = [{ j := 2, source := .hard }] ∧
       candidateFits s b { j := 2, source := .hard } = true) ∧
    (let s := toDivide fun b => { b with nMin := 15000, glyphCount := 3 }
     let b := (s.galley 0).builder
     b.glyphCount ≠ 0 ∧ candidateFits s b { j := 2, source := .hard } = false) ∧
    (let s := toDivide fun b => { b with latched := { b.latched with measure := 0 } }
     let b := (s.galley 0).builder
     b.glyphCount = 0 ∧ candidateFits s b { j := 2, source := .hard } = false ∧ cutPlace b = 1) := by
  refine ⟨?_, ?_, ?_⟩ <;> decide +kernel

theorem test_meets_Settling_references :
    HeldOnce (toDivide id) ∧
    HeldOnce ((toLookUp.modDict fun d => { d with running := some (.lookup [1, 2] true) }).modEngine fun e =>
      { e with state := .lookup 0 }) ∧
    ((toDivide id).galley 0).builder.hasGlyphOf 0 = true := by unfold HeldOnce; decide +kernel

theorem test_meets_Settling_candidates :
    (let b := ((toDivide fun b => { b with latched := { b.latched with hyphenate := false } }).galley 0).builder
     b.latched.hyphenate = false) ∧
    (let b := ((toDivide fun b => { b with latched := { b.latched with ladder := 2 }, hyphCount := 2 }).galley 0).builder
     b.latched.ladder ≠ 0 ∧ b.latched.ladder ≤ b.hyphCount) ∧
    (let b := ((toDivide fun b => { b with marks := [1, 3] }).galley 0).builder
     b.latched.hyphenate = true ∧ b.latched.ladder = 0 ∧ (1 : Nat) ∈ b.marks ∧ 1 < b.word.length ∧
       candidates (toDivide id) b = [{ j := 1, source := .discretionary }, { j := 2, source := .hard }]) ∧
    (let b := (toLookUp.galley 0).builder
     b.marks = [] ∧ answeredCandidates toLookUp b (.allow [1]) = [{ j := 1, source := .dictionary }] ∧
       answeredCandidates toLookUp b .never = []) := by
  refine ⟨?_, ?_, ?_, ?_⟩ <;> decide +kernel

theorem test_meets_StretchAndShrinkAreExact :
    [sp 1 5 9] ≠ [] ∧ (∀ p ∈ [sp 1 5 9, sp 5 5 5], p.min ≤ p.opt) ∧
    4 ≤ ([sp 1 5 9, sp 5 5 5].map fun p => p.opt - p.min).sum := by decide +kernel

theorem test_meets_SetLinesFitAndPositionsRoundOnce :
    (∀ p ∈ [sp 1 5 9], p.min ≤ p.opt) ∧ ([sp 1 5 9].map (·.opt)).sum ≤ 5 ∧
    5 ≤ 1 + ([sp 1 5 9].map fun p => p.opt - p.min).sum ∧ 8 % 16 = 8 ∧ 230400 ≤ 230400 ∧
    1 + ([sp 1 5 9].map fun p => p.opt - p.min).sum < 6 := by decide +kernel

/-- A line of two glyphs with an interword space between them, set to the right: the second glyph stands at the flash
position of the offset, the advance and the space before it (R63, R66). -/
theorem test_glyph_list_of_a_line :
    let e : LineEnd := { items := [.glyph (glyphB 600), .space (sp 1 400 9)] ++ .glyph (glyphB 700) :: [], byBreak := false,
                         hyphenBreak := false, flags := {}, carry := [], marks := [], afterBreak := false }
    let s := openBuilder id (serving [0x65])
    ((lineRecord false 0 { s.galley 0 with quad := .right } e).glyphs.map (·.x)) =
      -- P = 14,300 and 15,300
      [894, 956] := by decide +kernel

theorem test_meets_ArbitrationChoosesByPriorityThenRound :
    (let s := (serving [0]).modEngine fun e => { e with state := .idle }
     s.arbitration = some 0 ∧ s.eligible 0 = true ∧ (tryArbitrate s).isSome) ∧ State.reset.arbitration = none := by
  decide +kernel

theorem test_meets_DictionaryWorkIsPresentedAndGranted :
    fetching.readyFor 0 ∧
    (fetching.settled = true ∧ fetching.dict.running = none ∧ fetching.writeProtect = false ∧
      (blk 15 []).target.toNat ≤ 15 ∧ 15 < (blk 16 []).target.toNat) ∧
    (let s := State.reset.modDict fun d => { d with presentedLookup := some { galley := 0, core := [1, 2] } }
     s.dict.running = none ∧ s.dict.presentedLookup.isSome ∧ s.dict.lastKind = .channel ∧ s.dict.purge = none ∧
       ∀ ch, vget s.dict.presented ch = none) ∧
    (let s := State.reset.modDict fun d => { d with purge := some { channel := 0, tag := 0, next := 511, removed := 0 } }
     s.dict.running = none ∧ s.dict.purge.isSome ∧ s.dict.presentedLookup = none) ∧
    (let s := State.reset.modDict fun d => { d with presented := vset d.presented 0 (some (req 0x20 (blk 0 []))) }
     vget s.dict.presented 0 = some (req 0x20 (blk 0 [])) ∧ s.dict.lastChannel ≠ 0 ∧ s.dict.purge = none) :=
  ⟨ready_fetching, by decide +kernel⟩

/-- The code map of the dictionary tests: code `c` has letter `c`, for 1 to 40. -/
def letters : Vector Byte 96 := Vector.ofFn fun i => if i.val ≤ 40 then BitVec.ofNat 8 i.val else 0

/-- CH0 waits for an operation that runs. -/
def running (r : Request) (prot : Bool) : State :=
  withEntry ((waitingFor r).modDict fun d => { d with running := some (.request 0 r prot letters) })

/-- ADD WORDS with one entry; AMEND WORD; DELETE WORD of words in and out of the dictionary. -/
def addOne (a b : Byte) : Request := req 0x20 (blk 15 [1, 0, 2, a, b, 0, 1, 1])
def amendOne (a b : Byte) : Request := req 0x21 (blk 15 [2, a, b, 1, 0])
def deleteOne (a b : Byte) : Request := req 0x22 (blk 0 [2, a, b])

/-- ADD WORDS of two new words and one of them again, with the count given. -/
def addThree (n : Byte) : Request := req 0x20 (blk 15 ([n, 0] ++ [2, 1, 3, 1, 0] ++ [2, 3, 3, 1, 0] ++ [2, 1, 3, 1, 0]))

theorem test_meets_DictionaryOperations_list :
    (let s := running (addThree 3) false
     (addThree 3).block.target.toNat ≤ 15 ∧ 2 ≤ (addThree 3).block.payload.length ∧
       ((answer (exec .dictionaryOperationComplete s)).any fun t => (t.channel 0).posting.any fun p =>
         p.completion == .alreadyExists && p.detail == 2) ∧
       ((answer (exec .dictionaryOperationComplete (running (addThree 4) false))).any fun t =>
         entryCount t.dict.chains == 3) ∧
       ((answer (exec .dictionaryOperationComplete (running (addThree 0) false))).any fun t =>
         (t.channel 0).posting.any fun p => p.completion == .done && p.detail == 0)) ∧
    EntriesAdded letters 15 [] [1] (Vector.replicate 512 []) [1] (Vector.replicate 512 []) ∧
    ((req 0x20 (blk 15 [1])).block.payload.length < 2 ∧ 15 < (req 0x21 (blk 16 [])).block.target.toNat ∧
      takeEntry letters 15 [] = none ∧ 15 < (req 0x24 (blk 16 [])).block.target.toNat ∧ parseWord letters [] = none) :=
  ⟨by decide +kernel, ⟨rfl, rfl⟩, by decide +kernel⟩

theorem test_meets_DictionaryOperations_look_up :
    (let s := running (req 0x23 (blk 0 [2, 1, 2])) false
     parseWord letters [2, 1, 2] = some [1, 2] ∧
       vget s.dict.chains (bucketOf [1, 2]) = [] ++ oneEntry :: [] ∧
       ((answer (exec .dictionaryOperationComplete s)).any fun t => (t.channel 0).posting.any fun p =>
         p.reply == [1, 0, 1, 0, 1, 0, 0, 3, 2, 1, 2, 1, 1])) ∧
    parseWord letters [2, 1, 3] = some [1, 3] ∧
    findEntry [1, 3] (running (req 0x23 (blk 0 [2, 1, 3])) false).dict.chains = none := by decide +kernel

theorem test_meets_DictionaryOperationsHaveTheirEffect :
    ((running (addOne 1 3) true).dict.running = some (.request 0 (addOne 1 3) true letters)) ∧
    (let s := running (addOne 1 3) false
     (addOne 1 3).block.target.toNat ≤ 15 ∧ 2 ≤ (addOne 1 3).block.payload.length ∧
       u16 (addOne 1 3).block.payload 0 = 1 ∧
       (takeEntry letters 15 ((addOne 1 3).block.payload.drop 2)).any (fun e =>
         (findEntry e.1.word s.dict.chains).isNone && decide (entryCount s.dict.chains < 2048)) ∧
       (takeEntry letters 15 ((addOne 1 2).block.payload.drop 2)).any fun e =>
         (findEntry e.1.word s.dict.chains).isSome) ∧
    15 < (blk 16 []).target.toNat ∧
    (let s := running (amendOne 1 2) false
     (takeEntry letters 15 (amendOne 1 2).block.payload).any (fun e =>
       e.2 == [] && (findEntry e.1.word s.dict.chains).isSome) ∧
     (takeEntry letters 15 (amendOne 40 40).block.payload).any fun e =>
       e.2 == [] && (findEntry e.1.word s.dict.chains).isNone) ∧
    (let s := running (deleteOne 1 2) false
     parseWord letters (deleteOne 1 2).block.payload = some [1, 2] ∧ (findEntry [1, 2] s.dict.chains).isSome ∧
       parseWord letters (deleteOne 1 3).block.payload = some [1, 3] ∧ findEntry [1, 3] s.dict.chains = none ∧
       parseWord letters [] = none) ∧
    (let s := (State.reset.modDict fun d =>
        { d with running := some .bucket, purge := some { channel := 0, tag := 3, next := 510, removed := 65535 } })
     s.dict.running = some .bucket ∧ s.dict.purge.isSome) := by decide +kernel

theorem test_meets_full_dictionary :
    2048 ≤ entryCount (Vector.replicate 512 [oneEntry, oneEntry, oneEntry, oneEntry]) := by decide +kernel

theorem test_meets_LoadProofCellsReplacesARun :
    fetching.readyFor 0 ∧ 4 ≤ (blk 4 []).target.toNat ∧ parseCells [] = none ∧
    ((blk 3 []).target.toNat = (3 : Fin 4).val ∧
      (parseCells [95, 1, 17, 1, 8, 3, 0, 4, 0]).any fun x => x.1 == 95 && x.2.length == 1) :=
  ⟨ready_fetching, by decide +kernel⟩

theorem test_meets_BandsAreTheOrOfTheirCells : (1199 : Nat) < 1200 ∧ 1200 ≤ 1200 ∧ glyphA.absent = false ∧
    { glyphA with absent := true }.absent = true ∧ 14400 ≤ 14400 ∧ (5 : Nat) < 6 ∧ (7 : Nat) < 8 ∧ (0 : Nat) ≠ 5 := by
  decide +kernel

theorem test_meets_CompositionResetStopsTheWork_requests :
    (let s := amendHeld 1
     s.config.index = 0 ∧ HeldOnce s ∧ (s.font 0).state = .live ∧ (s.font 0).amend.isSome ∧
       (answer (exec .compositionReset s)).any fun t => (t.channel 1).posting.any fun p =>
         p.completion == .doneClamped && p.detail == 1) ∧
    (HeldOnce (textsWait 0x65) ∧ ((textsWait 0x65).galley 0).waiting.length = 2 ∧
       (answer (exec .compositionReset (textsWait 0x65))).any fun t => (t.channel 0).posting.any fun p =>
         p.completion == .reset) ∧
    (let s := (waitingFor (req 0x42 (blk 0 [1, 0]))).modExposure fun e => { e with work := .advanceFilm 0 false }
     HeldOnce s ∧ (answer (exec .compositionReset s)).any fun t => (t.channel 0).posting.any fun p =>
       p.completion == .reset) := by
  unfold HeldOnce; decide +kernel

theorem test_meets_CompositionResetStopsTheWork :
    (State.reset.config.index = 0 ∧ (∀ i, (State.reset.font i).amend = none) ∧
      (∀ g, (State.reset.galley g).waiting = []) ∧ State.reset.exposure.work.isFreeMove = false) ∧
    ((withFont 0 1 State.reset).font 0).state = .live ∧ (State.reset.font 0).state ≠ .live ∧
    (turretMoving 2).photo.turret = .moving (some 2) (some .exposure) ∧
    (State.reset.modDict fun d => { d with running := some (.lookup [1, 2] true) }).dict.running =
      some (.lookup [1, 2] true) := by decide +kernel

end Sys2Proof.Tests
end

section
/-! SUPPORT. The numbers of the LIVE records (R2): every operation but LOAD FONT, RETIRE FONT and power-on reset keeps
them, by one lemma each. -/

namespace Sys2Proof.Machine

/-- What R2 reads of a record: its number while it is LIVE. -/
def FontRecord.liveNumber (r : FontRecord) : Option Nat := if r.state = .live then some r.number else none

/-- The numbers of the LIVE records, slot by slot. -/
def State.liveNumbers (s : State) : Vector (Option Nat) 32 := vmap FontRecord.liveNumber s.fonts

theorem State.liveNumbers_congr {s t : State} (h : ∀ i, (t.font i).liveNumber = (s.font i).liveNumber) :
    t.liveNumbers = s.liveNumbers := by
  apply Vector.ext
  intro k hk
  have := h ⟨k, hk⟩
  simpa only [State.liveNumbers, vmap, Vector.getElem_ofFn, State.font, vget] using this

theorem liveNumbers_modFont {s : State} {i : FontSlot} {f : FontRecord → FontRecord}
    (h : (f (s.font i)).liveNumber = (s.font i).liveNumber) : (s.modFont i f).liveNumbers = s.liveNumbers := by
  apply State.liveNumbers_congr
  intro j
  by_cases e : i = j
  · subst e; rw [State.font_modFont_self, h]
  · rw [State.font_modFont_ne _ _ e]

@[simp] theorem liveNumbers_modGalley (s : State) (g : GalleyId) (f : Galley → Galley) :
    (s.modGalley g f).liveNumbers = s.liveNumbers := rfl
@[simp] theorem liveNumbers_modBuilder (s : State) (g : GalleyId) (f : Builder → Builder) :
    (s.modBuilder g f).liveNumbers = s.liveNumbers := rfl
@[simp] theorem liveNumbers_modEngine (s : State) (f : Engine → Engine) :
    (s.modEngine f).liveNumbers = s.liveNumbers := rfl
@[simp] theorem liveNumbers_modStore (s : State) (f : Store → Store) :
    (s.modStore f).liveNumbers = s.liveNumbers := rfl
@[simp] theorem liveNumbers_modPhoto (s : State) (f : Photo → Photo) :
    (s.modPhoto f).liveNumbers = s.liveNumbers := rfl
@[simp] theorem liveNumbers_modExposure (s : State) (f : Exposure → Exposure) :
    (s.modExposure f).liveNumbers = s.liveNumbers := rfl
@[simp] theorem liveNumbers_modFilm (s : State) (f : Film → Film) :
    (s.modFilm f).liveNumbers = s.liveNumbers := rfl
@[simp] theorem liveNumbers_modProof (s : State) (f : ProofGen → ProofGen) :
    (s.modProof f).liveNumbers = s.liveNumbers := rfl
@[simp] theorem liveNumbers_modSensors (s : State) (f : Sensors → Sensors) :
    (s.modSensors f).liveNumbers = s.liveNumbers := rfl
@[simp] theorem liveNumbers_modConfig (s : State) (f : ConfigSpace → ConfigSpace) :
    (s.modConfig f).liveNumbers = s.liveNumbers := rfl
@[simp] theorem liveNumbers_modDrives (s : State) (f : Drives → Drives) :
    (s.modDrives f).liveNumbers = s.liveNumbers := rfl
@[simp] theorem liveNumbers_modChannel (s : State) (c : ChannelId) (f : Channel → Channel) :
    (s.modChannel c f).liveNumbers = s.liveNumbers := rfl
@[simp] theorem liveNumbers_modDict (s : State) (f : Dictionary → Dictionary) :
    (s.modDict f).liveNumbers = s.liveNumbers := rfl
@[simp] theorem liveNumbers_bumpFree (s : State) : s.bumpFree.liveNumbers = s.liveNumbers := rfl
@[simp] theorem liveNumbers_addSticky (s : State) (g : GalleyId) (f : Half) :
    (s.addSticky g f).liveNumbers = s.liveNumbers := rfl
@[simp] theorem liveNumbers_pulse (s : State) (p : Pulse) : (s.pulse p).liveNumbers = s.liveNumbers := rfl
@[simp] theorem liveNumbers_raise (s : State) (a : Attn) : (s.raise a).liveNumbers = s.liveNumbers := rfl
@[simp] theorem liveNumbers_terminate (ch : ChannelId) (code : BitVec 3) (s : State) :
    (terminate ch code s).liveNumbers = s.liveNumbers := rfl

/-- A change of verification keeps the numbers. -/
theorem liveNumbers_vmap {s : State} {f : FontRecord → FontRecord} (h : ∀ r, (f r).liveNumber = r.liveNumber) :
    ({ s with fonts := vmap f s.fonts } : State).liveNumbers = s.liveNumbers := by
  apply State.liveNumbers_congr
  intro i
  simp only [State.font, vget_vmap, h]

@[simp] theorem liveNumbers_verifyAt (q : Station) (code : BitVec 4) (s : State) :
    (verifyAt q code s).liveNumbers = s.liveNumbers := by
  apply liveNumbers_vmap
  intro r
  cases r.placement with
  | none => rfl
  | some p => dsimp only; split <;> rfl

@[simp] theorem liveNumbers_unverifyAll (s : State) : (unverifyAll s).liveNumbers = s.liveNumbers := by
  apply liveNumbers_vmap
  intro r
  split <;> rfl

/-- A run of operations that each keep the numbers. -/
theorem liveNumbers_foldl {α : Type} {f : State → α → State} (keep : ∀ s a, (f s a).liveNumbers = s.liveNumbers)
    (l : List α) (s : State) : (l.foldl f s).liveNumbers = s.liveNumbers := by
  induction l generalizing s with
  | nil => rfl
  | cons a l ih => rw [List.foldl_cons, ih, keep]

/-! #### Ops -/

@[simp] theorem liveNumbers_setConditioned (bit : Nat) (level : Bool) (s : State) :
    (State.setConditioned bit level s).liveNumbers = s.liveNumbers := by
  simp [State.setConditioned]

@[simp] theorem liveNumbers_complete (ch : ChannelId) (c : Completion) (detail : Half) (reply : List Byte) (s : State) :
    (complete ch c detail reply s).liveNumbers = s.liveNumbers := by
  unfold complete; (repeat' split) <;> simp

@[simp] theorem liveNumbers_completeUnstated (ch : ChannelId) (c : Completion) (s : State) :
    (completeUnstated ch c s).liveNumbers = s.liveNumbers := by
  simp [completeUnstated]

@[simp] theorem liveNumbers_refuse (ch : ChannelId) (c : Completion) (s : State) :
    (refuse ch c s).liveNumbers = s.liveNumbers := by
  simp [refuse]

@[simp] theorem liveNumbers_finish (ch : ChannelId) (c : Completion) (detail : Nat) (s : State) :
    (finish ch c detail s).liveNumbers = s.liveNumbers := by
  simp [finish]

@[simp] theorem liveNumbers_reply (ch : ChannelId) (detail : Nat) (bytes : List Byte) (s : State) :
    (reply ch detail bytes s).liveNumbers = s.liveNumbers := by
  simp [reply]

/-! #### Catalogue -/

@[simp] theorem liveNumbers_applyAmend (i : FontSlot) (p : AmendParts) (clamped : Bool) (ch : ChannelId) (s : State) :
    (applyAmend i p clamped ch s).liveNumbers = s.liveNumbers := by
  rw [applyAmend, liveNumbers_finish, liveNumbers_modFont rfl]

/-- R9 empties RETIRING records only. -/
@[simp] theorem liveNumbers_examine (i : FontSlot) (s : State) :
    (examine i s).liveNumbers = s.liveNumbers := by
  unfold examine
  dsimp only
  split
  · next h =>
    have retiring : (s.font i).state = .retiring := by simp only [Bool.and_eq_true, beq_iff_eq] at h; exact h.1.1.1
    simp [liveNumbers_modFont, FontRecord.liveNumber, FontRecord.blank, retiring]
  · (repeat' split) <;> simp

@[simp] theorem liveNumbers_examineAll (is : List FontSlot) (s : State) :
    (examineAll is s).liveNumbers = s.liveNumbers :=
  liveNumbers_foldl (fun _ _ => liveNumbers_examine _ _) is s

@[simp] theorem liveNumbers_raiseLine (is : List FontSlot) (s : State) :
    (raiseLine is s).liveNumbers = s.liveNumbers :=
  liveNumbers_foldl (fun _ _ => liveNumbers_modFont rfl) is s

@[simp] theorem liveNumbers_lowerLine (is : List FontSlot) (s : State) :
    (lowerLine is s).liveNumbers = s.liveNumbers :=
  liveNumbers_foldl (fun _ _ => liveNumbers_modFont rfl) is s

@[simp] theorem liveNumbers_lowerPartial (is : List FontSlot) (s : State) :
    (lowerPartial is s).liveNumbers = s.liveNumbers :=
  liveNumbers_foldl (fun _ _ => liveNumbers_modFont rfl) is s

@[simp] theorem liveNumbers_raisePartial (i : FontSlot) (s : State) :
    (raisePartial i s).liveNumbers = s.liveNumbers := liveNumbers_modFont rfl

@[simp] theorem liveNumbers_raiseCurrent (i : FontSlot) (s : State) :
    (raiseCurrent i s).liveNumbers = s.liveNumbers := liveNumbers_modFont rfl

@[simp] theorem liveNumbers_lowerCurrent (i : FontSlot) (s : State) :
    (lowerCurrent i s).liveNumbers = s.liveNumbers := liveNumbers_modFont rfl

@[simp] theorem liveNumbers_commitReport (lines leaving : List FontSlot) (s : State) :
    (commitReport lines leaving s).liveNumbers = s.liveNumbers := by
  simp [commitReport]

@[simp] theorem liveNumbers_lineGone (lines : List FontSlot) (s : State) :
    (lineGone lines s).liveNumbers = s.liveNumbers := by
  simp [lineGone]

@[simp] theorem liveNumbers_partialGone (slots : List FontSlot) (s : State) :
    (partialGone slots s).liveNumbers = s.liveNumbers := by
  simp [partialGone]

@[simp] theorem liveNumbers_currentGone (i : FontSlot) (s : State) :
    (currentGone i s).liveNumbers = s.liveNumbers := by
  simp [currentGone]

@[simp] theorem liveNumbers_takeAmendFont (ch : ChannelId) (b : Block) (s : State) :
    (takeAmendFont ch b s).liveNumbers = s.liveNumbers := by
  have held : ∀ (i : FontSlot) (a : HeldAmend),
      (s.modFont i fun r => { r with amend := some a }).liveNumbers = s.liveNumbers :=
    fun i a => liveNumbers_modFont rfl
  unfold takeAmendFont; dsimp only; (repeat' split) <;> simp [held]

@[simp] theorem liveNumbers_takePlaceFont (ch : ChannelId) (b : Block) (s : State) :
    (takePlaceFont ch b s).1.liveNumbers = s.liveNumbers := by
  unfold takePlaceFont
  (repeat' split) <;> simp only [liveNumbers_refuse, liveNumbers_finish]
  exact liveNumbers_modFont rfl

@[simp] theorem liveNumbers_takeQueryFont (ch : ChannelId) (b : Block) (s : State) :
    (takeQueryFont ch b s).liveNumbers = s.liveNumbers := by
  unfold takeQueryFont; (repeat' split) <;> simp

@[simp] theorem liveNumbers_resetFont (s : State) (i : FontSlot) :
    (resetFont s i).liveNumbers = s.liveNumbers := by
  rw [resetFont, liveNumbers_examine, liveNumbers_modFont rfl]

@[simp] theorem liveNumbers_catalogueReset (s : State) :
    (catalogueReset s).liveNumbers = s.liveNumbers :=
  liveNumbers_foldl (fun _ _ => liveNumbers_resetFont _ _) _ s

/-! #### Store -/

@[simp] theorem liveNumbers_putLine (i : LineSlot) (r : LineRecord) (s : State) :
    (putLine i r s).liveNumbers = s.liveNumbers := by
  simp [putLine]

@[simp] theorem liveNumbers_modLine (i : LineSlot) (f : LineRecord → LineRecord) (s : State) :
    (modLine i f s).liveNumbers = s.liveNumbers := by
  simp [modLine]

@[simp] theorem liveNumbers_dropLine (i : LineSlot) (g : GalleyId) (s : State) :
    (dropLine i g s).liveNumbers = s.liveNumbers := by
  simp [dropLine]

@[simp] theorem liveNumbers_joinQueues (g : GalleyId) (m : OutputMode) (s : State) :
    (joinQueues g m s).liveNumbers = s.liveNumbers := by
  simp [joinQueues]

@[simp] theorem liveNumbers_setFilmFigures (s : State) :
    (setFilmFigures s).liveNumbers = s.liveNumbers := by
  simp [setFilmFigures]

@[simp] theorem liveNumbers_assignFilm (g : GalleyId) (s : State) :
    (assignFilm g s).liveNumbers = s.liveNumbers := by
  unfold assignFilm; dsimp only; (repeat' split) <;> simp

@[simp] theorem liveNumbers_assignPaper (g : GalleyId) (s : State) :
    (assignPaper g s).liveNumbers = s.liveNumbers := by
  simp [assignPaper]

theorem liveNumbers_tryAssign {s t : State} (h : tryAssign s = some t) :
    t.liveNumbers = s.liveNumbers := by
  unfold tryAssign at h
  split at h
  · cases h; split <;> simp
  · obtain ⟨g, -, rfl⟩ := Option.map_eq_some_iff.1 h; simp

@[simp] theorem liveNumbers_freeIfDone (i : LineSlot) (s : State) :
    (freeIfDone i s).liveNumbers = s.liveNumbers := by
  unfold freeIfDone; (repeat' split) <;> simp

@[simp] theorem liveNumbers_filmDone (i : LineSlot) (s : State) :
    (filmDone i s).liveNumbers = s.liveNumbers := by
  simp [filmDone]

@[simp] theorem liveNumbers_proofDone (i : LineSlot) (s : State) :
    (proofDone i s).liveNumbers = s.liveNumbers := by
  simp [proofDone]

@[simp] theorem liveNumbers_discardLine (i : LineSlot) (s : State) :
    (discardLine i s).1.liveNumbers = s.liveNumbers := by
  unfold discardLine; dsimp only; (repeat' split) <;> simp

@[simp] theorem liveNumbers_discardLines (is : List LineSlot) (s : State) :
    (discardLines is s).1.liveNumbers = s.liveNumbers := by
  induction is generalizing s with
  | nil => rfl
  | cons i is ih => simp [discardLines, ih]

@[simp] theorem liveNumbers_leaveQueues (g : GalleyId) (s : State) :
    (leaveQueues g s).liveNumbers = s.liveNumbers := by
  simp [leaveQueues]

@[simp] theorem liveNumbers_releaseResources (g : GalleyId) (s : State) :
    (releaseResources g s).liveNumbers = s.liveNumbers := by
  simp [releaseResources]

@[simp] theorem liveNumbers_giveUpFont (g : GalleyId) (s : State) :
    (giveUpFont g s).liveNumbers = s.liveNumbers := by
  unfold giveUpFont; (repeat' split) <;> simp

@[simp] theorem liveNumbers_closeGalley (g : GalleyId) (s : State) :
    (closeGalley g s).liveNumbers = s.liveNumbers := by
  simp [closeGalley]

theorem liveNumbers_tryClose {s t : State} (h : tryClose s = some t) :
    t.liveNumbers = s.liveNumbers := by
  unfold tryClose at h
  obtain ⟨g, -, rfl⟩ := Option.map_eq_some_iff.1 h; simp

@[simp] theorem liveNumbers_storeReset (s : State) :
    (storeReset s).liveNumbers = s.liveNumbers := by
  simp [storeReset]

/-! #### Photo -/

@[simp] theorem liveNumbers_advanceCount (n : Nat) (s : State) :
    (advanceCount n s).liveNumbers = s.liveNumbers := by
  simp [advanceCount]

@[simp] theorem liveNumbers_startLockWatch (s : State) :
    (startLockWatch s).liveNumbers = s.liveNumbers := by
  simp [startLockWatch]

@[simp] theorem liveNumbers_loseLock (s : State) :
    (loseLock s).liveNumbers = s.liveNumbers := by
  unfold loseLock; (repeat' split) <;> simp

@[simp] theorem liveNumbers_lockTest (clean : Bool) (s : State) :
    (lockTest clean s).liveNumbers = s.liveNumbers := by
  unfold lockTest; (repeat' split) <;> simp

@[simp] theorem liveNumbers_indexPulse (s : State) :
    (indexPulse s).liveNumbers = s.liveNumbers := by
  simp [indexPulse]

@[simp] theorem liveNumbers_turretMoveStart (s : State) :
    (turretMoveStart s).liveNumbers = s.liveNumbers := by
  simp [turretMoveStart]

@[simp] theorem liveNumbers_slotArrival (g : Nat) (s : State) :
    (slotArrival g s).liveNumbers = s.liveNumbers := by
  unfold slotArrival; (repeat' split) <;> simp

@[simp] theorem liveNumbers_slotPulse (s : State) :
    (slotPulse s).liveNumbers = s.liveNumbers := by
  unfold slotPulse; dsimp only; (repeat' split) <;> simp

@[simp] theorem liveNumbers_withdrawFlash (s : State) :
    (withdrawFlash s).liveNumbers = s.liveNumbers := by
  simp [withdrawFlash]

@[simp] theorem liveNumbers_armFlash (q : FlashRequest) (s : State) :
    (armFlash q s).liveNumbers = s.liveNumbers := by
  simp [armFlash]

@[simp] theorem liveNumbers_driveTurret (q : Station) (r : Requester) (s : State) :
    (driveTurret q r s).liveNumbers = s.liveNumbers := by
  simp [driveTurret]

@[simp] theorem liveNumbers_latchHere (q : Station) (s : State) :
    (latchHere q s).liveNumbers = s.liveNumbers := by
  simp [latchHere]

@[simp] theorem liveNumbers_turretArrives (q : Station) (code : BitVec 4) (s : State) :
    (turretArrives q code s).liveNumbers = s.liveNumbers := by
  simp [turretArrives]

@[simp] theorem liveNumbers_driveLens (p : LensPos) (s : State) :
    (driveLens p s).liveNumbers = s.liveNumbers := by
  simp [driveLens]

@[simp] theorem liveNumbers_commandCarriage (x : Nat) (s : State) :
    (commandCarriage x s).liveNumbers = s.liveNumbers := by
  unfold commandCarriage; dsimp only; (repeat' split) <;> simp

@[simp] theorem liveNumbers_endHoming (target : Option Nat) (s : State) :
    (endHoming target s).liveNumbers = s.liveNumbers := by
  unfold endHoming; (repeat' split) <;> simp

@[simp] theorem liveNumbers_pulseCarriage (forward : Bool) (s : State) :
    (pulseCarriage forward s).liveNumbers = s.liveNumbers := by
  simp [pulseCarriage]

@[simp] theorem liveNumbers_stepCarriage (s : State) :
    (stepCarriage s).liveNumbers = s.liveNumbers := by
  unfold stepCarriage; dsimp only; (repeat' split) <;> simp

@[simp] theorem liveNumbers_setShutter (t : Track) (s : State) :
    (setShutter t s).liveNumbers = s.liveNumbers := by
  simp [setShutter]

@[simp] theorem liveNumbers_setVerify (v : Option VerifyRun) (s : State) :
    (setVerify v s).liveNumbers = s.liveNumbers := by
  simp [setVerify]

@[simp] theorem liveNumbers_visit (ch : ChannelId) (qs : List Station) (m n : BitVec 4) (s : State) :
    (visit ch qs m n s).liveNumbers = s.liveNumbers := by
  induction qs generalizing m n s with
  | nil => simp [visit]
  | cons q qs ih => unfold visit; split <;> simp [ih]

@[simp] theorem liveNumbers_visitEnds (reached : Bool) (s : State) :
    (visitEnds reached s).liveNumbers = s.liveNumbers := by
  unfold visitEnds; (repeat' split) <;> simp

@[simp] theorem liveNumbers_takeQueryPhoto (ch : ChannelId) (s : State) :
    (takeQueryPhoto ch s).liveNumbers = s.liveNumbers := by
  simp [takeQueryPhoto]

@[simp] theorem liveNumbers_photoReset (s : State) :
    (photoReset s).liveNumbers = s.liveNumbers := by
  simp [photoReset]

/-! #### Exposure -/

@[simp] theorem liveNumbers_setWork (w : ExposureWork) (s : State) :
    (setWork w s).liveNumbers = s.liveNumbers := by
  simp [setWork]

@[simp] theorem liveNumbers_setStep (l : LineWork) (st : LineStep) (s : State) :
    (setStep l st s).liveNumbers = s.liveNumbers := by
  simp [setStep]

@[simp] theorem liveNumbers_stopFilm (s : State) :
    (stopFilm s).liveNumbers = s.liveNumbers := by
  simp [stopFilm]

@[simp] theorem liveNumbers_takeHold (r : HoldReason) (s : State) :
    (takeHold r s).liveNumbers = s.liveNumbers := by
  unfold takeHold; (repeat' split) <;> simp

@[simp] theorem liveNumbers_judgeLow (s : State) :
    (judgeLow s).liveNumbers = s.liveNumbers := by
  unfold judgeLow; (repeat' split) <;> simp

@[simp] theorem liveNumbers_startFilm (forward : Bool) (n : Nat) (s : State) :
    (startFilm forward n s).liveNumbers = s.liveNumbers := by
  simp [startFilm]

@[simp] theorem liveNumbers_moveFilm (m : FilmMove) (s : State) :
    (moveFilm m s).liveNumbers = s.liveNumbers := by
  unfold moveFilm; dsimp only; (repeat' split) <;> simp

@[simp] theorem liveNumbers_lineDone (l : LineWork) (s : State) :
    (lineDone l s).liveNumbers = s.liveNumbers := by
  simp [lineDone]

@[simp] theorem liveNumbers_shutterStep (l : LineWork) (g : SetGlyph) (s : State) :
    (shutterStep l g s).liveNumbers = s.liveNumbers := by
  unfold shutterStep; (repeat' split) <;> simp

@[simp] theorem liveNumbers_carriageStep (l : LineWork) (g : SetGlyph) (s : State) :
    (carriageStep l g s).liveNumbers = s.liveNumbers := by
  unfold carriageStep; dsimp only; (repeat' split) <;> simp

@[simp] theorem liveNumbers_lensStep (l : LineWork) (g : SetGlyph) (s : State) :
    (lensStep l g s).liveNumbers = s.liveNumbers := by
  unfold lensStep; dsimp only; (repeat' split) <;> simp

@[simp] theorem liveNumbers_turretStep (l : LineWork) (g : SetGlyph) (p : Placement) (s : State) :
    (turretStep l g p s).liveNumbers = s.liveNumbers := by
  unfold turretStep; dsimp only; (repeat' split) <;> simp

@[simp] theorem liveNumbers_decidePlaced (l : LineWork) (g : SetGlyph) (p : Placement) (s : State) :
    (decidePlaced l g p s).liveNumbers = s.liveNumbers := by
  unfold decidePlaced; (repeat' split) <;> simp

@[simp] theorem liveNumbers_glyphDecision (l : LineWork) (g : SetGlyph) (s : State) :
    (glyphDecision l g s).liveNumbers = s.liveNumbers := by
  unfold glyphDecision; dsimp only; (repeat' split) <;> simp

@[simp] theorem liveNumbers_nextGlyph (l : LineWork) (s : State) :
    (nextGlyph l s).liveNumbers = s.liveNumbers := by
  unfold nextGlyph; (repeat' split) <;> simp

@[simp] theorem liveNumbers_beginAdvance (l : LineWork) (forward : Bool) (n : Nat) (s : State) :
    (beginAdvance l forward n s).liveNumbers = s.liveNumbers := by
  unfold beginAdvance; dsimp only; (repeat' split) <;> simp

@[simp] theorem liveNumbers_takeLine (i : LineSlot) (r : LineRecord) (s : State) :
    (takeLine i r s).liveNumbers = s.liveNumbers := by
  simp [takeLine]

theorem liveNumbers_tryTakeLine {s t : State} (h : tryTakeLine s = some t) :
    t.liveNumbers = s.liveNumbers := by
  unfold tryTakeLine at h
  split at h
  · obtain ⟨i, -, h⟩ := Option.bind_eq_some_iff.1 h
    obtain ⟨r, -, rfl⟩ := Option.map_eq_some_iff.1 h; simp
  · cases h

@[simp] theorem liveNumbers_applyDeferred (s : State) :
    (applyDeferred s).liveNumbers = s.liveNumbers := by
  unfold applyDeferred; dsimp only; (repeat' split) <;> simp

@[simp] theorem liveNumbers_startCut (work : CutPhase → ExposureWork) (s : State) :
    (startCut work s).liveNumbers = s.liveNumbers := by
  unfold startCut; (repeat' split) <;> simp

@[simp] theorem liveNumbers_beginGap (target : Nat) (s : State) :
    (beginGap target s).liveNumbers = s.liveNumbers := by
  unfold beginGap; dsimp only; (repeat' split) <;> simp

theorem liveNumbers_tryFilmEnd {s t : State} (h : tryFilmEnd s = some t) :
    t.liveNumbers = s.liveNumbers := by
  unfold tryFilmEnd at h
  split at h
  · obtain ⟨g, -, rfl⟩ := Option.map_eq_some_iff.1 h; simp
  · cases h

@[simp] theorem liveNumbers_endFreeMove (ch : ChannelId) (c : Completion) (detail : Nat) (s : State) :
    (endFreeMove ch c detail s).liveNumbers = s.liveNumbers := by
  simp [endFreeMove]

@[simp] theorem liveNumbers_filmMoveDone (s : State) :
    (filmMoveDone s).liveNumbers = s.liveNumbers := by
  unfold filmMoveDone; (repeat' split) <;> simp

@[simp] theorem liveNumbers_noteRemaining (m : FilmMove) (s : State) :
    (noteRemaining m s).liveNumbers = s.liveNumbers := by
  unfold noteRemaining; (repeat' split) <;> simp

@[simp] theorem liveNumbers_stepFilm (s : State) :
    (stepFilm s).liveNumbers = s.liveNumbers := by
  unfold stepFilm; (repeat' split) <;> simp

@[simp] theorem liveNumbers_cutterFell (s : State) :
    (cutterFell s).liveNumbers = s.liveNumbers := by
  unfold cutterFell; (repeat' split) <;> simp

@[simp] theorem liveNumbers_setGalleyStart (s : State) :
    (setGalleyStart s).liveNumbers = s.liveNumbers := by
  simp [setGalleyStart]

@[simp] theorem liveNumbers_cutterRose (s : State) :
    (cutterRose s).liveNumbers = s.liveNumbers := by
  unfold cutterRose; (repeat' split) <;> simp

@[simp] theorem liveNumbers_cutTimedOut (s : State) :
    (cutTimedOut s).liveNumbers = s.liveNumbers := by
  unfold cutTimedOut; dsimp only; (repeat' split) <;> simp

@[simp] theorem liveNumbers_turretReached (l : LineWork) (g : SetGlyph) (s : State) :
    (turretReached l g s).liveNumbers = s.liveNumbers := by
  unfold turretReached; (repeat' split) <;> simp

@[simp] theorem liveNumbers_turretReport (correct : Bool) (s : State) :
    (turretReport correct s).liveNumbers = s.liveNumbers := by
  unfold turretReport; (repeat' split) <;> simp

@[simp] theorem liveNumbers_lensReport (arrived : Bool) (s : State) :
    (lensReport arrived s).liveNumbers = s.liveNumbers := by
  unfold lensReport; (repeat' split) <;> simp

@[simp] theorem liveNumbers_carriageReport (s : State) :
    (carriageReport s).liveNumbers = s.liveNumbers := by
  unfold carriageReport; (repeat' split) <;> simp

@[simp] theorem liveNumbers_stationLost (s : State) :
    (stationLost s).liveNumbers = s.liveNumbers := by
  unfold stationLost; (repeat' split) <;> simp

@[simp] theorem liveNumbers_lensLost (s : State) :
    (lensLost s).liveNumbers = s.liveNumbers := by
  unfold lensLost; (repeat' split) <;> simp

@[simp] theorem liveNumbers_discFault (s : State) :
    (discFault s).liveNumbers = s.liveNumbers := by
  unfold discFault; (repeat' split) <;> simp

@[simp] theorem liveNumbers_placementChanged (i : FontSlot) (s : State) :
    (placementChanged i s).liveNumbers = s.liveNumbers := by
  unfold placementChanged; (repeat' split) <;> simp

@[simp] theorem liveNumbers_flashReport (s : State) :
    (flashReport s).liveNumbers = s.liveNumbers := by
  unfold flashReport; dsimp only; (repeat' split) <;> simp

@[simp] theorem liveNumbers_lidFell (s : State) :
    (lidFell s).liveNumbers = s.liveNumbers := by
  unfold lidFell; dsimp only; (repeat' split) <;> simp

@[simp] theorem liveNumbers_cassetteFell (s : State) :
    (cassetteFell s).liveNumbers = s.liveNumbers := by
  unfold cassetteFell; dsimp only; (repeat' split) <;> simp

@[simp] theorem liveNumbers_loadCassette (inches : Nat) (s : State) :
    (loadCassette inches s).liveNumbers = s.liveNumbers := by
  unfold loadCassette; dsimp only; (repeat' split) <;> simp

@[simp] theorem liveNumbers_takeLoadCassette (ch : ChannelId) (b : Block) (s : State) :
    (takeLoadCassette ch b s).liveNumbers = s.liveNumbers := by
  unfold takeLoadCassette; (repeat' split) <;> simp

@[simp] theorem liveNumbers_retryTurret (l : LineWork) (g : SetGlyph) (s : State) :
    (retryTurret l g s).liveNumbers = s.liveNumbers := by
  unfold retryTurret; (repeat' split) <;> simp

@[simp] theorem liveNumbers_retryLens (l : LineWork) (g : SetGlyph) (s : State) :
    (retryLens l g s).liveNumbers = s.liveNumbers := by
  unfold retryLens; (repeat' split) <;> simp

/-- The checks of a retry keep what the retry itself keeps. -/
theorem liveNumbers_retryPositioning {k : State → State} (keep : ∀ s, (k s).liveNumbers = s.liveNumbers) (s : State) :
    (retryPositioning k s).liveNumbers = s.liveNumbers := by
  unfold retryPositioning; (repeat' split) <;> simp [keep]

@[simp] theorem liveNumbers_retryStep (s : State) :
    (retryStep s).liveNumbers = s.liveNumbers := by
  unfold retryStep; (repeat' split) <;> simp [liveNumbers_retryPositioning]

@[simp] theorem liveNumbers_retry (r : HoldReason) (s : State) :
    (retry r s).liveNumbers = s.liveNumbers := by
  unfold retry; (repeat' split) <;> simp

@[simp] theorem liveNumbers_takeResume (ch : ChannelId) (s : State) :
    (takeResume ch s).liveNumbers = s.liveNumbers := by
  unfold takeResume; (repeat' split) <;> simp

@[simp] theorem liveNumbers_takeAdvanceFilm (ch : ChannelId) (b : Block) (s : State) :
    (takeAdvanceFilm ch b s).liveNumbers = s.liveNumbers := by
  unfold takeAdvanceFilm; dsimp only; (repeat' split) <;> simp

@[simp] theorem liveNumbers_takeCutFilm (ch : ChannelId) (s : State) :
    (takeCutFilm ch s).liveNumbers = s.liveNumbers := by
  unfold takeCutFilm; (repeat' split) <;> simp

@[simp] theorem liveNumbers_takeQueryExposure (ch : ChannelId) (s : State) :
    (takeQueryExposure ch s).liveNumbers = s.liveNumbers := by
  simp [takeQueryExposure]

@[simp] theorem liveNumbers_takeVerify (ch : ChannelId) (s : State) :
    (takeVerify ch s).liveNumbers = s.liveNumbers := by
  unfold takeVerify; (repeat' split) <;> simp

@[simp] theorem liveNumbers_resetFreeMove (s : State) :
    (resetFreeMove s).liveNumbers = s.liveNumbers := by
  unfold resetFreeMove; (repeat' split) <;> simp

@[simp] theorem liveNumbers_exposureReset (s : State) :
    (exposureReset s).liveNumbers = s.liveNumbers := by
  simp [exposureReset]

/-! #### Proof -/

@[simp] theorem liveNumbers_setBuffer (i : Fin 2) (b : BandBuffer) (s : State) :
    (setBuffer i b s).liveNumbers = s.liveNumbers := by
  simp [setBuffer]

theorem liveNumbers_tryTakeProofLine {s t : State} (h : tryTakeProofLine s = some t) :
    t.liveNumbers = s.liveNumbers := by
  unfold tryTakeProofLine at h
  split at h
  · cases h
  · obtain ⟨b, -, h⟩ := Option.bind_eq_some_iff.1 h
    obtain ⟨i, -, h⟩ := Option.bind_eq_some_iff.1 h
    obtain ⟨r, -, rfl⟩ := Option.map_eq_some_iff.1 h; simp

@[simp] theorem liveNumbers_startPort (w : PortWork) (s : State) :
    (startPort w s).liveNumbers = s.liveNumbers := by
  unfold startPort; (repeat' split) <;> simp

theorem liveNumbers_tryStartBand {s t : State} (h : tryStartBand s = some t) :
    t.liveNumbers = s.liveNumbers := by
  unfold tryStartBand at h
  split at h
  · obtain ⟨i, -, h⟩ := Option.bind_eq_some_iff.1 h
    obtain ⟨b, -, rfl⟩ := Option.map_eq_some_iff.1 h; simp
  · cases h

theorem liveNumbers_tryPaperEnd {s t : State} (h : tryPaperEnd s = some t) :
    t.liveNumbers = s.liveNumbers := by
  unfold tryPaperEnd at h
  split at h
  · obtain ⟨g, -, rfl⟩ := Option.map_eq_some_iff.1 h; simp
  · cases h

@[simp] theorem liveNumbers_strobe (data : Byte) (s : State) :
    (strobe data s).liveNumbers = s.liveNumbers := by
  simp [strobe]

@[simp] theorem liveNumbers_bandEnd (i : Fin 2) (b : Band) (s : State) :
    (bandEnd i b s).liveNumbers = s.liveNumbers := by
  simp [bandEnd]

@[simp] theorem liveNumbers_sendTransfer (i : Fin 2) (b : Band) (s : State) :
    (sendTransfer i b s).liveNumbers = s.liveNumbers := by
  unfold sendTransfer; dsimp only; (repeat' split) <;> simp

@[simp] theorem liveNumbers_feedTransfer (s : State) :
    (feedTransfer s).liveNumbers = s.liveNumbers := by
  unfold feedTransfer; (repeat' split) <;> simp

@[simp] theorem liveNumbers_transfer (s : State) :
    (transfer s).liveNumbers = s.liveNumbers := by
  unfold transfer; (repeat' split) <;> simp

@[simp] theorem liveNumbers_paperFell (s : State) :
    (paperFell s).liveNumbers = s.liveNumbers := by
  unfold paperFell; (repeat' split) <;> simp

@[simp] theorem liveNumbers_paperRose (s : State) :
    (paperRose s).liveNumbers = s.liveNumbers := by
  unfold paperRose; (repeat' split) <;> simp

@[simp] theorem liveNumbers_replaceCells (set : Fin 4) (first : Nat) (cells : List Cell) (s : State) :
    (replaceCells set first cells s).liveNumbers = s.liveNumbers := by
  simp [replaceCells]

@[simp] theorem liveNumbers_takeLoadCells (ch : ChannelId) (b : Block) (s : State) :
    (takeLoadCells ch b s).liveNumbers = s.liveNumbers := by
  unfold takeLoadCells; (repeat' split) <;> simp

@[simp] theorem liveNumbers_takeQueryProof (ch : ChannelId) (s : State) :
    (takeQueryProof ch s).liveNumbers = s.liveNumbers := by
  simp [takeQueryProof]

@[simp] theorem liveNumbers_proofReset (s : State) :
    (proofReset s).liveNumbers = s.liveNumbers := by
  simp [proofReset]

/-! #### Compose -/

@[simp] theorem liveNumbers_engineIdle (s : State) :
    (engineIdle s).liveNumbers = s.liveNumbers := by
  simp [engineIdle]

@[simp] theorem liveNumbers_commit (g : GalleyId) (e : LineEnd) (s : State) :
    (commit g e s).liveNumbers = s.liveNumbers := by
  unfold commit; (repeat' split) <;> simp

@[simp] theorem liveNumbers_breakSearch (g : GalleyId) (cs : List Candidate) (s : State) :
    (breakSearch g cs s).liveNumbers = s.liveNumbers := by
  simp [breakSearch]

@[simp] theorem liveNumbers_presentLookup (g : GalleyId) (core : List Nat) (s : State) :
    (presentLookup g core s).liveNumbers = s.liveNumbers := by
  simp [presentLookup]

@[simp] theorem liveNumbers_settle (g : GalleyId) (s : State) :
    (settle g s).liveNumbers = s.liveNumbers := by
  unfold settle; dsimp only; (repeat' split) <;> simp

theorem liveNumbers_tryArbitrate {s t : State} (h : tryArbitrate s = some t) :
    t.liveNumbers = s.liveNumbers := by
  unfold tryArbitrate at h
  split at h
  · obtain ⟨g, -, rfl⟩ := Option.map_eq_some_iff.1 h; simp
  · cases h

theorem liveNumbers_tryEndService {s t : State} (h : tryEndService s = some t) :
    t.liveNumbers = s.liveNumbers := by
  unfold tryEndService at h
  (repeat' split at h) <;> cases h
  simp

@[simp] theorem liveNumbers_emptyBuilder (g : GalleyId) (s : State) :
    (emptyBuilder g s).liveNumbers = s.liveNumbers := by
  simp [emptyBuilder]

@[simp] theorem liveNumbers_engineReset (s : State) :
    (engineReset s).liveNumbers = s.liveNumbers := by
  simp [engineReset]

/-! #### Galleys -/

@[simp] theorem liveNumbers_serveTexts (g : GalleyId) (ts : List WaitingText) (s : State) :
    (serveTexts g ts s).liveNumbers = s.liveNumbers := by
  induction ts generalizing s with
  | nil => simp [serveTexts]
  | cons t ts ih => unfold serveTexts; split <;> simp [ih]

@[simp] theorem liveNumbers_serveWaiting (g : GalleyId) (s : State) :
    (serveWaiting g s).liveNumbers = s.liveNumbers := by
  simp [serveWaiting]

@[simp] theorem liveNumbers_refuseTexts (ts : List WaitingText) (s : State) :
    (refuseTexts ts s).liveNumbers = s.liveNumbers :=
  liveNumbers_foldl (fun _ _ => liveNumbers_finish _ _ _ _) ts s

@[simp] theorem liveNumbers_resetTexts (ts : List WaitingText) (s : State) :
    (resetTexts ts s).liveNumbers = s.liveNumbers :=
  liveNumbers_foldl (fun _ _ => liveNumbers_completeUnstated _ _ _) ts s

@[simp] theorem liveNumbers_refuseWaiting (g : GalleyId) (s : State) :
    (refuseWaiting g s).liveNumbers = s.liveNumbers := by
  simp [refuseWaiting]

@[simp] theorem liveNumbers_takeGlyph (g : GalleyId) (c : GlyphCode) (s : State) :
    (takeGlyph g c s).liveNumbers = s.liveNumbers := by
  unfold takeGlyph; dsimp only; (repeat' split) <;> simp

@[simp] theorem liveNumbers_galleyEnding (g : GalleyId) (s : State) :
    (galleyEnding g s).liveNumbers = s.liveNumbers := by
  unfold galleyEnding; (repeat' split) <;> simp

@[simp] theorem liveNumbers_takeEndGalley (g : GalleyId) (s : State) :
    (takeEndGalley g s).liveNumbers = s.liveNumbers := by
  unfold takeEndGalley; dsimp only; (repeat' split) <;> simp

@[simp] theorem liveNumbers_takeFontSelect (g : GalleyId) (n : Nat) (s : State) :
    (takeFontSelect g n s).liveNumbers = s.liveNumbers := by
  unfold takeFontSelect; (repeat' split) <;> simp

@[simp] theorem liveNumbers_takeSize (g : GalleyId) (n : Nat) (s : State) :
    (takeSize g n s).liveNumbers = s.liveNumbers := by
  unfold takeSize; (repeat' split) <;> simp

@[simp] theorem liveNumbers_setParameter (g : GalleyId) (clamped : Bool) (f : Galley → Galley) (s : State) :
    (setParameter g clamped f s).liveNumbers = s.liveNumbers := by
  unfold setParameter; (repeat' split) <;> simp

@[simp] theorem liveNumbers_takeReverse (g : GalleyId) (n : Nat) (s : State) :
    (takeReverse g n s).liveNumbers = s.liveNumbers := by
  simp [takeReverse]

@[simp] theorem liveNumbers_takeQuad (g : GalleyId) (v : Nat) (s : State) :
    (takeQuad g v s).liveNumbers = s.liveNumbers := by
  unfold takeQuad; (repeat' split) <;> simp

@[simp] theorem liveNumbers_takeSpaces (g : GalleyId) (a b c : Nat) (s : State) :
    (takeSpaces g a b c s).liveNumbers = s.liveNumbers := by
  simp [takeSpaces]

@[simp] theorem liveNumbers_applyItem (g : GalleyId) (i : Item) (s : State) :
    (applyItem g i s).liveNumbers = s.liveNumbers := by
  unfold applyItem; (repeat' split) <;> simp

@[simp] theorem liveNumbers_takeItem (g : GalleyId) (i : Item) (rest : List Byte) (s : State) :
    (takeItem g i rest s).liveNumbers = s.liveNumbers := by
  simp [takeItem]

@[simp] theorem liveNumbers_takeOpenGalley (ch : ChannelId) (b : Block) (s : State) :
    (takeOpenGalley ch b s).liveNumbers = s.liveNumbers := by
  unfold takeOpenGalley; (repeat' split) <;> simp

@[simp] theorem liveNumbers_takeSetText (ch : ChannelId) (b : Block) (s : State) :
    (takeSetText ch b s).liveNumbers = s.liveNumbers := by
  unfold takeSetText; (repeat' split) <;> simp

@[simp] theorem liveNumbers_takeSetPriority (ch : ChannelId) (b : Block) (s : State) :
    (takeSetPriority ch b s).liveNumbers = s.liveNumbers := by
  unfold takeSetPriority; (repeat' split) <;> simp

@[simp] theorem liveNumbers_stopServing (g : GalleyId) (s : State) :
    (stopServing g s).liveNumbers = s.liveNumbers := by
  unfold stopServing; (repeat' split) <;> simp

@[simp] theorem liveNumbers_cancelGalley (g : GalleyId) (s : State) :
    (cancelGalley g s).1.liveNumbers = s.liveNumbers := by
  simp [cancelGalley]

@[simp] theorem liveNumbers_closeAtOnce (g : GalleyId) (s : State) :
    (closeAtOnce g s).liveNumbers = s.liveNumbers := by
  unfold closeAtOnce; (repeat' split) <;> simp

@[simp] theorem liveNumbers_takeCancelGalley (ch : ChannelId) (b : Block) (s : State) :
    (takeCancelGalley ch b s).liveNumbers = s.liveNumbers := by
  unfold takeCancelGalley; dsimp only; (repeat' split) <;> simp

@[simp] theorem liveNumbers_takeQueryGalley (ch : ChannelId) (b : Block) (s : State) :
    (takeQueryGalley ch b s).liveNumbers = s.liveNumbers := by
  unfold takeQueryGalley; (repeat' split) <;> simp

@[simp] theorem liveNumbers_resetGalley (s : State) (g : GalleyId) :
    (resetGalley s g).liveNumbers = s.liveNumbers := by
  simp [resetGalley]

@[simp] theorem liveNumbers_galleysReset (s : State) :
    (galleysReset s).liveNumbers = s.liveNumbers :=
  liveNumbers_foldl (fun _ _ => liveNumbers_resetGalley _ _) _ s

/-! #### Dictionary -/

@[simp] theorem liveNumbers_present (ch : ChannelId) (r : Request) (s : State) :
    (present ch r s).liveNumbers = s.liveNumbers := by
  simp [present]

@[simp] theorem liveNumbers_setRunning (j : Option DictJob) (s : State) :
    (setRunning j s).liveNumbers = s.liveNumbers := by
  simp [setRunning]

@[simp] theorem liveNumbers_beginRequest (ch : ChannelId) (r : Request) (s : State) :
    (beginRequest ch r s).liveNumbers = s.liveNumbers := by
  unfold beginRequest; (repeat' split) <;> simp

@[simp] theorem liveNumbers_grantChannel (ch : ChannelId) (s : State) :
    (grantChannel ch s).liveNumbers = s.liveNumbers := by
  unfold grantChannel; (repeat' split) <;> simp

@[simp] theorem liveNumbers_grantBucket (p : Purge) (s : State) :
    (grantBucket p s).liveNumbers = s.liveNumbers := by
  simp [grantBucket]

@[simp] theorem liveNumbers_grantLookup (l : Lookup) (s : State) :
    (grantLookup l s).liveNumbers = s.liveNumbers := by
  simp [grantLookup]

theorem liveNumbers_channelGrant {s t : State} (h : channelGrant s = some t) :
    t.liveNumbers = s.liveNumbers := by
  unfold channelGrant at h
  dsimp only at h
  (repeat' split at h) <;> cases h <;> simp

theorem liveNumbers_tryGrant {s t : State} (h : tryGrant s = some t) :
    t.liveNumbers = s.liveNumbers := by
  unfold tryGrant at h
  split at h
  · cases h
  · exact liveNumbers_channelGrant h
  · split at h
    · cases h; simp
    · cases e : channelGrant s with
      | none => rw [e] at h; cases h; simp
      | some u => rw [e] at h; cases h; exact liveNumbers_channelGrant e

@[simp] theorem liveNumbers_completeLookUpWord (ch : ChannelId) (b : Block) (m : Vector Byte 96) (s : State) :
    (completeLookUpWord ch b m s).liveNumbers = s.liveNumbers := by
  unfold completeLookUpWord; dsimp only; (repeat' split) <;> simp

@[simp] theorem liveNumbers_completeRefusedPurge (ch : ChannelId) (prot : Bool) (s : State) :
    (completeRefusedPurge ch prot s).liveNumbers = s.liveNumbers := by
  unfold completeRefusedPurge; (repeat' split) <;> simp

@[simp] theorem liveNumbers_deliverAnswer (core : List Nat) (s : State) :
    (deliverAnswer core s).liveNumbers = s.liveNumbers := by
  unfold deliverAnswer; (repeat' split) <;> simp

@[simp] theorem liveNumbers_dictionaryReset (s : State) :
    (dictionaryReset s).liveNumbers = s.liveNumbers := by
  simp [dictionaryReset]

/-! #### Channels -/

@[simp] theorem liveNumbers_placeFontReported (ch : ChannelId) (b : Block) (s : State) :
    (placeFontReported ch b s).liveNumbers = s.liveNumbers := by
  have e := liveNumbers_takePlaceFont ch b s
  unfold placeFontReported
  split <;> simp_all

@[simp] theorem liveNumbers_chainNext (ch : ChannelId) (b : Block) (s : State) :
    (chainNext ch b s).liveNumbers = s.liveNumbers := by
  unfold chainNext; (repeat' split) <;> simp

@[simp] theorem liveNumbers_startChannel (ch : ChannelId) (stopBit : Bool) (s : State) :
    (startChannel ch stopBit s).liveNumbers = s.liveNumbers := by
  unfold startChannel; dsimp only; (repeat' split) <;> simp

@[simp] theorem liveNumbers_stopChannel (ch : ChannelId) (s : State) :
    (stopChannel ch s).liveNumbers = s.liveNumbers := by
  unfold stopChannel; (repeat' split) <;> simp

@[simp] theorem liveNumbers_detach (ch : ChannelId) (s : State) :
    (detach ch s).liveNumbers = s.liveNumbers := by
  unfold detach; (repeat' split) <;> simp

/-! #### Lines -/

@[simp] theorem liveNumbers_reportToRequester (r : Requester) (correct : Bool) (s : State) :
    (reportToRequester r correct s).liveNumbers = s.liveNumbers := by
  unfold reportToRequester; (repeat' split) <;> simp

@[simp] theorem liveNumbers_turretRises (s : State) :
    (turretRises s).liveNumbers = s.liveNumbers := by
  unfold turretRises; (repeat' split) <;> simp

@[simp] theorem liveNumbers_turretFalls (s : State) :
    (turretFalls s).liveNumbers = s.liveNumbers := by
  unfold turretFalls; (repeat' split) <;> simp

@[simp] theorem liveNumbers_turretTimesOut (s : State) :
    (turretTimesOut s).liveNumbers = s.liveNumbers := by
  unfold turretTimesOut; (repeat' split) <;> simp

@[simp] theorem liveNumbers_lensRises (s : State) :
    (lensRises s).liveNumbers = s.liveNumbers := by
  unfold lensRises; (repeat' split) <;> simp

@[simp] theorem liveNumbers_lensFalls (s : State) :
    (lensFalls s).liveNumbers = s.liveNumbers := by
  unfold lensFalls; (repeat' split) <;> simp

@[simp] theorem liveNumbers_lensTimesOut (s : State) :
    (lensTimesOut s).liveNumbers = s.liveNumbers := by
  unfold lensTimesOut; (repeat' split) <;> simp

@[simp] theorem liveNumbers_setEncoder (l : EncoderLine) (f : LineFilter) (s : State) :
    (setEncoder l f s).liveNumbers = s.liveNumbers := by
  unfold setEncoder; (repeat' split) <;> simp

@[simp] theorem liveNumbers_acceptEncoder (l : EncoderLine) (level : Bool) (s : State) :
    (acceptEncoder l level s).liveNumbers = s.liveNumbers := by
  unfold acceptEncoder; (repeat' split) <;> simp

@[simp] theorem liveNumbers_encoderChanged (l : EncoderLine) (s : State) :
    (encoderChanged l s).liveNumbers = s.liveNumbers := by
  unfold encoderChanged encoderEdge acceptHeldEncoder; dsimp only; (repeat' split) <;> simp

@[simp] theorem liveNumbers_setDebouncer (l : DebouncedLine) (f : LineFilter) (s : State) :
    (setDebouncer l f s).liveNumbers = s.liveNumbers := by
  unfold setDebouncer; (repeat' split) <;> simp

@[simp] theorem liveNumbers_reportDebounced (l : DebouncedLine) (level : Bool) (s : State) :
    (reportDebounced l level s).liveNumbers = s.liveNumbers := by
  unfold reportDebounced; (repeat' split) <;> simp

@[simp] theorem liveNumbers_acceptDebounced (l : DebouncedLine) (level : Bool) (s : State) :
    (acceptDebounced l level s).liveNumbers = s.liveNumbers := by
  simp [acceptDebounced]

@[simp] theorem liveNumbers_debouncedChanged (l : DebouncedLine) (s : State) :
    (debouncedChanged l s).liveNumbers = s.liveNumbers := by
  unfold debouncedChanged debouncedEdge acceptHeldDebounced; dsimp only; (repeat' split) <;> simp

@[simp] theorem liveNumbers_sensorChanged (l : SensorLine) (s : State) :
    (sensorChanged l s).liveNumbers = s.liveNumbers := by
  unfold sensorChanged; (repeat' split) <;> simp

@[simp] theorem liveNumbers_setTurretLines (q : Station) (code : BitVec 4) (s : State) :
    (setTurretLines q code s).liveNumbers = s.liveNumbers := by
  unfold setTurretLines; generalize List.finRange 2 = l; generalize List.finRange 4 = k
  have h : ∀ (l : List (Fin 2)) (s : State),
      (l.foldl (fun s b => s.setConditioned (sensorBit (.turretPos b)) (q.val.testBit b.val)) s).liveNumbers = s.liveNumbers := by
    intro l; induction l with
    | nil => intro s; rfl
    | cons i is ih => intro s; simp [ih]
  have h2 : ∀ (l : List (Fin 4)) (s : State),
      (l.foldl (fun s b => s.setConditioned (sensorBit (.discCode b)) (code.getLsbD b.val)) s).liveNumbers = s.liveNumbers := by
    intro l; induction l with
    | nil => intro s; rfl
    | cons i is ih => intro s; rw [List.foldl_cons, ih, liveNumbers_setConditioned]
  rw [h2, h]

/-! #### Configuration -/

@[simp] theorem liveNumbers_acceptUndebounced (l : DebouncedLine) (s : State) :
    (acceptUndebounced l s).liveNumbers = s.liveNumbers := by
  unfold acceptUndebounced; (repeat' split) <;> simp

@[simp] theorem liveNumbers_compositionReset (s : State) :
    (compositionReset s).liveNumbers = s.liveNumbers := by
  simp [compositionReset]

/-! #### Timing -/

@[simp] theorem liveNumbers_advanceTime (n : Nat) (s : State) :
    (advanceTime n s).liveNumbers = s.liveNumbers := by
  simp [advanceTime]

/-! #### Optics -/

@[simp] theorem liveNumbers_pulseAccepted (l : EncoderLine) (s : State) :
    (pulseAccepted l s).liveNumbers = s.liveNumbers := by
  simp [pulseAccepted]

@[simp] theorem liveNumbers_acceptAfter (l : EncoderLine) (k : Nat) (s : State) :
    (acceptAfter l k s).liveNumbers = s.liveNumbers := by
  simp [acceptAfter]

@[simp] theorem liveNumbers_timeBefore (l : EncoderLine) (n : Nat) (s : State) :
    (timeBefore l n s).liveNumbers = s.liveNumbers := by
  unfold timeBefore; split <;> simp

@[simp] theorem liveNumbers_rechargeEnds (s : State) :
    (rechargeEnds s).liveNumbers = s.liveNumbers := by
  unfold rechargeEnds; (repeat' split) <;> simp

@[simp] theorem liveNumbers_turretArrival (q : Station) (code : BitVec 4) (s : State) :
    (turretArrival q code s).liveNumbers = s.liveNumbers := by
  simp [turretArrival]

end Sys2Proof.Machine
end

section
/-! PROOF. R2: every step keeps the numbers of the LIVE records unique (O9). -/

namespace Sys2Proof.Machine

/-! #### The rest of the dictionary, the channels, the configuration space and the optics -/

@[simp] theorem liveNumbers_setChains (c : Vector (List Entry) 512) (s : State) :
    (setChains c s).liveNumbers = s.liveNumbers := rfl

@[simp] theorem liveNumbers_completeAddWords (ch : ChannelId) (b : Block) (prot : Bool) (m : Vector Byte 96) (s : State) :
    (completeAddWords ch b prot m s).liveNumbers = s.liveNumbers := by
  unfold completeAddWords; (repeat' split) <;> simp

@[simp] theorem liveNumbers_completeAmendWord (ch : ChannelId) (b : Block) (prot : Bool) (m : Vector Byte 96) (s : State) :
    (completeAmendWord ch b prot m s).liveNumbers = s.liveNumbers := by
  unfold completeAmendWord; (repeat' split) <;> simp

@[simp] theorem liveNumbers_completeDeleteWord (ch : ChannelId) (b : Block) (prot : Bool) (m : Vector Byte 96)
    (s : State) : (completeDeleteWord ch b prot m s).liveNumbers = s.liveNumbers := by
  unfold completeDeleteWord; (repeat' split) <;> simp

@[simp] theorem liveNumbers_completeRequest (ch : ChannelId) (r : Request) (prot : Bool) (m : Vector Byte 96) (s : State) :
    (completeRequest ch r prot m s).liveNumbers = s.liveNumbers := by
  unfold completeRequest; split <;> simp

@[simp] theorem liveNumbers_completeBucket (p : Purge) (s : State) :
    (completeBucket p s).liveNumbers = s.liveNumbers := by
  unfold completeBucket; dsimp only; split <;> simp

@[simp] theorem liveNumbers_completeOperation (s : State) : (completeOperation s).liveNumbers = s.liveNumbers := by
  unfold completeOperation; dsimp only; (repeat' split) <;> simp

@[simp] theorem liveNumbers_postingEnds (ch : ChannelId) (p : Posting) (fault : Option Nat) (s : State) :
    (postingEnds ch p fault s).liveNumbers = s.liveNumbers := by
  unfold postingEnds recordPosting; dsimp only; (repeat' split) <;> simp

@[simp] theorem liveNumbers_resetChannel (ch : ChannelId) (s : State) :
    (resetChannel ch s).liveNumbers = s.liveNumbers := by
  unfold resetChannel abandonPosting; split <;> simp

@[simp] theorem liveNumbers_refuseWrite (code : BitVec 7) (s : State) :
    (refuseWrite code s).liveNumbers = s.liveNumbers := rfl

@[simp] theorem liveNumbers_storeEntry (i : Nat) (v : Byte) (s : State) :
    (storeEntry i v s).liveNumbers = s.liveNumbers := by simp [storeEntry]

@[simp] theorem liveNumbers_acceptWrite (v : Byte) (s : State) : (acceptWrite v s).liveNumbers = s.liveNumbers := by
  simp [acceptWrite]

@[simp] theorem liveNumbers_writeTNomHigh (v : Byte) (s : State) : (writeTNomHigh v s).liveNumbers = s.liveNumbers := by
  unfold writeTNomHigh; dsimp only; split <;> simp

@[simp] theorem liveNumbers_writeQuiescent (v : Byte) (s : State) :
    (writeQuiescent v s).liveNumbers = s.liveNumbers := by
  unfold writeQuiescent; split <;> simp

@[simp] theorem liveNumbers_writeStationMap (v : Byte) (s : State) :
    (writeStationMap v s).liveNumbers = s.liveNumbers := by
  unfold writeStationMap; split <;> simp

@[simp] theorem liveNumbers_writeInversion (v : Byte) (s : State) :
    (writeInversion v s).liveNumbers = s.liveNumbers := by
  unfold writeInversion
  dsimp only
  rw [liveNumbers_foldl fun _ _ => liveNumbers_sensorChanged _ _,
    liveNumbers_foldl fun _ _ => liveNumbers_encoderChanged _ _, liveNumbers_acceptWrite]

@[simp] theorem liveNumbers_writeDebounce (v : Byte) (s : State) :
    (writeDebounce v s).liveNumbers = s.liveNumbers := by simp [writeDebounce]

@[simp] theorem liveNumbers_delayExpires (s : State) : (delayExpires s).liveNumbers = s.liveNumbers := by
  unfold delayExpires fireFlash fireLamp; dsimp only; (repeat' split) <;> simp

@[simp] theorem liveNumbers_tick (s : State) : (tick s).liveNumbers = s.liveNumbers := by
  unfold tick
  split
  · simp
  · rfl

/-! ### The requests that make and retire records -/

/-- R2 in terms of the numbers of the LIVE records. -/
theorem fontNumbersUnique_iff (s : State) :
    FontNumbersUnique s ↔ (∀ i n, vget s.liveNumbers i = some n → 1 ≤ n ∧ n ≤ 250) ∧
      ∀ i j n, vget s.liveNumbers i = some n → vget s.liveNumbers j = some n → i = j := by
  have number : ∀ i n, vget s.liveNumbers i = some n ↔ (s.font i).state = .live ∧ (s.font i).number = n := by
    intro i n
    simp [State.liveNumbers, FontRecord.liveNumber, State.font]
  simp only [FontNumbersUnique, number]
  constructor
  · rintro ⟨range, unique⟩
    exact ⟨fun i n h => h.2 ▸ range i h.1, fun i j n hi hj => unique i j hi.1 hj.1 (hi.2.trans hj.2.symm)⟩
  · rintro ⟨range, unique⟩
    exact ⟨fun i h => range i _ ⟨h, rfl⟩, fun i j hi hj e => unique i j _ ⟨hi, e⟩ ⟨hj, rfl⟩⟩

/-- An operation that keeps the numbers of the LIVE records keeps them unique. -/
theorem FontNumbersUnique.of_liveNumbers {s t : State} (h : FontNumbersUnique s) (e : t.liveNumbers = s.liveNumbers) :
    FontNumbersUnique t := by
  rw [fontNumbersUnique_iff] at *
  rwa [e]

/-- A record that is not LIVE, or a LIVE one whose number is free, may be put into any slot. -/
theorem FontNumbersUnique.put {s : State} (h : FontNumbersUnique s) (i : FontSlot) (r : FontRecord)
    (range : r.state = .live → 1 ≤ r.number ∧ r.number ≤ 250)
    (fresh : r.state = .live → ∀ j, j ≠ i → (s.font j).state = .live → (s.font j).number ≠ r.number)
    (f : FontRecord → FontRecord) (put : f (s.font i) = r) : FontNumbersUnique (s.modFont i f) := by
  obtain ⟨inRange, unique⟩ := h
  have self : (s.modFont i f).font i = r := by rw [State.font_modFont_self, put]
  have other : ∀ j, j ≠ i → (s.modFont i f).font j = s.font j :=
    fun j ne => State.font_modFont_ne _ _ (Ne.symm ne)
  constructor
  · intro j live
    by_cases e : j = i
    · subst e; rw [self] at *; exact range live
    · rw [other j e] at *; exact inRange j live
  · intro j k hj hk same
    by_cases ej : j = i <;> by_cases ek : k = i
    · rw [ej, ek]
    · subst ej; rw [self, other k ek] at same; rw [self] at hj; rw [other k ek] at hk
      exact absurd same.symm (fresh hj k ek hk)
    · subst ek; rw [self, other j ej] at same; rw [self] at hk; rw [other j ej] at hj
      exact absurd same (fresh hk j ej hj)
    · rw [other j ej, other k ek] at *; exact unique j k hj hk same

/-- A number that resolves to nothing is no LIVE record's. -/
theorem resolve_eq_none {n : Nat} {s : State} :
    s.resolve n = none ↔ ∀ j, (s.font j).state = .live → (s.font j).number ≠ n := by
  simp [State.resolve, List.find?_eq_none]

theorem fontNumbersUnique_takeLoadFont (ch : ChannelId) (b : Block) {s : State} (h : FontNumbersUnique s) :
    FontNumbersUnique (takeLoadFont ch b s) := by
  unfold takeLoadFont
  dsimp only
  split
  · exact h.of_liveNumbers (by simp)
  next f _ =>
  split_ifs with range taken
  · exact h.of_liveNumbers (by simp)
  · exact h.of_liveNumbers (by simp)
  all_goals split
  · exact h.of_liveNumbers (by simp)
  · exact h.of_liveNumbers (by simp)
  · exact h.of_liveNumbers (by simp)
  · have free : s.resolve b.target.toNat = none := by simpa using taken
    refine FontNumbersUnique.of_liveNumbers (h.put _ _ (fun _ => ?_) (fun _ j _ => ?_) _ rfl) (liveNumbers_finish ..)
    · dsimp only; omega
    · exact resolve_eq_none.mp free j

theorem fontNumbersUnique_takeRetireFont (ch : ChannelId) (b : Block) {s : State} (h : FontNumbersUnique s) :
    FontNumbersUnique (takeRetireFont ch b s) := by
  have gone : ∀ (i : FontSlot) (r : FontRecord) (f : FontRecord → FontRecord), r.state ≠ .live → f (s.font i) = r →
      ∀ n, FontNumbersUnique (finish ch .done n (s.modFont i f)) := fun i r f dead put n =>
    (h.put i r (fun live => absurd live dead) (fun live => absurd live dead) f put).of_liveNumbers (by simp)
  unfold takeRetireFont
  dsimp only
  split
  · exact h.of_liveNumbers (by simp)
  · split_ifs
    · exact h.of_liveNumbers (by simp)
    · exact gone _ _ _ (by simp [FontRecord.blank]) rfl _
    · exact gone _ _ _ (by simp) rfl _

/-! ### The handover -/

theorem fontNumbersUnique_ownerTakes (ch : ChannelId) (r : Request) {s : State} (h : FontNumbersUnique s) :
    FontNumbersUnique (ownerTakes ch r s) := by
  unfold ownerTakes
  split
  case h_2 => exact fontNumbersUnique_takeLoadFont ch _ h
  case h_5 => exact fontNumbersUnique_takeRetireFont ch _ h
  all_goals exact h.of_liveNumbers (by simp)

theorem fontNumbersUnique_handOver (ch : ChannelId) (r : Request) {s : State} (h : FontNumbersUnique s) :
    FontNumbersUnique (handOver ch r s) :=
  fontNumbersUnique_ownerTakes ch r (h.of_liveNumbers (by simp))

theorem fontNumbersUnique_requestArrives (ch : ChannelId) (r : Request) {s : State} (h : FontNumbersUnique s) :
    FontNumbersUnique (requestArrives ch r s) := by
  unfold requestArrives blockArrives
  split_ifs
  · exact h.of_liveNumbers (by simp)
  · exact fontNumbersUnique_handOver ch r h
  · exact h.of_liveNumbers (by simp)

theorem fontNumbersUnique_fetchArrives (ch : ChannelId) (f : Fetched) {s : State} (h : FontNumbersUnique s) :
    FontNumbersUnique (fetchArrives ch f s) := by
  unfold fetchArrives
  split
  · exact h.of_liveNumbers (by simp)
  · split
    · exact fontNumbersUnique_requestArrives ch _ h
    · exact h.of_liveNumbers (by simp)

theorem fontNumbersUnique_tryHandOver (ch : ChannelId) {s t : State} (h : FontNumbersUnique s)
    (e : tryHandOver ch s = some t) : FontNumbersUnique t := by
  unfold tryHandOver at e
  dsimp only at e
  split at e
  · obtain ⟨r, -, rfl⟩ := Option.map_eq_some_iff.1 e
    exact fontNumbersUnique_handOver ch r h
  · cases e

/-! ### The reactions and the events -/

theorem fontNumbersUnique_reactOnce {s t : State} (h : FontNumbersUnique s) (e : reactOnce s = some t) :
    FontNumbersUnique t := by
  rcases reactOnce_cases e with e | e | e | e | e | e | e | e | e | e | e | e
  · exact h.of_liveNumbers (liveNumbers_tryClose e)
  · exact h.of_liveNumbers (liveNumbers_tryAssign e)
  · exact h.of_liveNumbers (liveNumbers_tryFilmEnd e)
  · exact h.of_liveNumbers (liveNumbers_tryPaperEnd e)
  · exact h.of_liveNumbers (liveNumbers_tryTakeLine e)
  · exact h.of_liveNumbers (liveNumbers_tryStartBand e)
  · exact h.of_liveNumbers (liveNumbers_tryTakeProofLine e)
  · exact h.of_liveNumbers (liveNumbers_tryEndService e)
  · exact h.of_liveNumbers (liveNumbers_tryArbitrate e)
  · exact h.of_liveNumbers (liveNumbers_tryGrant e)
  · exact fontNumbersUnique_tryHandOver 0 h e
  · exact fontNumbersUnique_tryHandOver 1 h e

theorem fontNumbersUnique_react {s : State} (h : FontNumbersUnique s) : FontNumbersUnique (react s) :=
  react_keeps (fun _ _ => fontNumbersUnique_reactOnce) h

/-- An event whose effect keeps the numbers unique. -/
theorem fontNumbersUnique_event {arises : Bool} {f : State → State} {s t : State} (h : FontNumbersUnique s)
    (keep : ∀ u, FontNumbersUnique u → FontNumbersUnique (f u)) (e : event arises f s = .next t) :
    FontNumbersUnique t := by
  cases arises with
  | false => cases e; exact h
  | true => cases e; exact keep _ h

theorem fontNumbersUnique_eventReact {arises : Bool} {f : State → State} {s t : State} (h : FontNumbersUnique s)
    (keep : ∀ u, FontNumbersUnique u → FontNumbersUnique (f u)) (e : eventReact arises f s = .next t) :
    FontNumbersUnique t :=
  fontNumbersUnique_event h (fun u hu => fontNumbersUnique_react (keep u hu)) e

/-- An event that leaves the LIVE records alone. -/
theorem fontNumbersUnique_quietEvent {arises : Bool} {f : State → State} {s t : State} (h : FontNumbersUnique s)
    (keep : ∀ u, (f u).liveNumbers = u.liveNumbers) (e : event arises f s = .next t) : FontNumbersUnique t :=
  fontNumbersUnique_event h (fun u hu => hu.of_liveNumbers (keep u)) e

theorem fontNumbersUnique_quietReact {arises : Bool} {f : State → State} {s t : State} (h : FontNumbersUnique s)
    (keep : ∀ u, (f u).liveNumbers = u.liveNumbers) (e : eventReact arises f s = .next t) : FontNumbersUnique t :=
  fontNumbersUnique_eventReact h (fun u hu => hu.of_liveNumbers (keep u)) e

theorem fontNumbersUnique_requestEvent {code : Byte} {ch : ChannelId} {b : Block} {s t : State}
    (h : FontNumbersUnique s) (e : requestEvent code ch b s = .next t) : FontNumbersUnique t :=
  fontNumbersUnique_eventReact h (fun _ => fontNumbersUnique_requestArrives ch _) e

/-- Each command keeps the numbers unique. -/
theorem fontNumbersUnique_exec (i : Instr) {s t : State} (h : FontNumbersUnique s) (e : exec i s = .next t) :
    FontNumbersUnique t := by
  cases i
  case powerOnReset =>
    cases e
    simp [FontNumbersUnique, State.font, State.powerOn, vget, FontRecord.blank]
  case loadFont | amendFont | placeFont | retireFont | queryFont | openGalley | setText | setPriority | cancelGalley |
      queryGalley | addWords | amendWord | deleteWord | lookUpWord | purgeDesk | verifyStations | queryPhotoUnit |
      loadCassette | resumeExposure | advanceFilm | cutFilm | queryExposure | loadProofCells | queryProof =>
    exact fontNumbersUnique_requestEvent h e
  case fetchComplete ch f =>
    simp only [exec, execFetchComplete] at e
    exact fontNumbersUnique_eventReact h (fun _ => fontNumbersUnique_fetchArrives ch f) e
  case takeItem =>
    simp only [exec, execTakeItem] at e
    split at e
    · exact fontNumbersUnique_quietReact h (by simp) e
    · cases e; exact h
  case settleWord =>
    simp only [exec, execSettleWord] at e
    split at e
    · exact fontNumbersUnique_quietReact h (by simp) e
    · cases e; exact h
  case postingComplete =>
    simp only [exec, execPostingComplete] at e
    split at e
    · exact fontNumbersUnique_quietEvent h (by simp) e
    · cases e; exact h
  case configWrite =>
    simp only [exec, execConfigWrite] at e
    split at e
    · exact fontNumbersUnique_quietReact h (by simp) e
    · exact fontNumbersUnique_quietEvent h (by simp) e
  case start =>
    simp only [exec, execStart] at e
    refine fontNumbersUnique_quietEvent h (fun u => ?_) e
    split <;> simp
  case compositionReset | lookupAnswer | dictionaryOperationComplete | flashDelayExpiry | flashComplete | turretArrival |
      turretTimeout | filmStep | cutComplete | cutTimeout | portTransfer | detachedMarkClear | sensorInversionWrite |
      debounceEnableWrite | sensorLevelChange =>
    simp only [exec, execCompositionReset, execLookupAnswer, execDictionaryOperationComplete, execFlashDelayExpiry,
      execFlashComplete, execTurretArrival, execTurretTimeout, execFilmStep, execCutComplete, execCutTimeout,
      execPortTransfer, execDetachedMarkClear, execSensorInversionWrite, execDebounceEnableWrite,
      execSensorLevelChange] at e
    exact fontNumbersUnique_quietReact h (by simp) e
  case lidClosedFall | cassettePresentFall | paperPresentFall | paperPresentRise | sensorChangeAccepted =>
    simp only [exec, execLidClosedFall, execCassettePresentFall, execPaperPresentFall, execPaperPresentRise,
      execSensorChangeAccepted, acceptanceEvent] at e
    exact fontNumbersUnique_quietReact h (by simp [acceptance]) e
  case terminationStatusRead | attnWrite | attnEnWrite | sensorEventStatusRead =>
    simp only [exec, execTerminationStatusRead, execAttnWrite, execAttnEnWrite, execSensorEventStatusRead] at e
    refine fontNumbersUnique_quietEvent h (fun _ => ?_) e
    rfl
  all_goals
    simp only [exec, execIndexPulse, execSlotPulse, execIndexTimeout, execTurretReadyFall, execLockWatchExpiry,
      execLensArrival, execLensReadyFall, execLensTimeout, execCarriageStep, execPrinterBusyChange, execStop,
      execChannelReset, execChainRegisterWrite, execCfgIndexWrite, execTNomLowWrite, execTNomHighWrite,
      execQuiescentConfigWrite, execStationMapWrite, execCutterHomeFall, execEncoderLevelChange,
      execFalseLevelAccepted, execReadOnlyEntryWrite] at e
    exact fontNumbersUnique_quietEvent h (by simp) e

/-- Settles O9: every operation but LOAD FONT and RETIRE FONT keeps the numbers of the LIVE records; the one adds a number
that resolves to nothing, the other takes one away. -/
theorem everyStepKeepsFontNumbersUnique : Obligations.EveryStepKeepsFontNumbersUnique := by
  intro s t h e
  unfold step at e
  split at e
  · next c rest _ =>
    exact fontNumbersUnique_exec c (h.of_liveNumbers (t := { s with pending := rest }) rfl) e
  · cases e; exact h.of_liveNumbers (liveNumbers_tick s)

end Sys2Proof.Machine
end

section
/-! PROOF. The state after power-on reset (O4, O59). -/

namespace Sys2Proof.Machine

theorem vget_replicate {α : Type} {n : Nat} (x : α) (i : Fin n) : vget (Vector.replicate n x) i = x := by
  simp [vget]

/-- Nothing comes about of itself after power-on reset. -/
theorem settled_powerOn (inputs : BitVec 15) (pending : List Instr) (free : Nat) :
    (State.powerOn inputs pending free).settled = true := by
  have same : (State.powerOn inputs pending free).settled = State.reset.settled :=
    settled_of_fields (fun _ => rfl) rfl rfl rfl rfl rfl rfl rfl
  rw [same]
  decide +kernel

theorem entryCount_powerOn : entryCount Dictionary.powerOn.chains = 0 := by decide +kernel

/-- Settles O59: each part of the reset state is the power-up state of its block. -/
theorem powerOnResetEmptiesTheCatalogueAndTheStore :
    Obligations.PowerOnResetEmptiesTheCatalogueAndTheStore := by
  intro s
  have font : ∀ i, (State.powerOn s.sensors.inputs s.pending s.free).font i = FontRecord.blank :=
    fun i => vget_replicate _ i
  have free : ∀ k, (State.powerOn s.sensors.inputs s.pending s.free).lineAt k = none := fun k => vget_replicate _ k
  refine ⟨_, rfl, fun i => ?_, ?_, fun n => ?_, fun q code => ?_, free, ?_, fun g => vget_replicate _ g, rfl, rfl, rfl,
    rfl, fun g => vget_replicate _ g, rfl, entryCount_powerOn, rfl, rfl, rfl, rfl, rfl, fun ch => vget_replicate _ ch,
    rfl, rfl, rfl, rfl, rfl, rfl, rfl, rfl, font, rfl, settled_powerOn _ _ _⟩
  · rw [font]; exact ⟨rfl, rfl, rfl⟩
  · simp [State.poolFree, State.cellsUsed, font, FontRecord.cells, FontRecord.inUse, FontRecord.blank]
  · exact resolve_eq_none.mpr fun j live => by rw [font] at live; cases live
  · apply Vector.ext
    intro k hk
    simp [verifyAt, vmap, State.powerOn, FontRecord.blank]
  · have free' : ∀ k, vget (State.powerOn s.sensors.inputs s.pending s.free).store.slots k = none := free
    simp [State.freeCount, free']

theorem dictionaryLegal_reset : DictionaryLegal State.reset := by
  have chain : ∀ b, vget State.reset.dict.chains b = [] := fun b => vget_replicate _ b
  refine ⟨fun b e h => ?_, fun b => ?_, ?_, fun ch r prot m h => ?_⟩
  · rw [chain] at h; cases h
  · rw [chain]; exact List.nodup_nil
  · rw [show entryCount State.reset.dict.chains = 0 from entryCount_powerOn]; omega
  · cases h

theorem storeLegal_reset : StoreLegal State.reset.store := by
  have order : ∀ g, vget State.reset.store.order g = [] := fun g => vget_replicate _ g
  have slot : ∀ k, vget State.reset.store.slots k = none := fun k => vget_replicate _ k
  simp [StoreLegal, order, slot]

/-- Settles O4. -/
theorem resetStateHasEveryInvariant : Obligations.ResetStateHasEveryInvariant := by
  refine ⟨?_, ?_, dictionaryLegal_reset, ?_, ?_, ?_, ?_, storeLegal_reset, settled_powerOn _ _ _⟩
  · unfold ConfigLegal; decide +kernel
  · unfold WindowLegal; decide +kernel
  · unfold DelayGuarded; decide +kernel
  · simp [FontNumbersUnique, State.font, State.reset, State.powerOn, vget, FontRecord.blank]
  · unfold ChannelConsistent; decide +kernel
  · unfold HeldOnce; decide +kernel

end Sys2Proof.Machine
end

section
/-! PROOF. LOAD FONT and RETIRE FONT (O12, O15), and the station map (O28). -/

namespace Sys2Proof.Machine

/-! ### Looking a record up (R2, R10) -/

theorem resolve_isSome {n : Nat} {s : State} :
    (s.resolve n).isSome ↔ ∃ j, (s.font j).state = .live ∧ (s.font j).number = n := by
  rw [Option.isSome_iff_ne_none, Ne, resolve_eq_none]
  push Not
  rfl

theorem retiringWith_iff {n : Nat} {s : State} :
    s.retiringWith n = true ↔ ∃ j, (s.font j).state = .retiring ∧ (s.font j).number = n := by
  simp [State.retiringWith]

theorem emptySlot_eq_none {s : State} : s.emptySlot = none ↔ ∀ j, (s.font j).state ≠ .empty := by
  simp [State.emptySlot]

/-- The first of an ascending enumeration that satisfies a test. -/
theorem find?_finRange {n : Nat} {p : Fin n → Bool} {i : Fin n} (h : p i = true) (first : ∀ j, j < i → p j = false) :
    (List.finRange n).find? p = some i := by
  rw [List.find?_eq_some_iff_getElem]
  refine ⟨h, i.val, by simp, by simp, fun j hj => ?_⟩
  simp [first ⟨j, by omega⟩ hj]

theorem emptySlot_eq_some {s : State} {i : FontSlot} (h : (s.font i).state = .empty)
    (first : ∀ j, j < i → (s.font j).state ≠ .empty) : s.emptySlot = some i :=
  find?_finRange (by simpa using h) fun j hj => by simpa using first j hj

/-! ### LOAD FONT (R10) -/

theorem takeLoadFont_badArgument {ch : ChannelId} {b : Block} {s : State}
    (h : b.target.toNat < 1 ∨ 250 < b.target.toNat ∨ parseLoadFont b.payload = none) :
    takeLoadFont ch b s = refuse ch .badArgument s := by
  unfold takeLoadFont
  cases parsed : parseLoadFont b.payload with
  | none => rfl
  | some f =>
    have range : b.target.toNat < 1 ∨ b.target.toNat > 250 := by simpa [parsed] using h
    simp only [if_pos range]

section LoadFont

variable {ch : ChannelId} {b : Block} {s : State} {f : FontParts} (low : 1 ≤ b.target.toNat)
  (high : b.target.toNat ≤ 250) (parsed : parseLoadFont b.payload = some f)
include low high parsed

theorem takeLoadFont_alreadyExists (h : (s.resolve b.target.toNat).isSome) :
    takeLoadFont ch b s = refuse ch .alreadyExists s := by
  have range : ¬ (b.target.toNat < 1 ∨ b.target.toNat > 250) := by omega
  simp only [takeLoadFont, parsed, if_neg range, if_pos h]

theorem takeLoadFont_full (free : s.resolve b.target.toNat = none)
    (h : s.emptySlot = none ∨ s.poolFree < f.kerning.length) : takeLoadFont ch b s = refuse ch .full s := by
  have range : ¬ (b.target.toNat < 1 ∨ b.target.toNat > 250) := by omega
  simp only [takeLoadFont, parsed, if_neg range, free, Option.isSome_none, Bool.false_eq_true, if_false]
  cases slot : s.emptySlot with
  | none => rfl
  | some i => exact if_pos (h.resolve_left (by simp [slot]))

theorem takeLoadFont_loads {i : FontSlot} (free : s.resolve b.target.toNat = none) (slot : s.emptySlot = some i)
    (pool : f.kerning.length ≤ s.poolFree) :
    takeLoadFont ch b s = finish ch (doneOr f.clamped) i.val (s.modFont i fun _ =>
      { FontRecord.blank with
        state := .live, number := b.target.toNat, name := f.name, widths := f.widths, kerning := f.kerning,
        proofSet := f.proofSet }) := by
  have range : ¬ (b.target.toNat < 1 ∨ b.target.toNat > 250) := by omega
  have room : ¬ s.poolFree < f.kerning.length := by omega
  simp only [takeLoadFont, parsed, if_neg range, free, slot, if_neg room, Option.isSome_none, Bool.false_eq_true,
    if_false]

end LoadFont

/-- Settles O12: the branches of LOAD FONT, in the order of its checks. -/
theorem loadFontChecksThenFillsTheLowestEmptySlot : Obligations.LoadFontChecksThenFillsTheLowestEmptySlot := by
  intro s ch b ready fits
  refine ⟨fun h => request_refused ready fits fun t _ => takeLoadFont_badArgument (by tauto),
    fun f low high parsed => ⟨fun h => ?_, fun h => ?_⟩⟩
  · refine request_refused ready fits fun t ht => takeLoadFont_alreadyExists low high parsed ?_
    subst ht; exact resolve_isSome.mpr h
  have free : s.resolve b.target.toNat = none := resolve_eq_none.mpr h
  refine ⟨fun h => ?_, fun i empty first pool => ?_⟩
  · refine request_refused ready fits fun t ht => takeLoadFont_full low high parsed ?_ ?_
    · subst ht; exact free
    · subst ht; exact h.imp_left emptySlot_eq_none.mpr
  · refine request_completed_settled (State.modFont i _) ready fits (fun _ => rfl) (fun _ => rfl)
      (fun _ => settled_modFont ..) fun t ht => ?_
    refine takeLoadFont_loads low high parsed ?_ ?_ ?_
    · subst ht; exact free
    · subst ht; exact emptySlot_eq_some empty first
    · subst ht; exact pool

/-! ### RETIRE FONT (R17) -/

theorem takeRetireFont_some {ch : ChannelId} {b : Block} {s : State} {i : FontSlot}
    (h : s.resolve b.target.toNat = some i) :
    takeRetireFont ch b s =
      if (s.font i).amend.isSome then refuse ch .busy s
      else if (s.font i).lineRefs = 0 ∧ (s.font i).currentRefs = 0 ∧ (s.font i).partialRefs = 0 then
        finish ch .done 0 (s.modFont i fun _ => FontRecord.blank)
      else finish ch .done 1 (s.modFont i fun r => { r with state := .retiring }) := by
  simp only [takeRetireFont, h]

/-- Settles O15: the branches of RETIRE FONT. -/
theorem retireFontEmptiesOrRetires : Obligations.RetireFontEmptiesOrRetires := by
  intro s ch b ready fits
  refine ⟨fun h => request_refused ready fits fun t ht => ?_, fun i found =>
    ⟨fun h => request_refused ready fits fun t ht => ?_, fun idle => ⟨fun line current part => ?_, fun h => ?_⟩⟩⟩
  · have none' : t.resolve b.target.toNat = none := by subst ht; exact resolve_eq_none.mpr h
    show takeRetireFont ch b t = _
    simp only [takeRetireFont, none']
  · have found' : t.resolve b.target.toNat = some i := by subst ht; exact found
    refine (takeRetireFont_some found').trans (if_pos ?_)
    subst ht; exact h
  · refine ⟨(s.fresh.modFont i fun _ => FontRecord.blank).posts ch { code := 0x13, block := b } .done 0 [],
      request_completed_settled (State.modFont i _) ready fits (fun _ => rfl) (fun _ => rfl)
        (fun _ => settled_modFont ..) fun t ht => ?_, ?_⟩
    · have found' : t.resolve b.target.toNat = some i := by subst ht; exact found
      have font : t.font i = s.font i := by subst ht; rfl
      show takeRetireFont ch b t = _
      rw [takeRetireFont_some found', font, idle, if_neg (by simp), if_pos ⟨line, current, part⟩]
      rfl
    · refine ⟨?_, ?_, fun j ne => ?_, rfl, rfl, rfl, rfl, rfl, rfl, rfl, rfl, rfl, rfl, rfl, rfl, rfl⟩
      · rw [State.posts_font, State.font_modFont_self]; rfl
      · rw [State.posts_font, State.font_modFont_self]; rfl
      · rw [State.posts_font, State.font_modFont_ne _ _ (Ne.symm ne)]; rfl
  · refine request_completed_settled (State.modFont i _) ready fits (fun _ => rfl) (fun _ => rfl)
        (fun _ => settled_modFont ..) fun t ht => ?_
    have found' : t.resolve b.target.toNat = some i := by subst ht; exact found
    have font : t.font i = s.font i := by subst ht; rfl
    show takeRetireFont ch b t = _
    rw [takeRetireFont_some found', font, idle, if_neg (by simp), if_neg (by omega)]
    rfl

/-! ### The station map (R16, R178) -/

theorem isPermutation_iff (v : Byte) :
    isPermutation v = true ↔ ∀ l m : Fin 4, v.toNat / 4 ^ l.val % 4 = v.toNat / 4 ^ m.val % 4 → l = m := by
  unfold isPermutation
  rw [decide_eq_true_iff, List.nodup_map_iff_inj_on List.nodup_range]
  constructor
  · exact fun h l m e => Fin.ext (h _ (List.mem_range.mpr l.isLt) _ (List.mem_range.mpr m.isLt) e)
  · intro h l hl m hm e
    exact congrArg Fin.val (h ⟨l, List.mem_range.mp hl⟩ ⟨m, List.mem_range.mp hm⟩ e)

theorem quiescent_iff (s : State) :
    s.quiescent = true ↔ (∀ g, (s.galley g).state = .closed) ∧ ∀ k, s.lineAt k = none := by
  simp [State.quiescent, State.lineAt]

theorem storeEntry_eq (i : Fin 201) (v : Byte) (s : State) :
    storeEntry i.val v s = s.modConfig fun c => { c with entries := vset c.entries i v } := by
  have e : (Vector.ofFn fun k : Fin 201 => if k.val = i.val then v else vget s.config.entries k) =
      vset s.config.entries i v := by
    apply Vector.ext
    intro k hk
    simp only [Vector.getElem_ofFn, vget, vset, Vector.getElem_set, eq_comm]
  simp only [storeEntry, State.modConfig, e]

theorem unverifyAll_font (s : State) (i : FontSlot) :
    (unverifyAll s).font i =
      if (s.font i).inUse then { s.font i with verification := .unverified } else s.font i := by
  simp only [unverifyAll, State.font, vget_vmap]
  rfl

/-- Settles O28: an accepted write is one of a permutation while quiescent. -/
theorem stationMapWriteUnverifiesEveryFont : Obligations.StationMapWriteUnverifiesEveryFont := by
  intro s v index
  have arises : exec (.stationMapWrite v) s = .next (writeStationMap v s.fresh) := by
    simp only [exec, execStationMapWrite, State.cfgIndex, index]
    rfl
  have accepted : ((s.fresh.quiescent && isPermutation v) = true) ↔
      (∀ l m : Fin 4, v.toNat / 4 ^ l.val % 4 = v.toNat / 4 ^ m.val % 4 → l = m) ∧
      (∀ g, (s.galley g).state = .closed) ∧ ∀ k, s.lineAt k = none := by
    rw [Bool.and_eq_true, quiescent_iff, isPermutation_iff, and_comm]
    rfl
  rw [arises]
  constructor
  · intro perm quiet
    refine ⟨_, rfl, ?_⟩
    rw [writeStationMap, if_pos (accepted.mpr ⟨perm, quiet⟩), show storeEntry 0x12 v s.fresh = _ from storeEntry_eq 0x12 v _]
    refine ⟨rfl, fun i used => ?_, fun i empty => ?_⟩
    · have inUse : (s.font i).inUse = true := by simpa [FontRecord.inUse] using used
      exact (unverifyAll_font _ i).trans (if_pos inUse)
    · have unused : ¬ (s.font i).inUse = true := by simpa [FontRecord.inUse] using empty
      exact (unverifyAll_font _ i).trans (if_neg unused)
  · intro refused
    rw [writeStationMap, if_neg fun h => refused (accepted.mp h)]
    rfl

end Sys2Proof.Machine
end

section
/-! SUPPORT. Reports of references in full (R6 to R9, R12): what becomes of each record, and which channels the amends that
they apply complete. Reports compose, so an event with several of them is one report of the sums. -/

namespace Sys2Proof.Machine

/-! ### Completions, channel by channel -/

/-- What a completion makes of its channel's record (R167, R172). -/
def Channel.completed (k : Channel) (c : Completion) (detail : Half) (bytes : List Byte) : Channel :=
  if k.detached then { k with detached := false }
  else
    match k.state, k.inFlight with
    | .waiting, some r =>
      { k with state := .posting, inFlight := none,
               posting := some { request := r, completion := c, detail := detail, reply := bytes } }
    | _, _ => k

theorem complete_channel (ch x : ChannelId) (c : Completion) (detail : Half) (bytes : List Byte) (s : State) :
    (complete ch c detail bytes s).channel x =
      if x = ch then (s.channel ch).completed c detail bytes else s.channel x := by
  by_cases e : x = ch
  · subst e
    rw [if_pos rfl]
    unfold complete Channel.completed
    split_ifs with h
    · exact State.channel_modChannel_self ..
    · cases (s.channel x).state <;> cases (s.channel x).inFlight <;> simp
  · rw [if_neg e, complete_channel_ne (Ne.symm e)]

/-- An event that leaves a channel as a completion would has answered its request. -/
theorem answered_of_completed {s t : State} {ch : ChannelId} {c : Completion} {detail : Half}
    (h : t.channel ch = (s.channel ch).completed c detail []) : s.answered t ch c detail := by
  have e : t.channel ch = (complete ch c detail [] s).channel ch := by rw [complete_channel, if_pos rfl, h]
  obtain ⟨posted, dropped⟩ := answered_complete s ch c detail
  exact ⟨fun r hr => e.trans (posted r hr), fun hd => e.trans (dropped hd)⟩

/-! ### The requests that owners hold (R167) -/

/-- No two held amends have a channel in common. -/
def AmendsApart (s : State) : Prop :=
  ∀ i j a b, (s.font i).amend = some a → (s.font j).amend = some b → i ≠ j → a.channel ≠ b.channel

theorem filterMap_apart {α β : Type} {f : α → Option β} {l : List α} (nodup : (l.filterMap f).Nodup) {x y : α}
    (hx : x ∈ l) (hy : y ∈ l) (ne : x ≠ y) {c : β} (fx : f x = some c) : f y ≠ some c := by
  intro fy
  rw [List.filterMap_eq_flatMap_toList, List.nodup_flatMap] at nodup
  have : Std.Symm (Function.onFun List.Disjoint fun a => (f a).toList) := ⟨fun _ _ h => List.Disjoint.symm h⟩
  have disjoint : List.Disjoint (f x).toList (f y).toList := nodup.2.forall hx hy ne
  exact disjoint (a := c) (by simp [fx]) (by simp [fy])

theorem HeldOnce.amendsApart {s : State} (h : HeldOnce s) : AmendsApart s := by
  intro i j a b ha hb ne e
  have nodup := h.1
  simp only [State.heldBy, List.append_assoc] at nodup
  refine filterMap_apart (List.nodup_append.mp nodup).1 (List.mem_finRange i) (List.mem_finRange j) ne
    (c := a.channel) ?_ ?_
  · rw [ha]; rfl
  · rw [hb, e]; rfl

/-! ### One report -/

/-- A record after counts that rise or fall (R6 to R8). -/
def FontRecord.counted (r : FontRecord) (up line partials current : Nat) : FontRecord :=
  { r with
    lineRefs := r.lineRefs + up - line, partialRefs := r.partialRefs - partials,
    currentRefs := r.currentRefs - current }

/-- The record after the same, examined where a count fell (R9). -/
def FontRecord.reported (r : FontRecord) (up line partials current : Nat) : FontRecord :=
  if 0 < line + partials + current then (r.counted up line partials current).examined
  else r.counted up line partials current

@[simp] theorem FontRecord.counted_state (r : FontRecord) (up line partials current : Nat) :
    (r.counted up line partials current).state = r.state := rfl
@[simp] theorem FontRecord.counted_amend (r : FontRecord) (up line partials current : Nat) :
    (r.counted up line partials current).amend = r.amend := rfl
@[simp] theorem FontRecord.counted_revision (r : FontRecord) (up line partials current : Nat) :
    (r.counted up line partials current).revision = r.revision := rfl
@[simp] theorem FontRecord.counted_zero (r : FontRecord) : r.counted 0 0 0 0 = r := rfl
@[simp] theorem FontRecord.reported_zero (r : FontRecord) : r.reported 0 0 0 0 = r := rfl

theorem recordAfter_reported (r : FontRecord) (up line partials current : Nat) :
    RecordAfter r (r.reported up line partials current) up line partials current :=
  recordAfter_of_examined r up line partials current

/-- The amend that the examination of a record applies (R9, R12). -/
def FontRecord.applied (r : FontRecord) : Option HeldAmend :=
  if r.state = .live ∧ r.partialRefs = 0 then r.amend else none

theorem FontRecord.applied_eq_some {r : FontRecord} {a : HeldAmend} :
    r.applied = some a ↔ r.state = .live ∧ r.partialRefs = 0 ∧ r.amend = some a := by
  unfold FontRecord.applied
  split_ifs with h <;> simp_all

/-- The examination of a record leaves no amend that was not there, and takes away an applied one alone. -/
theorem FontRecord.examined_amend {r : FontRecord} {a : HeldAmend} (h : r.examined.amend = some a) :
    r.amend = some a := by
  unfold FontRecord.examined at h
  split at h
  · cases h
  · split at h
    · split at h
      · cases h
      · exact h
    · exact h

/-- The completion of an applied amend's request (R12). -/
def Channel.amended (k : Channel) (a : HeldAmend) (revision : Byte) : Channel :=
  k.completed (if a.clamped then .doneClamped else .done) ((revision + 1).setWidth 16) []

theorem applyAmend_channel (i : FontSlot) (p : AmendParts) (clamped : Bool) (ch x : ChannelId) (s : State) :
    (applyAmend i p clamped ch s).channel x =
      if x = ch then (s.channel ch).completed (if clamped then .doneClamped else .done)
        (((s.font i).revision + 1).setWidth 16) []
      else s.channel x := by
  rw [applyAmend, finish, complete_channel, State.font_modFont_self, BitVec.ofNat_toNat]
  rfl

/-- R9 completes the request of the amend that it applies, and touches no other channel. -/
theorem examine_channel (i : FontSlot) (x : ChannelId) (s : State) :
    (examine i s).channel x =
      match (s.font i).applied with
      | some a => if x = a.channel then (s.channel x).amended a (s.font i).revision else s.channel x
      | none => s.channel x := by
  unfold examine FontRecord.applied
  dsimp only
  cases hs : (s.font i).state with
  | empty => simp
  | retiring =>
    simp only [reduceCtorEq, false_and, if_false]
    split <;> rfl
  | live =>
    cases ha : (s.font i).amend with
    | none => simp
    | some a =>
      by_cases hp : (s.font i).partialRefs = 0
      · by_cases hx : x = a.channel
        · subst hx; simp [hp, applyAmend_channel, Channel.amended]
        · simp [hp, applyAmend_channel, hx]
      · simp [hp]

theorem AmendsApart.of_subset {s t : State} (h : AmendsApart s)
    (sub : ∀ j a, (t.font j).amend = some a → (s.font j).amend = some a) : AmendsApart t :=
  fun i j a b ha hb => h i j a b (sub i a ha) (sub j b hb)

theorem examine_amend {i j : FontSlot} {a : HeldAmend} {s : State} (h : ((examine i s).font j).amend = some a) :
    (s.font j).amend = some a := by
  rw [examine_font] at h
  split_ifs at h with e
  · subst e; exact FontRecord.examined_amend h
  · exact h

/-- The examinations of some records leave a channel alone that brought none of the amends they apply. -/
theorem examineAll_channel_other {is : List FontSlot} (once : is.Nodup) {ch : ChannelId} {s : State}
    (other : ∀ j ∈ is, ∀ a, (s.font j).applied = some a → a.channel ≠ ch) :
    (examineAll is s).channel ch = s.channel ch := by
  unfold examineAll
  induction is generalizing s with
  | nil => rfl
  | cons i rest ih =>
    obtain ⟨hi, hr⟩ := List.nodup_cons.mp once
    rw [List.foldl_cons, ih hr, examine_channel]
    · cases h : (s.font i).applied with
      | none => rfl
      | some a => simp [Ne.symm (other i List.mem_cons_self a h)]
    · intro j hj a ha
      have ne : j ≠ i := fun e => hi (e ▸ hj)
      rw [examine_font, if_neg ne] at ha
      exact other j (List.mem_cons_of_mem _ hj) a ha

/-- Each applied amend's request completes with the new revision. -/
theorem examineAll_channel_applied {is : List FontSlot} (once : is.Nodup) {s : State} (apart : AmendsApart s)
    {i : FontSlot} (hi : i ∈ is) {a : HeldAmend} (ha : (s.font i).applied = some a) :
    (examineAll is s).channel a.channel = (s.channel a.channel).amended a (s.font i).revision := by
  obtain ⟨-, -, held⟩ := FontRecord.applied_eq_some.mp ha
  unfold examineAll
  induction is generalizing s with
  | nil => cases hi
  | cons k rest ih =>
    obtain ⟨hk, hr⟩ := List.nodup_cons.mp once
    rw [List.foldl_cons]
    by_cases e : i = k
    · subst e
      rw [show List.foldl (fun s i => examine i s) (examine i s) rest = examineAll rest (examine i s) from rfl,
        examineAll_channel_other hr, examine_channel, ha]
      · simp
      · intro j hj b hb
        have ne : j ≠ i := fun e => hk (e ▸ hj)
        rw [examine_font, if_neg ne] at hb
        exact apart j i b a (FontRecord.applied_eq_some.mp hb).2.2 held ne
    · have same : (examine k s).font i = s.font i := by rw [examine_font, if_neg e]
      have later := ih hr (apart.of_subset fun j b => examine_amend) (by simpa [e] using hi) (by rw [same, ha])
        (by rw [same, held])
      rw [later, same, examine_channel]
      cases h : (s.font k).applied with
      | none => rfl
      | some b =>
        have ne := apart i k a b held (FontRecord.applied_eq_some.mp h).2.2 e
        simp [ne]

/-! ### Reports -/

/-- An event's reports of references, as a change of the records and the channels. -/
structure Reported (s t : State) (up line partials current : FontSlot → Nat) : Prop where
  font : ∀ j, t.font j = (s.font j).reported (up j) (line j) (partials j) (current j)
  other : ∀ ch, (∀ j a, (s.font j).amend = some a → (t.font j).amend = none → (s.font j).state = .live →
    a.channel ≠ ch) → t.channel ch = s.channel ch
  amended : AmendsApart s → ∀ j a, (s.font j).state = .live → (s.font j).amend = some a → (t.font j).amend = none →
    t.channel a.channel = (s.channel a.channel).amended a (s.font j).revision

theorem Reported.congr {s s' t t' : State} {up line partials current : FontSlot → Nat}
    (h : Reported s' t' up line partials current) (sf : s'.fonts = s.fonts) (sc : s'.channels = s.channels)
    (tf : t'.fonts = t.fonts) (tc : t'.channels = t.channels) : Reported s t up line partials current := by
  have sf' : ∀ j, s'.font j = s.font j := fun j => by rw [State.font, sf, State.font]
  have tf' : ∀ j, t'.font j = t.font j := fun j => by rw [State.font, tf, State.font]
  have sc' : ∀ ch, s'.channel ch = s.channel ch := fun ch => by rw [State.channel, sc, State.channel]
  have tc' : ∀ ch, t'.channel ch = t.channel ch := fun ch => by rw [State.channel, tc, State.channel]
  obtain ⟨font, other, amended⟩ := h
  simp only [AmendsApart, sf', tf', sc', tc'] at font other amended
  exact ⟨font, other, amended⟩

/-- Nothing reported. -/
theorem Reported.refl (s : State) : Reported s s (fun _ => 0) (fun _ => 0) (fun _ => 0) (fun _ => 0) :=
  ⟨fun _ => rfl, fun _ _ => rfl, fun _ j a _ held gone => by rw [held] at gone; cases gone⟩

/-- Where an owner holds no two requests of a channel, the reports complete the amends that they apply. -/
theorem Reported.references {s t : State} {up line partials current : FontSlot → Nat}
    (h : Reported s t up line partials current) (apart : AmendsApart s) :
    ReferencesReported s t up line partials current :=
  ⟨fun j => by rw [h.font]; exact recordAfter_reported .., fun j a live held gone =>
    answered_of_completed (h.amended apart j a live held gone)⟩

theorem FontRecord.examined_of_empty {r : FontRecord} (h : r.state = .empty) : r.examined = r := by
  simp [FontRecord.examined, h]

theorem FontRecord.reported_amend {r : FontRecord} {a : HeldAmend} {up line partials current : Nat}
    (h : (r.reported up line partials current).amend = some a) : r.amend = some a := by
  unfold FontRecord.reported at h
  split at h
  · exact (FontRecord.examined_amend h :)
  · exact h

/-- The report of counts that fell in some records: they are lowered, then examined. -/
theorem reported_examineAll {s u : State} {is : List FontSlot} {up line partials current : FontSlot → Nat}
    (once : is.Nodup) (channels : u.channels = s.channels)
    (font : ∀ j, u.font j = (s.font j).counted (up j) (line j) (partials j) (current j))
    (listed : ∀ j, j ∈ is ↔ 0 < line j + partials j + current j) :
    Reported s (examineAll is u) up line partials current := by
  have channel : ∀ ch, u.channel ch = s.channel ch := fun ch => by rw [State.channel, channels, State.channel]
  have after : ∀ j, (examineAll is u).font j = (s.font j).reported (up j) (line j) (partials j) (current j) := by
    intro j
    rw [examineAll_font is once, font, FontRecord.reported]
    simp only [listed]
  have apart : AmendsApart s → AmendsApart u := fun h => h.of_subset fun j a held => by rwa [font] at held
  constructor
  · exact after
  · intro ch none_
    rw [examineAll_channel_other once, channel]
    intro j hj a ha
    obtain ⟨live, idle, held⟩ := FontRecord.applied_eq_some.mp ha
    have gone : ((examineAll is u).font j).amend = none := by
      rw [examineAll_font is once, if_pos hj]
      simp [FontRecord.examined, live, idle, held, FontRecord.amended]
    rw [font] at live held
    exact none_ j a held gone live
  · intro h j a live held gone
    have live' : (u.font j).state = .live := by rw [font]; exact live
    have held' : (u.font j).amend = some a := by rw [font]; exact held
    have hj : j ∈ is := by
      by_contra no
      rw [examineAll_font is once, if_neg no, held'] at gone
      cases gone
    have idle : (u.font j).partialRefs = 0 := by
      by_contra some_
      rw [examineAll_font is once, if_pos hj] at gone
      simp [FontRecord.examined, live', held', some_] at gone
    rw [examineAll_channel_applied once (apart h) hj (FontRecord.applied_eq_some.mpr ⟨live', idle, held'⟩), channel, font]
    rfl

/-- The lists that reports work through name each record once. -/
theorem nodup_finRange_filter (p : FontSlot → Bool) : ((List.finRange 32).filter p).Nodup :=
  (List.nodup_finRange 32).filter p

/-- Records raised or lowered touch no channel. -/
theorem foldl_modFont_channels (f : FontRecord → FontRecord) (is : List FontSlot) (s : State) :
    (is.foldl (fun s i => s.modFont i f) s).channels = s.channels := by
  induction is generalizing s with
  | nil => rfl
  | cons i rest ih => rw [List.foldl_cons, ih]; rfl

theorem reported_commitReport {lines leaving : List FontSlot} (h1 : lines.Nodup) (h2 : leaving.Nodup) (s : State) :
    Reported s (commitReport lines leaving s) (fun j => if j ∈ lines then 1 else 0) (fun _ => 0)
      (fun j => if j ∈ leaving then 1 else 0) (fun _ => 0) := by
  refine reported_examineAll h2 ?_ (fun j => ?_) (fun j => ?_)
  · rw [lowerPartial, foldl_modFont_channels, raiseLine, foldl_modFont_channels]
  · rw [lowerPartial, foldl_modFont_font _ _ h2, raiseLine, foldl_modFont_font _ _ h1]
    by_cases a : j ∈ lines <;> by_cases b : j ∈ leaving <;> simp [a, b, FontRecord.counted]
  · by_cases b : j ∈ leaving <;> simp [b]

theorem reported_lineGone {lines : List FontSlot} (h : lines.Nodup) (s : State) :
    Reported s (lineGone lines s) (fun _ => 0) (fun j => if j ∈ lines then 1 else 0) (fun _ => 0) (fun _ => 0) := by
  refine reported_examineAll h (foldl_modFont_channels ..) (fun j => ?_)
    (fun j => ?_)
  · rw [lowerLine, foldl_modFont_font _ _ h]
    by_cases b : j ∈ lines <;> simp [b, FontRecord.counted]
  · by_cases b : j ∈ lines <;> simp [b]

theorem reported_partialGone {slots : List FontSlot} (h : slots.Nodup) (s : State) :
    Reported s (partialGone slots s) (fun _ => 0) (fun _ => 0) (fun j => if j ∈ slots then 1 else 0) (fun _ => 0) := by
  refine reported_examineAll h (foldl_modFont_channels ..) (fun j => ?_)
    (fun j => ?_)
  · rw [lowerPartial, foldl_modFont_font _ _ h]
    by_cases b : j ∈ slots <;> simp [b, FontRecord.counted]
  · by_cases b : j ∈ slots <;> simp [b]

theorem reported_currentGone (i : FontSlot) (s : State) :
    Reported s (currentGone i s) (fun _ => 0) (fun _ => 0) (fun _ => 0) (fun j => if j = i then 1 else 0) := by
  have one := reported_examineAll (s := s) (u := lowerCurrent i s) (is := [i]) (up := fun _ => 0) (line := fun _ => 0)
    (partials := fun _ => 0) (current := fun j => if j = i then 1 else 0) (List.nodup_singleton i) rfl
    (fun j => ?_) (fun j => ?_)
  · exact one
  · by_cases e : j = i
    · subst e; simp [lowerCurrent, FontRecord.counted]
    · simp [lowerCurrent, FontRecord.counted, e, State.font_modFont_ne _ _ (Ne.symm e)]
  · by_cases e : j = i <;> simp [e]

/-! ### Reports one after another -/

/-- R9 in a LIVE record applies a held amend once the last partial reference is gone, and does nothing else. -/
theorem FontRecord.examined_of_live {r : FontRecord} (h : r.state = .live) :
    r.examined = match r.amend with
      | some a => if r.partialRefs = 0 then r.amended a.parts else r
      | none => r := by
  unfold FontRecord.examined
  rw [if_neg (by simp [h])]
  cases r.amend <;> simp [h]

/-- R9 empties a RETIRING record without references, and does nothing else. -/
theorem FontRecord.examined_of_retiring {r : FontRecord} (h : r.state = .retiring) :
    r.examined =
      if r.lineRefs = 0 ∧ r.currentRefs = 0 ∧ r.partialRefs = 0 then FontRecord.blank else r := by
  unfold FontRecord.examined
  simp only [h, true_and]

@[simp] theorem FontRecord.reported_live (r : FontRecord) (up line partials current : Nat) :
    (r.reported up line partials current).state = .live ↔ r.state = .live := by
  unfold FontRecord.reported
  split_ifs
  · cases h : r.state with
    | empty => rw [FontRecord.examined_of_empty (by simpa using h), counted_state, h]
    | live =>
      rw [FontRecord.examined_of_live (by simpa using h), counted_amend]
      cases r.amend with
      | none => simp [h]
      | some a => dsimp only; split_ifs <;> simp [FontRecord.amended, h]
    | retiring =>
      rw [FontRecord.examined_of_retiring (by simpa using h)]
      split_ifs
      · simp [FontRecord.blank]
      · simp [h]
  · simp

/-- An examination before further counts fall and are examined makes no difference. -/
theorem FontRecord.examined_counted_examined (r : FontRecord) (line partials current : Nat) :
    (r.examined.counted 0 line partials current).examined = (r.counted 0 line partials current).examined := by
  cases h : r.state with
  | empty => rw [FontRecord.examined_of_empty h]
  | live =>
    rw [FontRecord.examined_of_live h]
    cases ha : r.amend with
    | none => rfl
    | some a =>
      by_cases hp : r.partialRefs = 0
      · simp only [hp, if_true]
        rw [FontRecord.examined_of_live (by simpa [FontRecord.amended] using h),
          FontRecord.examined_of_live (by simpa using h)]
        simp [ha, FontRecord.counted, FontRecord.amended, hp]
      · simp only [hp, if_false]
  | retiring =>
    rw [FontRecord.examined_of_retiring h]
    split_ifs with zero
    · rw [FontRecord.examined_of_empty (by rfl), FontRecord.examined_of_retiring (by simpa using h), if_pos]
      · simp [FontRecord.counted, FontRecord.blank]
      · simp [FontRecord.counted, zero]
    · rfl

/-- A LIVE record that holds its amend after a report has had its counts changed only. -/
theorem FontRecord.reported_of_held {r : FontRecord} {a : HeldAmend} {up line partials current : Nat}
    (live : r.state = .live) (held : (r.reported up line partials current).amend = some a) :
    r.reported up line partials current = r.counted up line partials current := by
  unfold FontRecord.reported at *
  split_ifs with lowered
  · rw [if_pos lowered, FontRecord.examined_of_live (by simpa using live), counted_amend] at held
    rw [FontRecord.examined_of_live (by simpa using live), counted_amend]
    cases e : r.amend with
    | none => rfl
    | some b =>
      rw [e] at held
      dsimp only at *
      split_ifs at * with idle
      · cases held
      · rfl
  · rfl

theorem FontRecord.reported_reported (r : FontRecord) (up l1 p1 c1 l2 p2 c2 : Nat) :
    (r.reported up l1 p1 c1).reported 0 l2 p2 c2 = r.reported up (l1 + l2) (p1 + p2) (c1 + c2) := by
  have counted : (r.counted up l1 p1 c1).counted 0 l2 p2 c2 = r.counted up (l1 + l2) (p1 + p2) (c1 + c2) := by
    simp only [FontRecord.counted, Nat.sub_sub, Nat.add_zero]
  unfold FontRecord.reported
  by_cases h1 : 0 < l1 + p1 + c1 <;> by_cases h2 : 0 < l2 + p2 + c2
  · rw [if_pos h1, if_pos h2, if_pos (by omega), ← counted, FontRecord.examined_counted_examined]
  · obtain ⟨rfl, rfl, rfl⟩ : l2 = 0 ∧ p2 = 0 ∧ c2 = 0 := by omega
    simp [h1]
  · obtain ⟨rfl, rfl, rfl⟩ : l1 = 0 ∧ p1 = 0 ∧ c1 = 0 := by omega
    rw [if_neg h1, if_pos h2, if_pos (by omega), counted]
  · rw [if_neg h1, if_neg h2, if_neg (by omega), counted]

theorem Reported.trans {s t u : State} {up l1 p1 c1 l2 p2 c2 : FontSlot → Nat} (h1 : Reported s t up l1 p1 c1)
    (h2 : Reported t u (fun _ => 0) l2 p2 c2) :
    Reported s u up (fun j => l1 j + l2 j) (fun j => p1 j + p2 j) (fun j => c1 j + c2 j) := by
  have kept1 : ∀ j (a : HeldAmend), (t.font j).amend = some a → (s.font j).amend = some a := fun j a held => by
    rw [h1.font] at held; exact FontRecord.reported_amend held
  have kept2 : ∀ j (a : HeldAmend), (u.font j).amend = some a → (t.font j).amend = some a := fun j a held => by
    rw [h2.font] at held; exact FontRecord.reported_amend held
  have live1 : ∀ j, (t.font j).state = .live ↔ (s.font j).state = .live := fun j => by
    rw [h1.font]; exact FontRecord.reported_live ..
  have gone2 : ∀ j, (t.font j).amend = none → (u.font j).amend = none := fun j h => by
    cases e : (u.font j).amend with
    | none => rfl
    | some a => rw [kept2 j a e] at h; cases h
  constructor
  · intro j; rw [h2.font, h1.font, FontRecord.reported_reported]
  · intro ch none_
    rw [h2.other, h1.other]
    · exact fun j a held gone live => none_ j a held (gone2 j gone) live
    · exact fun j a held gone live => none_ j a (kept1 j a held) gone ((live1 j).mp live)
  · intro apart j a live held gone
    cases middle : (t.font j).amend with
    | none =>
      -- applied by the first report: no amend of the second has its channel
      rw [h2.other, h1.amended apart j a live held middle]
      intro k b held' _ _ same
      refine apart k j b a (kept1 k b held') held ?_ same
      rintro rfl; rw [held'] at middle; cases middle
    | some b =>
      obtain rfl : b = a := by have := kept1 j b middle; rw [held] at this; cases this; rfl
      have revision : (t.font j).revision = (s.font j).revision := by
        rw [h1.font] at middle ⊢
        rw [FontRecord.reported_of_held live middle, FontRecord.counted_revision]
      rw [h2.amended (apart.of_subset kept1) j b ((live1 j).mpr live) middle gone, revision, h1.other]
      intro k d held' gone' _ same
      refine apart k j d b held' held ?_ same
      rintro rfl; rw [middle] at gone'; cases gone'

end Sys2Proof.Machine
end

section
/-! SUPPORT. The commit of a line (R67, R68) and its report, and the item taken without waiting text. -/

namespace Sys2Proof.Machine

/-! ### What reports leave alone -/

namespace RecordsOnly

variable {s t : State} (h : RecordsOnly s t)
include h

theorem galleys : t.galleys = s.galleys := by rw [h]
theorem galley (g : GalleyId) : t.galley g = s.galley g := by rw [h]; rfl
theorem engine : t.engine = s.engine := by rw [h]
theorem dict : t.dict = s.dict := by rw [h]
theorem store : t.store = s.store := by rw [h]
theorem lineAt (k : LineSlot) : t.lineAt k = s.lineAt k := by rw [h]; rfl
theorem linesOf (g : GalleyId) : t.linesOf g = s.linesOf g := by rw [h]; rfl
theorem photo : t.photo = s.photo := by rw [h]
theorem exposure : t.exposure = s.exposure := by rw [h]
theorem film : t.film = s.film := by rw [h]
theorem proof : t.proof = s.proof := by rw [h]
theorem attn : t.attn = s.attn := by rw [h]
theorem config : t.config = s.config := by rw [h]
theorem sensors : t.sensors = s.sensors := by rw [h]

end RecordsOnly

/-- A report is a matter of records and channels. -/
theorem ReferencesReported.congr {s s' t t' : State} {up line partials current : FontSlot → Nat}
    (h : ReferencesReported s' t' up line partials current) (sf : s'.fonts = s.fonts) (sc : s'.channels = s.channels)
    (tf : t'.fonts = t.fonts) (tc : t'.channels = t.channels) : ReferencesReported s t up line partials current := by
  simpa only [ReferencesReported, State.font, State.answered, State.handed, State.posts, State.channel, State.modChannel,
    sf, sc, tf, tc] using h

/-! ### The slots that a line and a builder use -/

theorem mem_fontSlots {r : LineRecord} {j : FontSlot} : j ∈ r.fontSlots ↔ r.hasGlyphOf j = true := by
  simp [LineRecord.fontSlots, LineRecord.hasGlyphOf]

theorem usesSlot_eq_hasGlyphOf (b : Builder) (j : FontSlot) : b.usesSlot j = b.hasGlyphOf j := by
  have item : LineItem.usesSlot j = fun i => match i with | .glyph g => g.slot == j | .space _ => false := by
    funext i; cases i <;> rfl
  simp only [Builder.usesSlot, Builder.hasGlyphOf, item] <;> rfl

theorem mem_slots {b : Builder} {j : FontSlot} : j ∈ b.slots ↔ b.hasGlyphOf j = true := by
  simp [Builder.slots, usesSlot_eq_hasGlyphOf]

/-- An emptied builder that nothing is carried into holds no glyph. -/
theorem builderAfter_hasGlyphOf_of_carry {x : Galley} {e : LineEnd} (h : e.carry = []) (j : FontSlot) :
    (builderAfter x e).hasGlyphOf j = false := by
  simp [Builder.hasGlyphOf, builderAfter, h, Builder.blank]

/-! ### The commit -/

theorem freeSlot_eq_some {s : State} {k : LineSlot} (h : s.lineAt k = none) (first : ∀ j, j < k → (s.lineAt j).isSome) :
    s.freeSlot = some k :=
  find?_finRange (by simp [h]) fun j hj => by simpa using (first j hj)

/-- The record of a committed line is written and its galley's builder emptied (R67, R68). -/
def lineCommitted (g : GalleyId) (e : LineEnd) (k : LineSlot) (s : State) : State :=
  (putLine k (lineRecord s.truncates g (s.galley g) e) s).modGalley g fun x =>
    { x with
      pendingReverse := 0, seq := x.seq + 1
      sticky := x.sticky ||| (lineRecord s.truncates g (s.galley g) e).flags.sticky
      builder := builderAfter (s.galley g) e }

/-- The slots of which the commit carries nothing on. -/
def leavingSlots (x : Galley) (e : LineEnd) : List FontSlot :=
  x.builder.slots.filter fun k => !(builderAfter x e).usesSlot k

theorem commit_of_free {g : GalleyId} {e : LineEnd} {k : LineSlot} {s : State} (h : s.freeSlot = some k) :
    commit g e s =
      engineIdle (commitReport (lineRecord s.truncates g (s.galley g) e).fontSlots (leavingSlots (s.galley g) e)
        (lineCommitted g e k s)) := by
  simp only [commit, h]
  rfl

/-- The state before the commit's report, with the engine idle. -/
theorem commit_recordsOnly {g : GalleyId} {e : LineEnd} {k : LineSlot} {s : State} (h : s.freeSlot = some k) :
    RecordsOnly (engineIdle (lineCommitted g e k s)) (commit g e s) := by
  have report := recordsOnly_commitReport (lineRecord s.truncates g (s.galley g) e).fontSlots
    (leavingSlots (s.galley g) e) (lineCommitted g e k s)
  rw [commit_of_free h]
  unfold RecordsOnly at *
  rw [report]
  rfl

/-- R6, R8, R9. The commit's report: the line's references rise, and the partial ones fall of which nothing is carried. -/
theorem commit_references {g : GalleyId} {e : LineEnd} {s : State} (h : s.freeSlot.isSome) (apart : AmendsApart s) :
    ReferencesReported s (commit g e s)
      (fun j => if (lineRecord s.truncates g (s.galley g) e).hasGlyphOf j then 1 else 0) 0
      (fun j => if (s.galley g).builder.hasGlyphOf j && !(builderAfter (s.galley g) e).hasGlyphOf j then 1 else 0) 0 := by
  obtain ⟨k, hk⟩ := Option.isSome_iff_exists.mp h
  have report := (reported_commitReport (lines := (lineRecord s.truncates g (s.galley g) e).fontSlots)
    (leaving := leavingSlots (s.galley g) e) (nodup_finRange_filter _) ((nodup_finRange_filter _).filter _)
    (lineCommitted g e k s)).references apart
  have leaving : ∀ j, j ∈ leavingSlots (s.galley g) e ↔
      ((s.galley g).builder.hasGlyphOf j && !(builderAfter (s.galley g) e).hasGlyphOf j) = true := fun j => by
    simp [leavingSlots, mem_slots, usesSlot_eq_hasGlyphOf]
  simp only [mem_fontSlots, leaving] at report
  rw [commit_of_free hk]
  exact report.congr rfl rfl rfl rfl

@[simp] theorem lineCommitted_lineAt (g : GalleyId) (e : LineEnd) (k : LineSlot) (s : State) :
    (lineCommitted g e k s).lineAt k = some (lineRecord s.truncates g (s.galley g) e) := by
  simp [lineCommitted, State.lineAt, putLine]

theorem lineCommitted_lineAt_ne {g : GalleyId} {e : LineEnd} {k j : LineSlot} (ne : j ≠ k) (s : State) :
    (lineCommitted g e k s).lineAt j = s.lineAt j := by
  simp [lineCommitted, State.lineAt, putLine, vget_vset_ne _ _ _ _ (Ne.symm ne)]

@[simp] theorem lineCommitted_linesOf (g : GalleyId) (e : LineEnd) (k : LineSlot) (s : State) :
    (lineCommitted g e k s).linesOf g = s.linesOf g ++ [k] := by
  simp [lineCommitted, State.linesOf, putLine, lineRecord]

@[simp] theorem lineCommitted_galley (g : GalleyId) (e : LineEnd) (k : LineSlot) (s : State) :
    (lineCommitted g e k s).galley g =
      { s.galley g with
        pendingReverse := 0, seq := (s.galley g).seq + 1
        sticky := (s.galley g).sticky ||| (lineRecord s.truncates g (s.galley g) e).flags.sticky
        builder := builderAfter (s.galley g) e } := by
  rw [lineCommitted, State.galley_modGalley_self]
  rfl

theorem lineCommitted_galley_ne {g h : GalleyId} (ne : h ≠ g) (e : LineEnd) (k : LineSlot) (s : State) :
    (lineCommitted g e k s).galley h = s.galley h := by
  rw [lineCommitted, State.galley_modGalley_ne _ _ (Ne.symm ne)]
  rfl

/-! ### The item at the head of the buffer -/

/-- A galley without waiting text is served nothing. -/
theorem serveWaiting_of_none {g : GalleyId} {s : State} (h : (s.galley g).waiting = []) : serveWaiting g s = s := by
  rw [serveWaiting, h, serveTexts, State.modGalley]
  have e : ({ s.galley g with waiting := [] } : Galley) = s.galley g := by rw [← h]
  rw [e, State.galley, vset_vget_self]

/-- The served item is the one at the head of the served galley's buffer. -/
theorem servedItem_of_head {s : State} {g : GalleyId} {i : Item} {rest : List Byte} (engine : s.engine.state = .serving g)
    (opened : (s.galley g).state = .opened) (head : headItem (s.galley g).buffer = some (i, rest)) :
    s.servedItem = some (g, i, rest) := by
  simp [State.servedItem, engine, opened, head]

/-- An item that no word keeps back and that finds a slot for its line is taken. -/
theorem takeItem_takes {s : State} {g : GalleyId} {i : Item} {rest : List Byte} (engine : s.engine.state = .serving g)
    (opened : (s.galley g).state = .opened) (head : headItem (s.galley g).buffer = some (i, rest))
    (word : (s.galley g).builder.word = [] ∨ i.endsWord (s.galley g).builder.word.length = false)
    (slot : i = .lineEnd ∨ i = .endGalley ∧ (s.galley g).builder.glyphCount ≠ 0 → s.freeSlot.isSome) :
    exec .takeItem s = .next (react (takeItem g i rest s.fresh)) := by
  have settled : s.mustSettle g i = false := by
    rcases word with h | h <;> simp [State.mustSettle, h]
  have room : (!s.itemCommits g i || s.freeSlot.isSome) = true := by
    cases i <;> simp [State.itemCommits] at slot ⊢
    · exact slot
    · by_cases e : (s.galley g).builder.glyphCount = 0
      · exact .inl e
      · exact .inr (slot e)
  have may : s.mayTake g i = true := by rw [State.mayTake, settled, room]; rfl
  simp only [exec, execTakeItem, servedItem_of_head engine opened head, may]
  rfl

end Sys2Proof.Machine
end

section
/-! PROOF. AMEND FONT (O13): its refusals, the amend applied or held, and the later application by a commit. -/

namespace Sys2Proof.Machine

/-! ### The request taken (R11) -/

theorem ownerTakes_amendFont (ch : ChannelId) (b : Block) (s : State) :
    ownerTakes ch { code := 0x11, block := b } s = takeAmendFont ch b s := rfl

theorem takeAmendFont_badArgument {ch : ChannelId} {b : Block} {s : State} (h : parseAmendFont b.payload = none) :
    takeAmendFont ch b s = refuse ch .badArgument s := by simp only [takeAmendFont, h]

theorem takeAmendFont_unresolved {ch : ChannelId} {b : Block} {s : State} (h : (parseAmendFont b.payload).isSome)
    (none_ : s.resolve b.target.toNat = none) :
    takeAmendFont ch b s = refuse ch (if s.retiringWith b.target.toNat then .wrongState else .notFound) s := by
  obtain ⟨⟨p, clamped⟩, parsed⟩ := Option.isSome_iff_exists.mp h
  simp only [takeAmendFont, parsed, none_]

theorem takeAmendFont_resolved {ch : ChannelId} {b : Block} {s : State} {p : AmendParts} {clamped : Bool} {i : FontSlot}
    (parsed : parseAmendFont b.payload = some (p, clamped)) (found : s.resolve b.target.toNat = some i) :
    takeAmendFont ch b s =
      if (s.font i).amend.isSome then refuse ch .busy s
      else if p.kerning.isSome ∧ (if (s.font i).partialRefs = 0 then s.poolFree + (s.font i).kerning.length
          else s.poolFree) < (p.kerning.getD []).length then refuse ch .full s
      else if (s.font i).partialRefs = 0 then applyAmend i p clamped ch s
      else s.modFont i fun r => { r with amend := some { parts := p, clamped := clamped, channel := ch } } := by
  simp only [takeAmendFont, parsed, found]

theorem applyAmend_eq (i : FontSlot) (p : AmendParts) (clamped : Bool) (ch : ChannelId) (s : State) :
    applyAmend i p clamped ch s =
      complete ch (if clamped then .doneClamped else .done) (((s.font i).revision + 1).setWidth 16) []
        (s.modFont i fun r => r.amended p) := by
  rw [applyAmend, finish, State.font_modFont_self, BitVec.ofNat_toNat]
  rfl

section Resolved

variable {s : State} {ch : ChannelId} {b : Block} {p : AmendParts} {clamped : Bool} {i : FontSlot}
  (ready : s.readyFor ch) (fits : b.payload.length ≤ 1024)
  (parsed : parseAmendFont b.payload = some (p, clamped)) (found : s.resolve b.target.toNat = some i)
include ready fits parsed found

theorem amendFont_busy (h : (s.font i).amend.isSome) :
    EventTo (exec (.amendFont ch b) s) s (s.fresh.refuses ch { code := 0x11, block := b } .busy) := by
  refine request_refused ready fits fun t ht => ?_
  subst ht
  exact (ownerTakes_amendFont ..).trans ((takeAmendFont_resolved (s := s.fresh.waits ch _) parsed found).trans (if_pos h))

theorem amendFont_full {new : List KernPair} (idle : (s.font i).amend = none) (kerning : p.kerning = some new)
    (short : (if (s.font i).partialRefs = 0 then s.poolFree + (s.font i).kerning.length else s.poolFree) < new.length) :
    EventTo (exec (.amendFont ch b) s) s (s.fresh.refuses ch { code := 0x11, block := b } .full) := by
  refine request_refused ready fits fun t ht => ?_
  subst ht
  refine (ownerTakes_amendFont ..).trans
    ((takeAmendFont_resolved (s := s.fresh.waits ch _) parsed found).trans ((if_neg ?_).trans (if_pos ⟨?_, ?_⟩)))
  · rw [State.waits_font, State.fresh_font, idle]; simp
  · simp [kerning]
  · rw [kerning]; exact short

theorem amendFont_applied (idle : (s.font i).amend = none) (none_ : (s.font i).partialRefs = 0)
    (pool : p.kerning = none ∨ (p.kerning.getD []).length ≤ s.poolFree + (s.font i).kerning.length) :
    EventTo (exec (.amendFont ch b) s) s ((s.fresh.modFont i fun x => x.amended p).posts ch { code := 0x11, block := b }
      (if clamped then .doneClamped else .done) (((s.font i).revision + 1).setWidth 16) []) := by
  refine request_completed_settled (State.modFont i _) ready fits (fun _ => rfl) (fun _ => rfl)
    (fun _ => settled_modFont ..) fun t ht => ?_
  subst ht
  refine (ownerTakes_amendFont ..).trans
    ((takeAmendFont_resolved (s := s.fresh.waits ch _) parsed found).trans ((if_neg ?_).trans ((if_neg ?_).trans ((if_pos ?_).trans ?_))))
  · rw [State.waits_font, State.fresh_font, idle]; simp
  · rw [State.waits_font, State.fresh_font, if_pos none_]
    rintro ⟨given, short⟩
    rcases pool with h | h
    · simp [h] at given
    · exact absurd (show _ < _ from short) (Nat.not_lt.mpr h)
  · exact none_
  · exact applyAmend_eq ..

theorem amendFont_held (idle : (s.font i).amend = none) (some_ : 0 < (s.font i).partialRefs)
    (pool : p.kerning = none ∨ (p.kerning.getD []).length ≤ s.poolFree) :
    EventTo (exec (.amendFont ch b) s) s
      ((s.fresh.modFont i fun x => { x with amend := some { parts := p, clamped := clamped, channel := ch } }).waits
        ch { code := 0x11, block := b }) := by
  have k : (s.fresh.modFont i fun x =>
      { x with amend := some { parts := p, clamped := clamped, channel := ch } }).readyFor ch :=
    (State.readyFor_congr rfl).2 ready
  refine eventTo_of_settled ?_ (by rw [settled_waits k, settled_modFont, settled_fresh])
  refine (requestEvent_ready ready _ _ fits).trans (congrArg (fun t : State => (.next (react t) : Answer)) ?_)
  refine (ownerTakes_amendFont ..).trans
    ((takeAmendFont_resolved (s := s.fresh.waits ch _) parsed found).trans ((if_neg ?_).trans ((if_neg ?_).trans (if_neg ?_))))
  · rw [State.waits_font, State.fresh_font, idle]; simp
  · rw [State.waits_font, State.fresh_font, if_neg (by omega)]
    rintro ⟨given, short⟩
    rcases pool with h | h
    · simp [h] at given
    · exact absurd (show _ < _ from short) (Nat.not_lt.mpr h)
  · rw [State.waits_font, State.fresh_font]; omega

end Resolved

theorem amendFont_unresolved {s : State} {ch : ChannelId} {b : Block} (ready : s.readyFor ch)
    (fits : b.payload.length ≤ 1024) (parsed : (parseAmendFont b.payload).isSome)
    (none_ : s.resolve b.target.toNat = none) :
    EventTo (exec (.amendFont ch b) s) s (s.fresh.refuses ch { code := 0x11, block := b }
      (if s.retiringWith b.target.toNat then .wrongState else .notFound)) := by
  refine request_refused ready fits fun t ht => ?_
  subst ht
  exact takeAmendFont_unresolved parsed none_

/-! ### The later application (R12) -/

/-- A commit touches a channel only where it applies an amend that the channel brought. -/
theorem commit_channel {g : GalleyId} {e : LineEnd} {s : State} {ch : ChannelId} (h : s.freeSlot.isSome)
    (other : ∀ j a, (s.font j).amend = some a → ((commit g e s).font j).amend = none → (s.font j).state = .live →
      a.channel ≠ ch) : (commit g e s).channel ch = s.channel ch := by
  obtain ⟨k, hk⟩ := Option.isSome_iff_exists.mp h
  rw [commit_of_free hk] at other ⊢
  exact (reported_commitReport (nodup_finRange_filter _) ((nodup_finRange_filter _).filter _)
    (lineCommitted g e k s)).other ch other

/-- The state in which a line end commits the line of a galley without waiting text. -/
theorem lineEnd_commits {s : State} {g : GalleyId} {rest : List Byte} (engine : s.engine.state = .serving g)
    (opened : (s.galley g).state = .opened) (head : headItem (s.galley g).buffer = some (.lineEnd, rest))
    (word : (s.galley g).builder.word = []) (waiting : (s.galley g).waiting = []) (slot : s.freeSlot.isSome) :
    exec .takeItem s = .next (react (commit g (paragraphEnd (s.galley g).builder)
      (s.fresh.modGalley g fun x => { x with buffer := rest }))) := by
  obtain ⟨k, hk⟩ := Option.isSome_iff_exists.mp slot
  set u := s.fresh.modGalley g fun x => { x with buffer := rest } with hu
  have own : u.galley g = { s.galley g with buffer := rest } := by rw [hu, State.galley_modGalley_self]; rfl
  have after : ((commit g (paragraphEnd (s.galley g).builder) u).galley g).waiting = [] := by
    rw [(commit_recordsOnly (s := u) hk).galley,
      show (engineIdle (lineCommitted g (paragraphEnd (s.galley g).builder) k u)).galley g = _ from
        lineCommitted_galley .., own]
    exact waiting
  rw [takeItem_takes engine opened head (.inl word) fun _ => slot, takeItem, applyItem, ← hu, own,
    serveWaiting_of_none after]

/-- Settles O13: AMEND FONT by the branches of its taking, and the later application by the report of a commit. -/
theorem amendFontAppliesOrIsHeld : Obligations.AmendFontAppliesOrIsHeld := by
  refine ⟨fun s ch b p clamped i ready fits parsed found => ⟨amendFont_busy ready fits parsed found,
    amendFont_applied ready fits parsed found, amendFont_held ready fits parsed found,
    fun new => amendFont_full ready fits parsed found⟩, fun s ch b ready fits => ⟨fun parsed => ?_, ?_, ?_⟩, ?_⟩
  · exact request_refused ready fits fun t _ => takeAmendFont_badArgument parsed
  · intro parsed live retiring
    have none_ : s.resolve b.target.toNat = none := by
      rw [← Option.not_isSome_iff_eq_none, resolve_isSome]; exact live
    have := amendFont_unresolved ready fits parsed none_
    rwa [if_pos (retiringWith_iff.mpr retiring)] at this
  · intro parsed live retiring
    have none_ : s.resolve b.target.toNat = none := by
      rw [← Option.not_isSome_iff_eq_none, resolve_isSome]; exact live
    have := amendFont_unresolved ready fits parsed none_
    rwa [if_neg fun h => retiring (retiringWith_iff.mp h)] at this
  · intro s g rest i a engine opened head word waiting slot once glyph live held
    set u := s.fresh.modGalley g fun x => { x with buffer := rest } with hu
    set e := paragraphEnd (s.galley g).builder with he
    have builder : (u.galley g).builder = (s.galley g).builder := by rw [hu, State.galley_modGalley_self]; rfl
    have apart : AmendsApart s := once.amendsApart
    obtain ⟨after, answered⟩ := (commit_references (g := g) (e := e) (s := u) slot apart).congr
      (s := s) rfl rfl rfl rfl
    have partials : ((u.galley g).builder.hasGlyphOf i && !(builderAfter (u.galley g) e).hasGlyphOf i) = true := by
      rw [builder, glyph, builderAfter_hasGlyphOf_of_carry rfl]; rfl
    have afterI := after i
    simp only [partials, if_true] at afterI
    obtain ⟨-, kept, applied, -, -⟩ := afterI
    refine ⟨_, lineEnd_commits engine opened head word waiting slot, fun one => ?_, fun more => ?_⟩
    · have record := applied a live held (by omega) (by dsimp only; omega)
      have gone : ((commit g e u).font i).amend = none := by rw [record]
      refine ⟨?_, answered i a live held gone⟩
      rw [record]
      simp [one]
    · have record := kept live (.inr (.inr (by dsimp only; omega)))
      constructor
      · rw [record]; rfl
      · refine commit_channel slot fun j b hb gone _ => apart j i b a hb held ?_
        rintro rfl
        rw [record] at gone
        exact absurd (held.symm.trans gone) (by simp)

end Sys2Proof.Machine
end

section
/-! PROOF. PLACE FONT (O14): the placement and its verification, and the flash request that it withdraws (R14, R143). -/

namespace Sys2Proof.Machine

/-! ### The line in exposure -/

theorem activeGlyph_eq_some {s : State} {l : LineWork} {g : SetGlyph} :
    s.activeGlyph = some (l, g) ↔ s.exposure.work = .line l ∧ s.exposure.hold = none ∧ l.glyph = some g := by
  unfold State.activeGlyph
  split
  · next m work hold => simp [work, hold]; aesop
  · next away => simpa using fun work hold _ => away _ work hold

theorem activeGlyph_of_exposed {s : State} {l : LineWork} {g : SetGlyph} (work : s.exposure.work = .line l)
    (hold : s.exposure.hold = none) (glyph : l.glyph = some g) : s.activeGlyph = some (l, g) :=
  activeGlyph_eq_some.mpr ⟨work, hold, glyph⟩

theorem placementChanged_stays {i : FontSlot} {s : State}
    (h : (∀ q, s.photo.flash = some q → q.slot ≠ i) ∨ s.activeGlyph = none) : placementChanged i s = s := by
  unfold placementChanged
  split
  · next l g q active flash =>
    rcases h with h | h
    · exact if_neg (h q flash)
    · rw [h] at active; cases active
  · rfl

theorem placementChanged_decides {i : FontSlot} {s : State} {l : LineWork} {g : SetGlyph} {q : FlashRequest}
    (active : s.activeGlyph = some (l, g)) (flash : s.photo.flash = some q) (slot : q.slot = i) :
    placementChanged i s = glyphDecision l g (withdrawFlash s) := by
  simp [placementChanged, active, flash, slot]

/-! ### The glyph decision (R140) -/

theorem glyphDecision_unplaced {l : LineWork} {g : SetGlyph} {s : State} (loaded : s.film.loaded = true)
    (none_ : (s.font g.slot).placement = none) :
    glyphDecision l g s = takeHold .fontUnplaced (setStep l .decision s) := by
  have e1 : (setStep l .decision s).film.loaded = true := loaded
  have e2 : ((setStep l .decision s).font g.slot).placement = none := none_
  simp [glyphDecision, e1, e2]

/-- A glyph whose turret stands elsewhere, without a disc fault noted, goes on to the turret. -/
theorem glyphDecision_elsewhere {l : LineWork} {g : SetGlyph} {p : Placement} {s : State}
    (loaded : s.film.loaded = true) (hp : (s.font g.slot).placement = some p)
    (away : s.photo.turret ≠ .standing (s.stationMap p.station)) (verified : (s.font g.slot).verification ≠ .mismatch)
    (calm : s.exposure.note = false ∨ s.photo.disc = .locked) :
    glyphDecision l g s =
      turretStep l g p ((setStep l .decision s).modExposure fun e => { e with note := false }) := by
  have e1 : (setStep l .decision s).film.loaded = true := loaded
  have e2 : ((setStep l .decision s).font g.slot).placement = some p := hp
  have e3 : (setStep l .decision s).photo.turret ≠ .standing ((setStep l .decision s).stationMap p.station) := away
  have e4 : ((setStep l .decision s).font g.slot).verification ≠ .mismatch := verified
  have e5 : ¬ ((setStep l .decision s).exposure.note = true ∧ (setStep l .decision s).photo.disc ≠ .locked) := by
    rintro ⟨noted, unlocked⟩
    rcases calm with h | h
    · exact absurd (h.symm.trans noted) (by simp)
    · exact unlocked h
  simp [glyphDecision, e1, e2, e3, decidePlaced, e4, e5]

/-! ### The request taken -/

theorem ownerTakes_placeFont (ch : ChannelId) (b : Block) (s : State) :
    ownerTakes ch { code := 0x12, block := b } s = placeFontReported ch b s := rfl

theorem placeFontReported_unparsed {ch : ChannelId} {b : Block} {s : State} (h : parsePlaceFont b.payload = none) :
    placeFontReported ch b s = refuse ch .badArgument s := by
  simp only [placeFontReported, takePlaceFont, h]

theorem placeFontReported_unaddressed {ch : ChannelId} {b : Block} {s : State} {a : PlaceArgs}
    (parsed : parsePlaceFont b.payload = some a) (h : s.address a.selector b.target.toNat = none) :
    placeFontReported ch b s = refuse ch .notFound s := by
  simp only [placeFontReported, takePlaceFont, parsed, h]

theorem placeFontReported_addressed {ch : ChannelId} {b : Block} {s : State} {a : PlaceArgs} {i : FontSlot}
    (parsed : parsePlaceFont b.payload = some a) (h : s.address a.selector b.target.toNat = some i) :
    placeFontReported ch b s = placementChanged i (finish ch .done (placedVerification a.placement s).toNat
      (s.modFont i fun r => { r with placement := a.placement, verification := placedVerification a.placement s })) := by
  simp only [placeFontReported, takePlaceFont, parsed, h]

/-- A placement at a station where the turret does not stand is not verified. -/
theorem placedVerification_elsewhere {p : Placement} {s : State}
    (away : s.photo.turret ≠ .standing (s.stationMap p.station)) :
    placedVerification (some p) s = .unverified := by
  unfold placedVerification
  split
  · next p' q code e turret _ =>
    cases e
    exact if_neg fun here => away (by rw [turret, here])
  · rfl

/-- The part with the record placed and the request posted. -/
def placedState (ch : ChannelId) (b : Block) (i : FontSlot) (p : Option Placement) (s : State) : State :=
  (s.fresh.modFont i fun x => { x with placement := p, verification := placedVerification p s }).posts ch
    { code := 0x12, block := b } .done (BitVec.ofNat 16 (placedVerification p s).toNat) []

theorem placedState_font (ch : ChannelId) (b : Block) (i : FontSlot) (p : Option Placement) (s : State) :
    (placedState ch b i p s).font i =
      { s.font i with placement := p, verification := placedVerification p s } := by
  rw [placedState, State.posts_font, State.font_modFont_self, State.fresh_font]

section Addressed

variable {s : State} {ch : ChannelId} {b : Block} {a : PlaceArgs} {i : FontSlot} (ready : s.readyFor ch)
  (fits : b.payload.length ≤ 1024) (parsed : parsePlaceFont b.payload = some a)
  (found : s.address a.selector b.target.toNat = some i)
include ready fits parsed found

/-- PLACE FONT is the placement and its report to Exposure Control (R143). -/
theorem placeFont_reports :
    exec (.placeFont ch b) s = .next (react (placementChanged i (placedState ch b i a.placement s))) := by
  have handed : ((s.fresh.waits ch { code := 0x12, block := b }).modFont i fun r =>
      { r with placement := a.placement, verification := placedVerification a.placement s }).handed ch
        { code := 0x12, block := b } :=
    (State.handed_congr rfl).2 (State.waits_handed _ ((State.readyFor_congr rfl).2 ready))
  refine (requestEvent_ready ready _ _ fits).trans (congrArg (fun t : State => (.next (react t) : Answer)) ?_)
  refine (ownerTakes_placeFont ..).trans
    ((placeFontReported_addressed (s := s.fresh.waits ch _) parsed found).trans (congrArg (placementChanged i) ?_))
  refine (finish_handed handed _ _).trans ?_
  exact posts_waits ch { code := 0x12, block := b } _ _ _ _ (s.fresh.modFont i fun x =>
    { x with placement := a.placement, verification := placedVerification a.placement s })

theorem placeFont_settles
    (h : (∀ q, s.photo.flash = some q → q.slot ≠ i) ∨ s.activeGlyph = none) :
    EventTo (exec (.placeFont ch b) s) s (placedState ch b i a.placement s) := by
  have stays : placementChanged i (placedState ch b i a.placement s) = placedState ch b i a.placement s :=
    placementChanged_stays h
  refine eventTo_of_settled ((placeFont_reports ready fits parsed found).trans (by rw [stays])) ?_
  have k : (s.fresh.modFont i fun x => { x with
      placement := a.placement, verification := placedVerification a.placement s }).readyFor ch :=
    (State.readyFor_congr rfl).2 ready
  rw [placedState, settled_posts k, settled_modFont, settled_fresh]

end Addressed

/-- Settles O14: the placement is reported to Exposure Control, which decides the glyph again where the request armed is
one of the record. -/
theorem placeFontSetsThePlacementAndItsVerification : Obligations.PlaceFontSetsThePlacementAndItsVerification := by
  refine ⟨fun s ch b ready fits => ⟨fun parsed => ?_, fun a parsed none_ => ?_⟩, ?_⟩
  · exact request_refused ready fits fun t _ => placeFontReported_unparsed parsed
  · refine request_refused ready fits fun t ht => placeFontReported_unaddressed parsed ?_
    subst ht; exact none_
  intro s ch b a i ready fits parsed found exposed v hv placed
  have verification : v = placedVerification a.placement s := by
    rw [hv]; unfold placedVerification verifyCode; rfl
  have state : placed = placedState ch b i a.placement s := by
    simp only [placed, placedState, ← verification]
    cases v <;> rfl
  rw [state]
  constructor
  · intro h
    refine placeFont_settles ready fits parsed found (h.imp_right fun none_ => ?_)
    rw [Option.eq_none_iff_forall_not_mem]
    rintro ⟨l, g⟩ active
    exact none_ l g (activeGlyph_eq_some.mp active)
  intro q l g flash slot ⟨work, hold, glyph⟩
  have decides : exec (.placeFont ch b) s =
      .next (react (glyphDecision l g (withdrawFlash (placedState ch b i a.placement s)))) := by
    rw [placeFont_reports ready fits parsed found, placementChanged_decides (s := placedState ch b i a.placement s)
      (activeGlyph_of_exposed work hold glyph) flash slot]
  refine ⟨decides, fun own loaded => ⟨_, decides, fun none_ => ?_, fun p hp away calm => ?_⟩⟩
  all_goals
    set u := withdrawFlash (placedState ch b i a.placement s) with hu
    have font : u.font g.slot =
        { s.font i with placement := a.placement, verification := placedVerification a.placement s } := by
      rw [own]; exact placedState_font ch b i a.placement s
  · rw [glyphDecision_unplaced (s := u) loaded (by rw [font]; exact none_)]
    exact takeHold_at hold rfl
  · rw [glyphDecision_elsewhere (s := u) (p := p) loaded (by rw [font]; exact hp) away
      (by rw [font, hp, placedVerification_elsewhere away]; simp) calm]
    have drives := turretStep_drives (l := l) (g := g) (p := p)
      (s := (setStep l .decision u).modExposure fun e => { e with note := false }) hold away
    refine ⟨drives, ?_⟩
    rw [turretStep, if_neg]
    · rfl
    · exact away

end Sys2Proof.Machine
end

section
/-! PROOF. The turret (O38): its arrivals, falls and timeouts (R126 to R128), and what they mean for the line in exposure
(R15, R141, R143). -/

namespace Sys2Proof.Machine

/-! ### The lines of the turret -/

theorem getLsbD_putBit {w : Nat} (i j : Nat) (b : Bool) (x : BitVec w) (hi : i < w) :
    (putBit i b x).getLsbD j = if j = i then b else x.getLsbD j := by
  unfold putBit
  by_cases e : j = i
  · subst e; cases b <;> simp [hi]
  · have : ¬ (j - i = 0 ∧ i ≤ j) := by omega
    cases b <;> simp [e] <;> grind

/-- A line brought to a level has it, and the other lines keep theirs. -/
theorem conditioned_setConditioned (bit j : Nat) (level : Bool) (s : State) (h : bit < 15) :
    (s.setConditioned bit level).conditioned j = if j = bit then level else s.conditioned j := by
  have inversion : (s.setConditioned bit level).inversion = s.inversion := rfl
  simp only [State.conditioned, inversion, BitVec.getLsbD_xor]
  simp only [State.setConditioned, State.modSensors, getLsbD_putBit _ _ _ _ h]
  split_ifs with e
  · subst e; simp
  · rfl

/-- The part with TURRET_READY true and the station and the code on their lines. -/
def turretLines (q : Station) (code : BitVec 4) (s : State) : State :=
  (setTurretLines q code s).setConditioned (sensorBit .turretReady) true

theorem setTurretLines_eq (q : Station) (code : BitVec 4) (s : State) :
    setTurretLines q code s =
      (((((s.setConditioned 3 (q.val.testBit 0)).setConditioned 4 (q.val.testBit 1)).setConditioned 5
        (code.getLsbD 0)).setConditioned 6 (code.getLsbD 1)).setConditioned 7 (code.getLsbD 2)).setConditioned 8
        (code.getLsbD 3) := by
  have two : List.finRange 2 = [0, 1] := by decide
  have four : List.finRange 4 = [0, 1, 2, 3] := by decide
  simp [setTurretLines, two, four, sensorBit]

theorem setConditioned_only {bit : Nat} {level : Bool} {s t : State} (h : ∃ x, t = { s with sensors := x }) :
    ∃ x, t.setConditioned bit level = { s with sensors := x } := by
  obtain ⟨x, rfl⟩ := h
  exact ⟨_, rfl⟩

theorem turretLines_only (q : Station) (code : BitVec 4) (s : State) :
    ∃ x, turretLines q code s = { s with sensors := x } := by
  rw [turretLines, setTurretLines_eq]
  iterate 7 refine setConditioned_only ?_
  exact ⟨s.sensors, rfl⟩

theorem turretLines_station (q : Station) (code : BitVec 4) (s : State) : (turretLines q code s).turretPosLines = q := by
  rw [turretLines, setTurretLines_eq]
  simp only [State.turretPosLines, sensorBit, conditioned_setConditioned, show (2 : Nat) < 15 from by omega,
    show (3 : Nat) < 15 from by omega, show (4 : Nat) < 15 from by omega, show (5 : Nat) < 15 from by omega,
    show (6 : Nat) < 15 from by omega, show (7 : Nat) < 15 from by omega, show (8 : Nat) < 15 from by omega]
  fin_cases q <;> rfl

theorem turretLines_code (q : Station) (code : BitVec 4) (s : State) : (turretLines q code s).discCodeLines = code := by
  have line : ∀ i, i < 4 → (turretLines q code s).discCodeLines.getLsbD i = (turretLines q code s).conditioned (5 + i) := by
    intro i hi
    simp [State.discCodeLines, State.conditioned, hi]
  apply BitVec.eq_of_getLsbD_eq
  intro i hi
  rw [line i hi, turretLines, setTurretLines_eq]
  simp only [sensorBit, conditioned_setConditioned, show (2 : Nat) < 15 from by omega,
    show (3 : Nat) < 15 from by omega, show (4 : Nat) < 15 from by omega, show (5 : Nat) < 15 from by omega,
    show (6 : Nat) < 15 from by omega, show (7 : Nat) < 15 from by omega, show (8 : Nat) < 15 from by omega]
  interval_cases i <;> simp

/-! ### The arrival (R127) -/

theorem verifyAt_font (q : Station) (code : BitVec 4) (s : State) (i : FontSlot) :
    (verifyAt q code s).font i =
      match (s.font i).placement with
      | some p => if (s.font i).inUse && s.stationMap p.station == q then
          { s.font i with verification := verifyCode p code } else s.font i
      | none => s.font i := by
  simp only [verifyAt, State.font, vget_vmap] <;> rfl

theorem verifyAt_font_placed {q : Station} {code : BitVec 4} {s : State} {i : FontSlot} {p : Placement}
    (hp : (s.font i).placement = some p) (used : (s.font i).state ≠ .empty) (at_ : s.stationMap p.station = q) :
    (verifyAt q code s).font i = { s.font i with verification := if p.code = code then .verified else .mismatch } := by
  simp [verifyAt_font, hp, FontRecord.inUse, used, at_, verifyCode]

theorem verifyAt_font_elsewhere {q : Station} {code : BitVec 4} {s : State} {i : FontSlot}
    (h : (s.font i).placement = none ∨ (s.font i).state = .empty ∨
      ∃ p, (s.font i).placement = some p ∧ s.stationMap p.station ≠ q) : (verifyAt q code s).font i = s.font i := by
  rw [verifyAt_font]
  split
  · next p hp =>
    rcases h with h | h | ⟨p', hp', away⟩
    · cases hp.symm.trans h
    · simp [FontRecord.inUse, h]
    · cases hp.symm.trans hp'
      simp [away]
  · rfl

theorem stationMap_congr {s t : State} (h : t.config = s.config) (l : Fin 4) : t.stationMap l = s.stationMap l := by
  simp only [State.stationMap, State.setting, State.entry, h]

theorem verifyAt_fonts_congr {s t : State} (q : Station) (code : BitVec 4) (fonts : t.fonts = s.fonts)
    (config : t.config = s.config) : (verifyAt q code t).fonts = (verifyAt q code s).fonts := by
  simp only [verifyAt, fonts, stationMap_congr config]

theorem turretArrives_eq (q : Station) (code : BitVec 4) (s : State) :
    turretArrives q code s =
      { s with fonts := (verifyAt q code s).fonts,
               photo := { s.photo with turret := .standing q, latched := some code, turretTimer := none,
                                       lockWatch := if s.photo.disc = .locked then none else some s.lockTime } } := by
  have lockTime : ∀ t : State, t.config = s.config → t.lockTime = s.lockTime := fun t h => by
    simp only [State.lockTime, State.setting1, State.setting, State.entry, h]
  set u := s.modPhoto fun p => { p with latched := some code, turret := .standing q, turretTimer := none } with hu
  have fonts : (verifyAt q code u).fonts = (verifyAt q code s).fonts := verifyAt_fonts_congr q code rfl rfl
  have only : verifyAt q code u = { u with fonts := (verifyAt q code s).fonts } := by rw [← fonts]; rfl
  rw [turretArrives, ← hu, only, startLockWatch]
  simp only [hu, State.modPhoto, lockTime]

/-- The part at the arrival, before Exposure Control or the visits hear of it. -/
def arrivalState (q : Station) (code : BitVec 4) (s : State) : State := turretArrives q code (turretLines q code s)

theorem arrivalState_eq (q : Station) (code : BitVec 4) (s : State) :
    ∃ x, arrivalState q code s =
      { s with fonts := (verifyAt q code s).fonts, sensors := x,
               photo := { s.photo with turret := .standing q, latched := some code, turretTimer := none,
                                       lockWatch := if s.photo.disc = .locked then none else some s.lockTime } } := by
  obtain ⟨x, hx⟩ := turretLines_only q code s
  refine ⟨x, ?_⟩
  have lockTime : ({ s with sensors := x } : State).lockTime = s.lockTime := by
    simp only [State.lockTime, State.setting1, State.setting, State.entry]
  rw [arrivalState, turretArrives_eq, hx, verifyAt_fonts_congr (s := s) q code _ _, lockTime] <;> rfl

theorem arrivalState_font (q : Station) (code : BitVec 4) (s : State) (i : FontSlot) :
    (arrivalState q code s).font i = (verifyAt q code s).font i := by
  obtain ⟨x, hx⟩ := arrivalState_eq q code s
  rw [hx]; rfl

theorem turretArrival_unreported {q : Station} {code : BitVec 4} {s : State}
    (h : s.photo.turret = .unknown ∨ s.photo.turretExpired = true ∨ ∃ p, s.photo.turret = .moving p none)
    (moving : s.photo.turret.isStanding = false) : turretArrival q code s = arrivalState q code s := by
  obtain ⟨x, hx⟩ := turretLines_only q code s
  have photo : (turretLines q code s).photo = s.photo := by rw [hx]
  rw [turretArrival, show (setTurretLines q code s).setConditioned (sensorBit .turretReady) true = _ from
    (rfl : _ = turretLines q code s), turretRises, photo, turretLines_station, turretLines_code]
  split
  · next turret => rw [turret] at moving; cases moving
  · rfl
  · next target requester turret =>
    split
    · next p r =>
      rcases h with h | h | ⟨p', h⟩
      · cases turret.symm.trans h
      · exact if_pos h
      · cases turret.symm.trans h
    · rfl

theorem turretArrival_reported {p q : Station} {r : Requester} {code : BitVec 4} {s : State}
    (turret : s.photo.turret = .moving (some p) (some r)) (intime : s.photo.turretExpired = false) :
    turretArrival q code s = reportToRequester r (q == p) (arrivalState q code s) := by
  obtain ⟨x, hx⟩ := turretLines_only q code s
  have photo : (turretLines q code s).photo = s.photo := by rw [hx]
  rw [turretArrival, show (setTurretLines q code s).setConditioned (sensorBit .turretReady) true = _ from
    (rfl : _ = turretLines q code s), turretRises, photo, turretLines_station, turretLines_code, turret, intime]
  rfl

theorem exec_turretArrival {q : Station} {code : BitVec 4} {s : State} (moving : s.photo.turret.isStanding = false) :
    exec (.turretArrival q code) s = .next (react (turretArrival q code s.fresh)) := by
  simp only [exec, execTurretArrival, moving]
  exact eventReact_true _ _

theorem settled_arrivalState (q : Station) (code : BitVec 4) (s : State) :
    (arrivalState q code s).settled = s.settled := by
  obtain ⟨x, hx⟩ := arrivalState_eq q code s
  rw [hx]
  apply settled_of_fields <;> simp only [State.galley, State.exposureIdle, implies_true]

/-! ### What the report means for the line in exposure (R141, R143) -/

theorem turretReport_wrong {l : LineWork} {g : SetGlyph} {s : State} (active : s.activeGlyph = some (l, g))
    (step : l.step = .turret) : turretReport false s = takeHold .turretJam s := by
  simp [turretReport, active, step]

theorem turretReport_correct {l : LineWork} {g : SetGlyph} {s : State} (active : s.activeGlyph = some (l, g))
    (step : l.step = .turret) : turretReport true s = turretReached l g s := by
  simp [turretReport, active, step]

theorem turretReached_mismatch {l : LineWork} {g : SetGlyph} {s : State} (h : (s.font g.slot).verification = .mismatch) :
    turretReached l g s = takeHold .discMismatch (setStep l .decision s) := by
  rw [turretReached, h]

theorem turretReached_verified {l : LineWork} {g : SetGlyph} {s : State} (h : (s.font g.slot).verification = .verified) :
    turretReached l g s = lensStep l g s := by
  rw [turretReached, h]

theorem turretReached_unverified {l : LineWork} {g : SetGlyph} {s : State}
    (h : (s.font g.slot).verification = .unverified) : turretReached l g s = glyphDecision l g s := by
  rw [turretReached, h]

/-- Nothing of the turret, the disc, the film, the fonts, the store or the channels has changed. -/
def TurretKept (s t : State) : Prop :=
  t.photo.turret = s.photo.turret ∧ t.photo.latched = s.photo.latched ∧ t.photo.turretTimer = s.photo.turretTimer ∧
  t.photo.lockWatch = s.photo.lockWatch ∧ t.photo.disc = s.photo.disc ∧ t.film = s.film ∧ t.store = s.store ∧
  t.channels = s.channels ∧ t.fonts = s.fonts

theorem TurretKept.trans {s t u : State} (h : TurretKept s t) (k : TurretKept t u) : TurretKept s u := by
  unfold TurretKept at *
  simp_all

theorem turretKept_commandCarriage (x : Nat) (s : State) : TurretKept s (commandCarriage x s) := by
  unfold commandCarriage
  dsimp only
  (repeat' split) <;> exact ⟨rfl, rfl, rfl, rfl, rfl, rfl, rfl, rfl, rfl⟩

theorem commandCarriage_config (x : Nat) (s : State) : (commandCarriage x s).config = s.config := by
  unfold commandCarriage
  dsimp only
  (repeat' split) <;> rfl

section Positioning

variable {l : LineWork} {g : SetGlyph} {p : Placement} {x : LensPos} {s : State}
  (hp : (s.font g.slot).placement = some p) (hx : s.lensFor g.size = some x)
include hp hx

theorem turretKept_carriageStep : TurretKept s (carriageStep l g s) := by
  set u := commandCarriage g.x (setStep l .carriage s) with hu
  have command : TurretKept s u := turretKept_commandCarriage g.x (setStep l .carriage s)
  have font : u.font g.slot = s.font g.slot := by
    obtain ⟨-, -, -, -, -, -, -, -, fonts⟩ := command
    rw [State.font, fonts, State.font]
  have lens : u.lensFor g.size = some x := (lensFor_congr (commandCarriage_config ..) _).trans hx
  rw [carriageStep, ← hu, shutterStep_arms (by rw [font]; exact hp) lens]
  split
  · exact command.trans ⟨rfl, rfl, rfl, rfl, rfl, rfl, rfl, rfl, rfl⟩
  · exact command

theorem turretKept_lensStep : TurretKept s (lensStep l g s) := by
  set u := setStep l .lens (s.modExposure fun e => { e with turretAt := s.photo.turret.station }) with hu
  have start : TurretKept s u := ⟨rfl, rfl, rfl, rfl, rfl, rfl, rfl, rfl, rfl⟩
  have lens : u.lensFor g.size = some x := (lensFor_congr rfl _).trans hx
  rw [lensStep, ← hu, lens]
  dsimp only
  split
  · exact start.trans (turretKept_carriageStep (s := u) hp lens)
  · exact start.trans ⟨rfl, rfl, rfl, rfl, rfl, rfl, rfl, rfl, rfl⟩

end Positioning

/-- What a lens command does depends on the photo unit, the configuration and the pulses alone. -/
theorem lensCommanded_congr {l : LineWork} {g : SetGlyph} {p : Placement} {x : LensPos} {s u t : State}
    (lens : u.photo.lens = s.photo.lens) (carriage : u.photo.carriage = s.photo.carriage)
    (position : u.photo.position = s.photo.position) (config : u.config = s.config) (pulses : u.pulses = s.pulses)
    (h : LensCommanded l g p x u t) : LensCommanded l g p x s t := by
  have time : u.lensTime = s.lensTime := by
    simp only [State.lensTime, State.setting1, State.setting, State.entry, config]
  unfold LensCommanded at *
  rw [lens, pulses, time] at h
  split_ifs at h ⊢ with standing
  · obtain ⟨stands, none_, command⟩ := h
    exact ⟨stands, none_, carriageCommanded_congr carriage position config command⟩
  · exact h

/-! ### Falls and timeouts (R126, R128) -/

theorem stationLost_unexposed {s : State} (h : s.exposure.work.isLine = false) : stationLost s = s := by
  have none_ : s.activeGlyph = none := by
    rw [Option.eq_none_iff_forall_not_mem]
    rintro ⟨l, g⟩ active
    obtain ⟨work, -, -⟩ := activeGlyph_eq_some.mp active
    rw [work] at h
    cases h
  rw [stationLost, none_]

theorem stationLost_past {l : LineWork} {g : SetGlyph} {s : State} (active : s.activeGlyph = some (l, g))
    (past : l.step.pastTurret = true) : stationLost s = takeHold .turretJam (setStep l .turret s) := by
  simp [stationLost, active, past]

/-- A hold is a matter of the exposure, the film, the flash request and its delay, which it cancels. -/
theorem takeHold_only (r : HoldReason) (s : State) : ∃ e f a q d, (d = none ∨ d = s.photo.delay) ∧
    takeHold r s = { s with exposure := e, film := f, attn := a, photo := { s.photo with flash := q, delay := d } } := by
  by_cases h : s.exposure.hold.isSome
  · exact ⟨_, _, _, _, _, .inr rfl, takeHold_of_isSome h⟩
  · exact ⟨_, _, _, _, _, .inl rfl, takeHold_of_none (by simpa using h)⟩

theorem stationLost_only (s : State) : ∃ e f a q d, (d = none ∨ d = s.photo.delay) ∧
    stationLost s = { s with exposure := e, film := f, attn := a, photo := { s.photo with flash := q, delay := d } } := by
  unfold stationLost
  split
  · split
    · next l _ _ _ =>
      obtain ⟨e, f, a, q, d, hd, ht⟩ := takeHold_only .turretJam (setStep l .turret s)
      exact ⟨e, f, a, q, d, hd, ht⟩
    · exact ⟨_, _, _, _, _, .inr rfl, rfl⟩
  · exact ⟨_, _, _, _, _, .inr rfl, rfl⟩

/-- The part at an uncommanded move start. -/
def strayState (s : State) : State :=
  (turretMoveStart (s.setConditioned (sensorBit .turretReady) false)).modPhoto fun p =>
    { p with turret := .moving none none, turretTimer := none, turretExpired := false }

theorem exec_turretReadyFall {s : State} (standing : ∀ p r, s.photo.turret ≠ .moving p r) :
    exec .turretReadyFall s = .next (stationLost (strayState s.fresh)) := by
  simp only [exec, execTurretReadyFall, event_true, turretFalls]
  split
  · next p r moving => exact absurd moving (standing p r)
  · rfl

theorem turretTimesOut_unrequested {s : State} (h : ∀ p r, s.photo.turret ≠ .moving p (some r)) :
    turretTimesOut s = s.modPhoto fun p => { p with turretTimer := none, turretExpired := true } := by
  unfold turretTimesOut
  split
  · next p r moving => exact absurd moving (h p r)
  · rfl

theorem turretTimesOut_exposure {s : State} {p : Option Station} (h : s.photo.turret = .moving p (some .exposure)) :
    turretTimesOut s =
      turretReport false (s.modPhoto fun p => { p with turretTimer := none, turretExpired := true }) := by
  simp only [turretTimesOut, h, reportToRequester]

section Exposed

variable {s : State} {p q : Station} {code : BitVec 4} {l : LineWork} {g : SetGlyph}
  (turret : s.photo.turret = .moving (some p) (some .exposure)) (intime : s.photo.turretExpired = false)
  (work : s.exposure.work = .line l) (hold : s.exposure.hold = none) (glyph : l.glyph = some g) (step : l.step = .turret)
include turret intime work hold glyph step

theorem exec_turretArrival_exposed : exec (.turretArrival q code) s =
    .next (react (if q = p then turretReached l g (arrivalState q code s.fresh)
      else takeHold .turretJam (arrivalState q code s.fresh))) := by
  obtain ⟨x, hx⟩ := arrivalState_eq q code s.fresh
  have active : (arrivalState q code s.fresh).activeGlyph = some (l, g) :=
    activeGlyph_of_exposed (by rw [hx]; exact work) (by rw [hx]; exact hold) glyph
  rw [exec_turretArrival (by rw [turret]; rfl), turretArrival_reported (s := s.fresh) turret intime]
  by_cases here : q = p
  · rw [if_pos here, ← turretReport_correct active step, beq_iff_eq.mpr here]; rfl
  · rw [if_neg here, ← turretReport_wrong active step, beq_eq_false_iff_ne.mpr here]; rfl

end Exposed

/-! ### The obligation -/

/-- Settles O38: an arrival is the arrival state, with its report where the move has a requester and time is left. -/
theorem turretArrivalsFallsAndTimeouts : Obligations.TurretArrivalsFallsAndTimeouts := by
  refine ⟨?_, ?_, ?_, ?_, ?_, ?_⟩
  · intro s q code moving unreported
    obtain ⟨x, hx⟩ := arrivalState_eq q code s.fresh
    refine ⟨arrivalState q code s.fresh, eventTo_of_settled ?_ ?_, ?_, fun i => ⟨fun p hp used at_ => ?_, fun h => ?_⟩⟩
    · rw [exec_turretArrival moving, turretArrival_unreported (s := s.fresh) unreported moving]
    · rw [settled_arrivalState, settled_fresh]
    · rw [hx]; rfl
    · rw [arrivalState_font]; exact verifyAt_font_placed (s := s.fresh) hp used at_
    · rw [arrivalState_font]; exact verifyAt_font_elsewhere (s := s.fresh) h
  · intro s p q code l g turret intime wrong work hold glyph step
    have arises := exec_turretArrival_exposed (q := q) (code := code) turret intime work hold glyph step
    obtain ⟨x, hx⟩ := arrivalState_eq q code s.fresh
    generalize arrivalState q code s.fresh = u at arises hx
    obtain ⟨held, reason, raised, -⟩ := takeHold_at (l := l) (st := l.step) (r := .turretJam) (s := u)
      (by rw [hx]; exact hold) (by rw [hx]; exact work)
    obtain ⟨e, f, a, r, d, -, only⟩ := takeHold_only .turretJam u
    exact ⟨_, arises.trans (by rw [if_neg wrong]), by rw [only, hx], reason, held.trans work.symm, raised⟩
  · intro s p code l g f turret intime work hold glyph step hp used at_ differs
    have arises := exec_turretArrival_exposed (q := p) (code := code) turret intime work hold glyph step
    have font := verifyAt_font_placed (q := p) (code := code) (s := s.fresh) hp used at_
    rw [← arrivalState_font] at font
    obtain ⟨x, hx⟩ := arrivalState_eq p code s.fresh
    generalize arrivalState p code s.fresh = u at arises hx font
    rw [if_pos rfl, turretReached_mismatch (by rw [font]; exact if_neg differs)] at arises
    obtain ⟨held, reason, -⟩ := takeHold_at (l := l) (st := .decision) (r := .discMismatch) (s := setStep l .decision u)
      (show u.exposure.hold = none by rw [hx]; exact hold) rfl
    obtain ⟨e, f, a, r, d, -, only⟩ := takeHold_only .discMismatch (setStep l .decision u)
    exact ⟨_, arises, by rw [only, hx]; rfl, reason, held⟩
  · intro s q code l g p turret intime work hold glyph step hp used arrived
    have arises := exec_turretArrival_exposed (q := q) (code := code) turret intime work hold glyph step
    rw [if_pos rfl] at arises
    obtain ⟨x, hx⟩ := arrivalState_eq q code s.fresh
    constructor
    · intro y at_ same lens
      have font := verifyAt_font_placed (q := q) (code := code) (s := s.fresh) hp used at_
      rw [← arrivalState_font] at font
      generalize arrivalState q code s.fresh = u at arises hx font
      have verified : (u.font g.slot).verification = .verified := by rw [font]; exact if_pos same
      have placed : (u.font g.slot).placement = some p := by rw [font]; exact hp
      have lens' : u.lensFor g.size = some y := by rw [lensFor_congr (s := s) (by rw [hx]; rfl), lens]
      obtain ⟨turret', latched, timer, watch, disc, film, store, channels, fonts⟩ :=
        turretKept_lensStep (l := l) placed lens'
      refine ⟨_, arises.trans (by rw [turretReached_verified verified]),
        ⟨turret'.trans ?_, latched.trans ?_, timer.trans ?_, watch.trans ?_, disc.trans ?_, film.trans ?_,
          store.trans ?_, channels.trans ?_⟩, ?_, ?_⟩
      case refine_9 => rw [State.font, fonts]; exact verified
      case refine_10 =>
        refine lensCommanded_congr ?_ ?_ ?_ ?_ ?_ (lensStep_commands placed lens' (by rw [hx]; exact hold)) <;>
          rw [hx]
      all_goals rw [hx] <;> rfl
    · intro away unverified
      have font := verifyAt_font_elsewhere (q := q) (code := code) (s := s.fresh) (i := g.slot)
        (.inr (.inr ⟨p, hp, away⟩))
      rw [← arrivalState_font] at font
      generalize arrivalState q code s.fresh = u at arises hx font
      refine ⟨u, arises.trans (by rw [turretReached_unverified (by rw [font]; exact unverified)]), ?_, ?_, font, ?_, ?_⟩
      · refine ⟨?_, ?_, ?_, ?_, ?_, ?_, ?_, ?_⟩ <;> rw [hx] <;> rfl
      all_goals rw [hx]; rfl
  · intro s standing
    obtain ⟨e, f, a, r, d, hd, only⟩ := stationLost_only (strayState s.fresh)
    refine ⟨_, exec_turretReadyFall standing, ?_, ?_, ?_, ?_, ?_, ?_, ?_, ?_, ?_, fun unexposed => ?_, ?_⟩
    · rw [only]; rfl
    · rw [only]; rfl
    · rw [only]; rfl
    · rw [only]; exact hd.elim id id
    · rw [only]; rfl
    · rw [only]; rfl
    · rw [only]; rfl
    · rw [only]; rfl
    · rw [only]; rfl
    · rw [stationLost_unexposed (s := strayState s.fresh) unexposed]; rfl
    · intro l g work hold glyph past
      rw [stationLost_past (s := strayState s.fresh) (activeGlyph_of_exposed work hold glyph) past]
      obtain ⟨held, reason, -, flash, -⟩ := takeHold_at (l := l) (st := .turret) (r := .turretJam)
        (s := setStep l .turret (strayState s.fresh)) hold rfl
      exact ⟨reason, held, flash⟩
  · intro s runs
    have arises : exec .turretTimeout s = .next (react (turretTimesOut s.fresh)) := by
      simp only [exec, execTurretTimeout, runs]
      exact eventReact_true _ _
    refine ⟨fun unrequested => ?_, fun p l g turret work hold glyph step => ?_⟩
    · refine eventTo_of_settled (arises.trans (by rw [turretTimesOut_unrequested (s := s.fresh) unrequested])) ?_
      apply settled_of_fields <;> intros <;> rfl
    · set u := s.fresh.modPhoto fun p => { p with turretTimer := none, turretExpired := true } with hu
      obtain ⟨held, reason, raised, -⟩ := takeHold_at (l := l) (st := l.step) (r := .turretJam) (s := u) hold work
      obtain ⟨e, f, a, r, d, -, only⟩ := takeHold_only .turretJam u
      refine ⟨takeHold .turretJam u, eventTo_of_settled (arises.trans ?_) ?_, ?_, ?_, reason, held.trans work.symm, raised⟩
      · rw [turretTimesOut_exposure (s := s.fresh) turret, turretReport_wrong (s := u) (activeGlyph_of_exposed work hold glyph) step]
      · have idle : (takeHold .turretJam u).exposureIdle = s.exposureIdle := by
          simp [State.exposureIdle, held, reason, work]
        refine settled_of_fields ?_ ?_ idle ?_ ?_ ?_ ?_ ?_ <;> rw [only] <;> intros <;> rfl
      · rw [only]; rfl
      · rw [only]; rfl

end Sys2Proof.Machine
end

section
/-! SUPPORT. Requests answered together (R30, R43, R167): which channels an event completes, and with what. The channels of
held amends, waiting texts and a free film move are pairwise distinct where no channel has two requests with owners. -/

namespace Sys2Proof.Machine

/-! ### Completions of several channels -/

/-- From `s` to `t` no channel changes but those of `chs`, whose requests complete as `how` says where each is named
once. -/
def Answers (how : ChannelId → Completion → Half → Prop) (chs : List ChannelId) (s t : State) : Prop :=
  (∀ ch, ch ∉ chs → t.channel ch = s.channel ch) ∧
  (chs.Nodup → ∀ ch ∈ chs, ∃ c d, how ch c d ∧ t.channel ch = (s.channel ch).completed c d [])

/-- The requests complete with `c` and the detail `d`. -/
def answeringWith (c : Completion) (d : Half) : ChannelId → Completion → Half → Prop :=
  fun _ c' d' => c' = c ∧ d' = d

/-- The requests complete with `c` and some detail. -/
def answering (c : Completion) : ChannelId → Completion → Half → Prop := fun _ c' _ => c' = c

theorem Answers.of_channels {how : ChannelId → Completion → Half → Prop} {s t : State} (h : t.channels = s.channels) :
    Answers how [] s t :=
  ⟨fun ch _ => by rw [State.channel, h, State.channel], fun _ _ h => absurd h List.not_mem_nil⟩

theorem Answers.congr {how : ChannelId → Completion → Half → Prop} {chs : List ChannelId} {s s' t t' : State}
    (h : Answers how chs s t) (hs : s'.channels = s.channels) (ht : t'.channels = t.channels) : Answers how chs s' t' := by
  simpa only [Answers, State.channel, hs, ht] using h

theorem Answers.append {how : ChannelId → Completion → Half → Prop} {c1 c2 : List ChannelId} {s t u : State}
    (h1 : Answers how c1 s t) (h2 : Answers how c2 t u) : Answers how (c1 ++ c2) s u := by
  obtain ⟨other1, done1⟩ := h1
  obtain ⟨other2, done2⟩ := h2
  refine ⟨fun ch out => ?_, fun once ch hit => ?_⟩
  · obtain ⟨out1, out2⟩ := not_or.mp (List.mem_append.not.mp out)
    rw [other2 ch out2, other1 ch out1]
  · obtain ⟨once1, once2, apart⟩ := List.nodup_append'.mp once
    rcases List.mem_append.mp hit with hit | hit
    · obtain ⟨c, d, ok, e⟩ := done1 once1 ch hit
      exact ⟨c, d, ok, by rw [other2 ch (apart hit), e]⟩
    · obtain ⟨c, d, ok, e⟩ := done2 once2 ch hit
      exact ⟨c, d, ok, by rw [e, other1 ch fun h => apart h hit]⟩

theorem answers_complete {how : ChannelId → Completion → Half → Prop} {ch : ChannelId} {c : Completion} {d : Half}
    (ok : how ch c d) (s : State) : Answers how [ch] s (complete ch c d [] s) := by
  refine ⟨fun x out => ?_, fun _ x hit => ?_⟩
  · rw [complete_channel, if_neg (by simpa using out)]
  · obtain rfl := List.mem_singleton.mp hit
    exact ⟨c, d, ok, by rw [complete_channel, if_pos rfl]⟩

theorem answers_completeUnstated (ch : ChannelId) (c : Completion) (s : State) :
    Answers (answering c) [ch] s (completeUnstated ch c s) :=
  (answers_complete (how := answering c) (ch := ch) (d := Config.unstatedDetail s.free) rfl s).congr rfl rfl

/-- Work on a list of items, each answering the channels that it brings. -/
theorem answers_foldl {α : Type} {how : ChannelId → Completion → Half → Prop} {f : State → α → State}
    {brings : α → List ChannelId} (step : ∀ x s, Answers how (brings x) s (f s x)) (l : List α) (s : State) : Answers how (l.flatMap brings) s (l.foldl f s) := by
  induction l generalizing s with
  | nil => exact .of_channels rfl
  | cons x rest ih =>
    rw [List.flatMap_cons]
    exact (step x s).append (ih _)

/-- An answered channel is one that is completed. -/
theorem Answers.answered {how : ChannelId → Completion → Half → Prop} {chs : List ChannelId} {s t : State}
    (h : Answers how chs s t) (once : chs.Nodup) {ch : ChannelId} (hit : ch ∈ chs) :
    ∃ c d, how ch c d ∧ s.answered t ch c d := by
  obtain ⟨c, d, ok, e⟩ := h.2 once ch hit
  exact ⟨c, d, ok, answered_of_completed e⟩

/-! ### The channels of waiting texts -/

/-- The channels of the texts that wait for a galley (R29). -/
def Galley.waitingChannels (x : Galley) : List ChannelId := x.waiting.map (·.channel)

theorem Galley.mem_waitingChannels {x : Galley} {ch : ChannelId} :
    ch ∈ x.waitingChannels ↔ ∃ w ∈ x.waiting, w.channel = ch := List.mem_map

theorem answers_refuseTexts (ts : List WaitingText) (s : State) :
    Answers (answeringWith .wrongState 0) (ts.map (·.channel)) s (refuseTexts ts s) := by
  rw [List.map_eq_flatMap]
  exact answers_foldl (fun w s => answers_complete ⟨rfl, rfl⟩ s) ts s

theorem answers_resetTexts (ts : List WaitingText) (s : State) :
    Answers (answering .reset) (ts.map (·.channel)) s (resetTexts ts s) := by
  rw [List.map_eq_flatMap]
  exact answers_foldl (fun w s => answers_completeUnstated w.channel .reset s) ts s

/-! ### Requests held once (R167) -/

/-- The work is a free film move that channel `ch` brought. -/
def ExposureWork.freeMoveOf (w : ExposureWork) : Option ChannelId :=
  match w with
  | .advanceFilm ch _ | .cutFilm ch _ => some ch
  | .none | .line _ | .gap _ | .cut _ _ => Option.none

theorem heldBy_freeMove (w : ExposureWork) :
    (match w with | .advanceFilm ch _ | .cutFilm ch _ => [ch] | _ => []) = w.freeMoveOf.toList := by
  cases w <;> rfl

/-- The channels of the waiting texts of all galleys. -/
def State.waitingChannels (s : State) : List ChannelId := (List.finRange 8).flatMap fun g => (s.galley g).waitingChannels

theorem State.mem_waitingChannels {s : State} {ch : ChannelId} :
    ch ∈ s.waitingChannels ↔ ∃ g, ∃ w ∈ (s.galley g).waiting, w.channel = ch := by
  simp [State.waitingChannels, Galley.mem_waitingChannels]

/-- The channels of the held amends. -/
def State.amendChannels (s : State) : List ChannelId :=
  (List.finRange 32).filterMap fun i => (s.font i).amend.map (·.channel)

theorem State.mem_amendChannels {s : State} {ch : ChannelId} :
    ch ∈ s.amendChannels ↔ ∃ i a, (s.font i).amend = some a ∧ a.channel = ch := by
  simp [State.amendChannels]

theorem heldBy_eq (s : State) : ∃ dictionary visit, s.heldBy =
    s.amendChannels ++ (s.waitingChannels ++ (dictionary ++ (visit ++ s.exposure.work.freeMoveOf.toList))) := by
  refine ⟨((List.finRange 2).filter fun ch => (vget s.dict.presented ch).isSome) ++
    (match s.dict.running with | some (.request ch _ _ _) => [ch] | _ => []) ++ (s.dict.purge.map (·.channel)).toList,
    (s.photo.verify.map (·.channel)).toList, ?_⟩
  rw [← heldBy_freeMove]
  simp only [State.heldBy, List.append_assoc] <;> rfl

theorem HeldOnce.apart {s : State} (h : HeldOnce s) :
    s.waitingChannels.Nodup ∧ List.Disjoint s.amendChannels s.waitingChannels ∧
    List.Disjoint s.amendChannels s.exposure.work.freeMoveOf.toList ∧
    List.Disjoint s.waitingChannels s.exposure.work.freeMoveOf.toList := by
  obtain ⟨dictionary, visit, e⟩ := heldBy_eq s
  have nodup := h.1
  rw [e] at nodup
  simp only [List.nodup_append', List.disjoint_append_right] at nodup
  obtain ⟨-, ⟨waiting, -, -, -, waitMove⟩, amendWait, -, -, amendMove⟩ := nodup
  exact ⟨waiting, amendWait, amendMove, waitMove⟩

theorem HeldOnce.waiting_nodup {s : State} (h : HeldOnce s) (g : GalleyId) : (s.galley g).waitingChannels.Nodup :=
  (List.nodup_flatMap.mp h.apart.1).1 g (List.mem_finRange g)

theorem HeldOnce.amend_ne_waiting {s : State} (h : HeldOnce s) {i : FontSlot} {a : HeldAmend} {g : GalleyId}
    {w : WaitingText} (ha : (s.font i).amend = some a) (hw : w ∈ (s.galley g).waiting) : a.channel ≠ w.channel := by
  obtain ⟨-, apart, -⟩ := h.apart
  exact fun e => apart (State.mem_amendChannels.mpr ⟨i, a, ha, rfl⟩) (State.mem_waitingChannels.mpr ⟨g, w, hw, e.symm⟩)

end Sys2Proof.Machine
end

section
/-! PROOF. The composition reset (O60), block by block (R179): the catalogue (R21), the galleys (R43), Exposure Control
(R153) and the others. -/

namespace Sys2Proof.Machine

/-! ### The catalogue (R21) -/

/-- The record with its counts at 0. -/
def FontRecord.uncounted (r : FontRecord) : FontRecord := { r with lineRefs := 0, currentRefs := 0, partialRefs := 0 }

theorem FontRecord.uncounted_applied {r : FontRecord} {a : HeldAmend} :
    r.uncounted.applied = some a ↔ r.state = .live ∧ r.amend = some a := by
  rw [FontRecord.applied_eq_some]
  simp [FontRecord.uncounted]

theorem resetFont_font (i j : FontSlot) (s : State) :
    (resetFont s i).font j = if j = i then (s.font i).uncounted.examined else s.font j := by
  rw [resetFont, examine_font, State.font_modFont_self]
  split_ifs with e
  · rfl
  · rw [State.font_modFont_ne _ _ (Ne.symm e)]

theorem resetFont_channel (i : FontSlot) (ch : ChannelId) (s : State) :
    (resetFont s i).channel ch =
      match (s.font i).uncounted.applied with
      | some a => if ch = a.channel then (s.channel ch).amended a (s.font i).revision else s.channel ch
      | none => s.channel ch := by
  rw [resetFont, examine_channel, State.font_modFont_self]
  rfl

theorem recordsOnly_resetFont (i : FontSlot) (s : State) : RecordsOnly s (resetFont s i) :=
  (RecordsOnly.modFont ..).trans (recordsOnly_examine i _)

theorem foldl_resetFont_font {is : List FontSlot} (once : is.Nodup) (j : FontSlot) (s : State) :
    (is.foldl resetFont s).font j = if j ∈ is then (s.font j).uncounted.examined else s.font j := by
  induction is generalizing s with
  | nil => rfl
  | cons i rest ih =>
    obtain ⟨hi, hr⟩ := List.nodup_cons.mp once
    rw [List.foldl_cons, ih hr, resetFont_font]
    by_cases e : j = i
    · subst e; simp [hi]
    · simp [e]

theorem catalogueReset_font (s : State) (j : FontSlot) :
    (catalogueReset s).font j = (s.font j).uncounted.examined := by
  rw [catalogueReset, foldl_resetFont_font (List.nodup_finRange 32), if_pos (List.mem_finRange j)]

theorem recordsOnly_catalogueReset (s : State) : RecordsOnly s (catalogueReset s) :=
  .foldl recordsOnly_resetFont _ s

theorem foldl_resetFont_channel_other {is : List FontSlot} (once : is.Nodup) {ch : ChannelId} {s : State}
    (other : ∀ j ∈ is, ∀ a, (s.font j).amend = some a → a.channel ≠ ch) :
    (is.foldl resetFont s).channel ch = s.channel ch := by
  induction is generalizing s with
  | nil => rfl
  | cons i rest ih =>
    obtain ⟨hi, hr⟩ := List.nodup_cons.mp once
    rw [List.foldl_cons, ih hr, resetFont_channel]
    · cases h : (s.font i).uncounted.applied with
      | none => rfl
      | some a => exact if_neg (Ne.symm (other i List.mem_cons_self a (FontRecord.uncounted_applied.mp h).2))
    · intro j hj a ha
      rw [resetFont_font, if_neg (ne_of_mem_of_not_mem hj hi)] at ha
      exact other j (List.mem_cons_of_mem _ hj) a ha

/-- The amend of a LIVE record is applied, and its request completes with the new revision. -/
theorem foldl_resetFont_channel_applied {is : List FontSlot} (once : is.Nodup) {s : State} (apart : AmendsApart s)
    {i : FontSlot} (hi : i ∈ is) {a : HeldAmend} (live : (s.font i).state = .live) (held : (s.font i).amend = some a) :
    (is.foldl resetFont s).channel a.channel = (s.channel a.channel).amended a (s.font i).revision := by
  induction is generalizing s with
  | nil => cases hi
  | cons k rest ih =>
    obtain ⟨hk, hr⟩ := List.nodup_cons.mp once
    have elsewhere : ∀ j, j ≠ k → (resetFont s k).font j = s.font j := fun j ne => by rw [resetFont_font, if_neg ne]
    rw [List.foldl_cons]
    by_cases e : i = k
    · subst e
      rw [foldl_resetFont_channel_other hr, resetFont_channel, FontRecord.uncounted_applied.mpr ⟨live, held⟩]
      · exact if_pos rfl
      · intro j hj b hb
        have ne : j ≠ i := fun e => hk (e ▸ hj)
        rw [elsewhere j ne] at hb
        exact apart j i b a hb held ne
    · have apart' : AmendsApart (resetFont s k) := apart.of_subset fun j b hb => by
        rw [resetFont_font] at hb
        split_ifs at hb with same
        · subst same; exact (FontRecord.examined_amend hb :)
        · exact hb
      rw [ih hr apart' (by simpa [e] using hi) (by rw [elsewhere i e, live]) (by rw [elsewhere i e, held]),
        elsewhere i e, resetFont_channel]
      cases h : (s.font k).uncounted.applied with
      | none => rfl
      | some b =>
        have ne := apart i k a b held (FontRecord.uncounted_applied.mp h).2 e
        simp [ne]

/-! ### The galleys (R43) -/

/-- Galleys, channels and the count of free values, and nothing else, have changed. -/
def GalleysOnly (s t : State) : Prop := t = { s with galleys := t.galleys, channels := t.channels, free := t.free }

theorem GalleysOnly.trans {s t u : State} (h1 : GalleysOnly s t) (h2 : GalleysOnly t u) : GalleysOnly s u := by
  unfold GalleysOnly at *
  rw [h2, h1]

theorem GalleysOnly.exists {s t : State} (h : GalleysOnly s t) :
    ∃ x c f, t = { s with galleys := x, channels := c, free := f } := ⟨_, _, _, h⟩

theorem galleysOnly_foldl {α : Type} {f : State → α → State} (h : ∀ x s, GalleysOnly s (f s x)) (xs : List α)
    (s : State) : GalleysOnly s (xs.foldl f s) := by
  induction xs generalizing s with
  | nil => rfl
  | cons x rest ih => exact (h x s).trans (ih _)

theorem galleysOnly_complete (ch : ChannelId) (c : Completion) (d : Half) (bytes : List Byte) (s : State) :
    GalleysOnly s (complete ch c d bytes s) := by
  rw [complete_eq]; rfl

theorem galleysOnly_completeUnstated (ch : ChannelId) (c : Completion) (s : State) :
    GalleysOnly s (completeUnstated ch c s) := (galleysOnly_complete ..).trans rfl

theorem galleysOnly_resetTexts (ts : List WaitingText) (s : State) : GalleysOnly s (resetTexts ts s) :=
  galleysOnly_foldl (f := fun s (w : WaitingText) => completeUnstated w.channel .reset s)
    (fun w s => galleysOnly_completeUnstated w.channel .reset s) ts s

theorem resetTexts_galleys (ts : List WaitingText) (s : State) : (resetTexts ts s).galleys = s.galleys := by
  unfold resetTexts
  induction ts generalizing s with
  | nil => rfl
  | cons w rest ih => rw [List.foldl_cons, ih, completeUnstated, complete_eq]; rfl

/-- The galley that the reset leaves. -/
def Galley.afterReset (x : Galley) : Galley :=
  { x with state := .closed, font := none, pendingReverse := 0, buffer := [], waiting := [], seq := 0, sticky := 0,
           builder := Builder.blank }

theorem resetGalley_galley (g h : GalleyId) (s : State) :
    (resetGalley s g).galley h = if h = g then (s.galley g).afterReset else s.galley h := by
  rw [resetGalley, State.galley, resetTexts_galleys]
  split_ifs with e
  · subst e; exact State.galley_modGalley_self ..
  · exact State.galley_modGalley_ne _ _ (Ne.symm e)

theorem galleysOnly_resetGalley (g : GalleyId) (s : State) : GalleysOnly s (resetGalley s g) :=
  (show GalleysOnly s (s.modGalley g _) from rfl).trans (galleysOnly_resetTexts ..)

theorem galleysOnly_galleysReset (s : State) : GalleysOnly s (galleysReset s) :=
  galleysOnly_foldl galleysOnly_resetGalley _ s

theorem foldl_resetGalley_galley {gs : List GalleyId} (once : gs.Nodup) (h : GalleyId) (s : State) :
    (gs.foldl resetGalley s).galley h = if h ∈ gs then (s.galley h).afterReset else s.galley h := by
  induction gs generalizing s with
  | nil => rfl
  | cons g rest ih =>
    obtain ⟨hg, hr⟩ := List.nodup_cons.mp once
    rw [List.foldl_cons, ih hr, resetGalley_galley]
    by_cases e : h = g
    · subst e; simp [hg]
    · simp [e]

theorem galleysReset_galley (s : State) (g : GalleyId) : (galleysReset s).galley g = (s.galley g).afterReset := by
  rw [galleysReset, foldl_resetGalley_galley (List.nodup_finRange 8), if_pos (List.mem_finRange g)]

theorem answers_resetGalley (g : GalleyId) (s : State) :
    Answers (answering .reset) (s.galley g).waitingChannels s (resetGalley s g) := by
  rw [resetGalley]
  exact Answers.congr (s := s.modGalley g _) (answers_resetTexts _ _) rfl rfl

theorem answers_foldl_resetGalley {gs : List GalleyId} (each : gs.Nodup) (s : State) :
    Answers (answering .reset) (gs.flatMap fun g => (s.galley g).waitingChannels) s (gs.foldl resetGalley s) := by
  induction gs generalizing s with
  | nil => exact .of_channels rfl
  | cons g rest ih =>
    obtain ⟨hg, hr⟩ := List.nodup_cons.mp each
    have same : ∀ h ∈ rest, ((resetGalley s g).galley h).waitingChannels = (s.galley h).waitingChannels :=
      fun h hh => by rw [resetGalley_galley, if_neg (ne_of_mem_of_not_mem hh hg)]
    have tail := ih hr (resetGalley s g)
    rw [List.flatMap_congr same] at tail
    exact (answers_resetGalley g s).append tail

theorem answers_galleysReset (s : State) : Answers (answering .reset) s.waitingChannels s (galleysReset s) :=
  answers_foldl_resetGalley (List.nodup_finRange 8) s

/-! ### The other blocks (R46, R76, R84, R115, R134, R153, R163) -/

theorem resetFreeMove_of_none {s : State} (h : s.exposure.work.freeMoveOf = none) : resetFreeMove s = s := by
  unfold resetFreeMove
  split <;> simp_all [ExposureWork.freeMoveOf]

theorem resetFreeMove_of_some {s : State} {ch : ChannelId} (h : s.exposure.work.freeMoveOf = some ch) :
    resetFreeMove s = completeUnstated ch .reset s := by
  unfold resetFreeMove
  cases w : s.exposure.work <;> simp_all [ExposureWork.freeMoveOf]

theorem answers_resetFreeMove (s : State) :
    Answers (answering .reset) s.exposure.work.freeMoveOf.toList s (resetFreeMove s) := by
  cases h : s.exposure.work.freeMoveOf with
  | none => rw [resetFreeMove_of_none h]; exact .of_channels rfl
  | some ch => rw [resetFreeMove_of_some h]; exact answers_completeUnstated ch .reset s

theorem galleysOnly_resetFreeMove (s : State) : GalleysOnly s (resetFreeMove s) := by
  cases h : s.exposure.work.freeMoveOf with
  | none => rw [resetFreeMove_of_none h]; rfl
  | some ch => rw [resetFreeMove_of_some h]; exact galleysOnly_completeUnstated ch .reset s

theorem resetFreeMove_galleys (s : State) : (resetFreeMove s).galleys = s.galleys := by
  cases h : s.exposure.work.freeMoveOf with
  | none => rw [resetFreeMove_of_none h]
  | some ch => rw [resetFreeMove_of_some h, completeUnstated, complete_eq]; rfl

/-- The blocks between the galleys and Exposure Control. -/
def middleReset (s : State) : State := photoReset (dictionaryReset (engineReset s))

theorem compositionReset_eq (s : State) : compositionReset s =
    proofReset (exposureReset (middleReset (galleysReset (catalogueReset (storeReset s))))) := rfl

/-- The part after a composition reset, but for the records, the galleys, the channels and the free values. -/
theorem compositionReset_only (s : State) : ∃ x f, compositionReset s =
    { s with
      fonts := (catalogueReset (storeReset s)).fonts, galleys := (galleysReset (catalogueReset (storeReset s))).galleys,
      channels := x, free := f, engine := Engine.powerOn, dict := (dictionaryReset s).dict, store := Store.blank,
      photo := (photoReset s).photo, exposure := Exposure.powerOn, film := (stopFilm s).film,
      proof := (proofReset s).proof } := by
  have records := recordsOnly_catalogueReset (storeReset s)
  have texts := galleysOnly_galleysReset (catalogueReset (storeReset s))
  have move := galleysOnly_resetFreeMove (middleReset (galleysReset (catalogueReset (storeReset s))))
  have kept := resetFreeMove_galleys (middleReset (galleysReset (catalogueReset (storeReset s))))
  rw [compositionReset_eq, exposureReset]
  generalize resetFreeMove _ = w at move kept ⊢
  generalize galleysReset _ = v at texts move kept ⊢
  generalize catalogueReset _ = u at records texts ⊢
  obtain ⟨y, c, rfl⟩ : ∃ y c, u = { storeReset s with fonts := y, channels := c } := ⟨_, _, records⟩
  obtain ⟨x, c, f, rfl⟩ := texts.exists
  obtain ⟨x', c, f, rfl⟩ := move.exists
  obtain rfl : x' = x := kept
  exact ⟨c, f, rfl⟩

theorem compositionReset_font (s : State) (i : FontSlot) :
    (compositionReset s).font i = (s.font i).uncounted.examined := by
  obtain ⟨x, f, only⟩ := compositionReset_only s
  have record := catalogueReset_font (storeReset s) i
  rw [show (storeReset s).font i = s.font i from rfl] at record
  rw [State.font, only, ← record, State.font]

theorem compositionReset_galley (s : State) (g : GalleyId) :
    (compositionReset s).galley g = (s.galley g).afterReset := by
  obtain ⟨x, f, only⟩ := compositionReset_only s
  have galley := galleysReset_galley (catalogueReset (storeReset s)) g
  have before : (catalogueReset (storeReset s)).galley g = s.galley g := by
    obtain ⟨y, c, e⟩ : ∃ y c, catalogueReset (storeReset s) = { storeReset s with fonts := y, channels := c } :=
      ⟨_, _, recordsOnly_catalogueReset (storeReset s)⟩
    rw [e]; rfl
  rw [before] at galley
  rw [State.galley, only, ← galley, State.galley]

/-! ### The requests that were held (R21, R30, R43, R153) -/

theorem proofReset_exposureReset_channels (s : State) :
    (proofReset (exposureReset s)).channels = (resetFreeMove s).channels := rfl

theorem middleReset_channels (s : State) : (middleReset s).channels = s.channels := rfl

theorem middleReset_work (s : State) : (middleReset s).exposure.work = s.exposure.work := rfl

/-- The part with the records reset. -/
def recordsReset (s : State) : State := catalogueReset (storeReset s)

theorem recordsReset_only (s : State) : ∃ y c, recordsReset s = { storeReset s with fonts := y, channels := c } :=
  ⟨_, _, recordsOnly_catalogueReset (storeReset s)⟩

theorem recordsReset_waitingChannels (s : State) : (recordsReset s).waitingChannels = s.waitingChannels := by
  obtain ⟨y, c, e⟩ := recordsReset_only s
  rw [e]
  simp only [State.waitingChannels, State.galley, storeReset, State.modStore]

/-- Beyond the amends, a composition reset answers the waiting texts and then a free film move with RESET. -/
theorem answers_compositionReset (s : State) :
    Answers (answering .reset) (s.waitingChannels ++ s.exposure.work.freeMoveOf.toList) (recordsReset s)
      (compositionReset s) := by
  have texts := answers_galleysReset (recordsReset s)
  rw [recordsReset_waitingChannels] at texts
  have work : (middleReset (galleysReset (recordsReset s))).exposure.work = s.exposure.work := by
    obtain ⟨y, c, e⟩ := recordsReset_only s
    obtain ⟨x, c, f, e'⟩ := (galleysOnly_galleysReset (recordsReset s)).exists
    rw [middleReset_work, e', e]; rfl
  have film := answers_resetFreeMove (middleReset (galleysReset (recordsReset s)))
  rw [work] at film
  refine texts.append (film.congr (middleReset_channels _).symm ?_)
  rw [compositionReset_eq, proofReset_exposureReset_channels, recordsReset]

theorem recordsReset_channel_other {s : State} {ch : ChannelId}
    (other : ∀ i a, (s.font i).amend = some a → a.channel ≠ ch) : (recordsReset s).channel ch = s.channel ch :=
  foldl_resetFont_channel_other (s := storeReset s) (List.nodup_finRange 32) fun i _ => other i

theorem recordsReset_channel_applied {s : State} (apart : AmendsApart s) {i : FontSlot} {a : HeldAmend}
    (live : (s.font i).state = .live) (held : (s.font i).amend = some a) :
    (recordsReset s).channel a.channel = (s.channel a.channel).amended a (s.font i).revision :=
  foldl_resetFont_channel_applied (s := storeReset s) (List.nodup_finRange 32) apart (List.mem_finRange i) live held

/-- The channel of no amend, no waiting text and no free film move stays, whatever is held twice. -/
theorem compositionReset_channel_other {s : State} {ch : ChannelId}
    (amends : ∀ i a, (s.font i).amend = some a → a.channel ≠ ch)
    (texts : ∀ g, ∀ w ∈ (s.galley g).waiting, w.channel ≠ ch) (move : s.exposure.work.freeMoveOf ≠ some ch) :
    (compositionReset s).channel ch = s.channel ch := by
  obtain ⟨other, -⟩ := answers_compositionReset s
  rw [other ch ?_, recordsReset_channel_other amends]
  simp only [List.mem_append, State.mem_waitingChannels, Option.mem_toList, not_or]
  exact ⟨fun ⟨g, w, hw, e⟩ => texts g w hw e, move⟩

/-- The amends applied, the texts that waited and the free film move are answered once each. -/
theorem compositionReset_answers {s : State} (once : HeldOnce s) :
    (∀ i a, (s.font i).state = .live → (s.font i).amend = some a →
      s.answered (compositionReset s) a.channel (if a.clamped then .doneClamped else .done)
        (((s.font i).revision + 1).setWidth 16)) ∧
    ∀ ch, ch ∈ s.waitingChannels ++ s.exposure.work.freeMoveOf.toList →
      ∃ detail, s.answered (compositionReset s) ch .reset detail := by
  obtain ⟨waiting, amendWait, amendMove, waitMove⟩ := once.apart
  obtain ⟨other, done⟩ := answers_compositionReset s
  have move : s.exposure.work.freeMoveOf.toList.Nodup := by cases s.exposure.work.freeMoveOf <;> simp
  constructor
  · intro i a live held
    have mine : a.channel ∈ s.amendChannels := State.mem_amendChannels.mpr ⟨i, a, held, rfl⟩
    apply answered_of_completed
    rw [other a.channel fun hit => (List.mem_append.mp hit).elim (amendWait mine) (amendMove mine),
      recordsReset_channel_applied once.amendsApart live held]
    rfl
  · intro ch hit
    obtain ⟨c, d, rfl, e⟩ := done (List.nodup_append'.mpr ⟨waiting, move, waitMove⟩) ch hit
    refine ⟨d, answered_of_completed ?_⟩
    rw [e, recordsReset_channel_other]
    intro i a held same
    have mine : ch ∈ s.amendChannels := State.mem_amendChannels.mpr ⟨i, a, held, same⟩
    exact (List.mem_append.mp hit).elim (amendWait mine) (amendMove mine)

/-! ### The records and the work -/

theorem FontRecord.uncounted_examined_idle {r : FontRecord} (live : r.state = .live) (idle : r.amend = none) :
    r.uncounted.examined = r.uncounted := by
  rw [FontRecord.examined_of_live (r := r.uncounted) live, show r.uncounted.amend = none from idle]

theorem FontRecord.uncounted_examined_held {r : FontRecord} {a : HeldAmend} (live : r.state = .live)
    (held : r.amend = some a) : r.uncounted.examined = r.uncounted.amended a.parts := by
  rw [FontRecord.examined_of_live (r := r.uncounted) live, show r.uncounted.amend = some a from held]
  rfl

theorem FontRecord.uncounted_examined_gone {r : FontRecord} (h : r.state ≠ .live) :
    r.uncounted.examined.state = .empty := by
  cases e : r.state with
  | empty => rw [FontRecord.examined_of_empty (r := r.uncounted) e]; exact e
  | live => exact absurd e h
  | retiring => rw [FontRecord.examined_of_retiring (r := r.uncounted) e]; rfl

theorem withdrawExposure_of_exposure (p : Option Station) :
    (Turret.moving p (some .exposure)).withdrawExposure = .moving p none := rfl

theorem withdrawExposure_of_other {t : Turret} (h : ∀ p, t ≠ .moving p (some .exposure)) : t.withdrawExposure = t := by
  unfold Turret.withdrawExposure
  split
  · next p => exact absurd rfl (h p)
  · rfl

theorem dictionaryReset_lookup {s : State} {core : List Nat} {w : Bool}
    (h : s.dict.running = some (.lookup core w)) :
    (dictionaryReset s).dict.running = some (.lookup core false) := by
  simp [dictionaryReset, State.modDict, h]

theorem dictionaryReset_other {s : State} (h : ∀ core w, s.dict.running ≠ some (.lookup core w)) :
    (dictionaryReset s).dict.running = s.dict.running := by
  cases running : s.dict.running with
  | none => simp [dictionaryReset, State.modDict, running]
  | some operation =>
    cases operation with
    | lookup core w => exact absurd running (h core w)
    | request | bucket => simp [dictionaryReset, State.modDict, running]

theorem freeMoveOf_eq_some {w : ExposureWork} {ch : ChannelId} :
    w.freeMoveOf = some ch ↔ (∃ target, w = .advanceFilm ch target) ∨ ∃ step, w = .cutFilm ch step := by
  cases w <;> simp [ExposureWork.freeMoveOf]

theorem freeMoveOf_of_not_isFreeMove {w : ExposureWork} (h : w.isFreeMove = false) : w.freeMoveOf = none := by
  cases w <;> simp_all [ExposureWork.freeMoveOf, ExposureWork.isFreeMove]

theorem channels_ext {s t : State} (h : ∀ ch, t.channel ch = s.channel ch) : t.channels = s.channels :=
  Vector.ext fun i hi => h ⟨i, hi⟩

/-- Settles O60, block by block; the requests that owners hold are answered once where each channel brought one. -/
theorem compositionResetStopsTheWork : Obligations.CompositionResetStopsTheWork := by
  intro s index
  obtain ⟨x, f, only⟩ := compositionReset_only s.fresh
  have font : ∀ i, (compositionReset s.fresh).font i = (s.font i).uncounted.examined := compositionReset_font s.fresh
  have galley : ∀ g, (compositionReset s.fresh).galley g = (s.galley g).afterReset := compositionReset_galley s.fresh
  have other : ∀ ch, (∀ i a, (s.font i).amend = some a → a.channel ≠ ch) →
      (∀ g, ∀ w ∈ (s.galley g).waiting, w.channel ≠ ch) → s.exposure.work.freeMoveOf ≠ some ch →
      (compositionReset s.fresh).channel ch = s.channel ch := fun ch =>
    compositionReset_channel_other (s := s.fresh)
  refine ⟨compositionReset s.fresh, ?_, galley, ?_⟩
  · simp only [exec, execCompositionReset, State.cfgIndex, index]
    exact eventReact_true _ _
  refine ⟨?_, ?_, fun i live idle => ?idle, fun i a live held => ?held, fun i gone => ?gone, ?_,
    fun p turret => ?withdrawn, fun turret => ?kept, ?_, ?_, ?_, ?_, ?_, ?_, ?_, fun core w running => ?lookup,
    fun running => ?others, ?_, ?_, ?_, ?_, ?_, ?_, fun once => ?requests, fun amends texts move => ?unheld,
    fun ch amends texts advance cut => ?channel⟩
  case idle => rw [font, FontRecord.uncounted_examined_idle live idle]; rfl
  case held => rw [font, FontRecord.uncounted_examined_held live held]; rfl
  case gone => rw [font]; exact FontRecord.uncounted_examined_gone gone
  case withdrawn => rw [only]; exact (congrArg _ turret).trans (withdrawExposure_of_exposure p)
  case kept => rw [only]; exact withdrawExposure_of_other turret
  case lookup => rw [only]; exact dictionaryReset_lookup (s := s.fresh) running
  case others => rw [only]; exact dictionaryReset_other (s := s.fresh) running
  case requests =>
    obtain ⟨applied, reset⟩ := compositionReset_answers (s := s.fresh) once
    refine ⟨applied, fun g w hw => reset _ ?_, fun ch target work => reset _ ?_, fun ch step work => reset _ ?_⟩
    · exact List.mem_append_left _ (State.mem_waitingChannels.mpr ⟨g, w, hw, rfl⟩)
    · exact List.mem_append_right _ (Option.mem_toList.mpr (freeMoveOf_eq_some.mpr (.inl ⟨target, work⟩)))
    · exact List.mem_append_right _ (Option.mem_toList.mpr (freeMoveOf_eq_some.mpr (.inr ⟨step, work⟩)))
  case unheld =>
    refine channels_ext fun ch => other ch ?_ ?_ ?_
    · intro i a held; rw [amends i] at held; cases held
    · intro g w hw; rw [texts g] at hw; cases hw
    · rw [freeMoveOf_of_not_isFreeMove move]; simp
  case channel =>
    refine other ch amends texts fun h => ?_
    rcases freeMoveOf_eq_some.mp h with ⟨target, work⟩ | ⟨step, work⟩
    · exact advance target work
    · exact cut step work
  -- the other fields are those of the equation
  all_goals rw [only] <;> rfl

end Sys2Proof.Machine
end

section
/-! SUPPORT. Stored lines that leave (R109, R110, R112) and the close of a galley (R33, R48): what they do to the store and
the galleys, and what they report to the catalogue (R6, R7). -/

namespace Sys2Proof.Machine

/-! ### Records and the store -/

/-- The records, the channels and the lines of the store, and nothing else, have changed. -/
def LinesOnly (s t : State) : Prop :=
  t = { s with fonts := t.fonts, channels := t.channels,
               store := { s.store with slots := t.store.slots, order := t.store.order } }

theorem LinesOnly.trans {s t u : State} (h1 : LinesOnly s t) (h2 : LinesOnly t u) : LinesOnly s u := by
  unfold LinesOnly at *
  rw [h2, h1]

theorem LinesOnly.of_recordsOnly {s t : State} (h : RecordsOnly s t) : LinesOnly s t := by
  unfold RecordsOnly at h
  unfold LinesOnly
  rw [h]

theorem LinesOnly.exists {s t : State} (h : LinesOnly s t) : ∃ y c slots order,
    t = { s with fonts := y, channels := c, store := { s.store with slots := slots, order := order } } :=
  ⟨_, _, _, _, h⟩

/-! ### One line -/

@[simp] theorem dropLine_lineAt (i k : LineSlot) (g : GalleyId) (s : State) :
    (dropLine i g s).lineAt k = if k = i then none else s.lineAt k := by
  split_ifs with e
  · subst e; simp [dropLine, State.lineAt]
  · simp [dropLine, State.lineAt, vget_vset_ne _ _ _ _ (Ne.symm e)]

theorem dropLine_linesOf (i : LineSlot) (g h : GalleyId) (s : State) :
    (dropLine i g s).linesOf h = if h = g then (s.linesOf h).filter (· != i) else s.linesOf h := by
  split_ifs with e
  · subst e; simp [dropLine, State.linesOf]
  · simp [dropLine, State.linesOf, vget_vset_ne _ _ _ _ (Ne.symm e)]

@[simp] theorem modLine_lineAt (i k : LineSlot) (f : LineRecord → LineRecord) (s : State) :
    (modLine i f s).lineAt k = if k = i then (s.lineAt i).map f else s.lineAt k := by
  split_ifs with e
  · subst e; simp [modLine, State.lineAt]
  · simp [modLine, State.lineAt, vget_vset_ne _ _ _ _ (Ne.symm e)]

@[simp] theorem modLine_linesOf (i : LineSlot) (f : LineRecord → LineRecord) (g : GalleyId) (s : State) :
    (modLine i f s).linesOf g = s.linesOf g := rfl

theorem lineGone_lineAt (slots : List FontSlot) (k : LineSlot) (s : State) :
    (lineGone slots s).lineAt k = s.lineAt k := (recordsOnly_lineGone slots s).lineAt k

theorem lineGone_linesOf (slots : List FontSlot) (g : GalleyId) (s : State) :
    (lineGone slots s).linesOf g = s.linesOf g := (recordsOnly_lineGone slots s).linesOf g

theorem freeIfDone_kept {i : LineSlot} {s : State} {r : LineRecord} (h : s.lineAt i = some r)
    (wanted : (r.film || r.proof) = true) : freeIfDone i s = s := by
  simp [freeIfDone, h, wanted]

theorem freeIfDone_freed {i : LineSlot} {s : State} {r : LineRecord} (h : s.lineAt i = some r)
    (done : (r.film || r.proof) = false) : freeIfDone i s = lineGone r.fontSlots (dropLine i r.galley s) := by
  simp [freeIfDone, h, done]

/-- A line freed: its slot, its galley's list and the references of its fonts. -/
theorem lineGone_dropLine {k : LineSlot} {r : LineRecord} (s : State) :
    (lineGone r.fontSlots (dropLine k r.galley s)).lineAt k = none ∧
    (lineGone r.fontSlots (dropLine k r.galley s)).linesOf r.galley = (s.linesOf r.galley).filter (· != k) ∧
    ∀ j, RecordAfter (s.font j) ((lineGone r.fontSlots (dropLine k r.galley s)).font j) 0
      (if r.hasGlyphOf j then 1 else 0) 0 0 := by
  refine ⟨by simp [lineGone_lineAt], by simp [lineGone_linesOf, dropLine_linesOf], fun j => ?_⟩
  have after := recordAfter_lineGone (lines := r.fontSlots) (nodup_finRange_filter _) (dropLine k r.galley s) j
  simp only [mem_fontSlots] at after
  exact after

/-! ### Lines discarded by a cancel (R112) -/

/-- A consumer has begun the line. -/
def LineRecord.begun (y : LineRecord) : Bool :=
  y.film && y.filmProgress != .notBegun || y.proof && y.proofProgress != .notBegun

/-- The line with the consumers that have begun it. -/
def LineRecord.begunOnly (y : LineRecord) : LineRecord :=
  { y with film := y.film && y.filmProgress != .notBegun, proof := y.proof && y.proofProgress != .notBegun }

/-- The slot holds a line that no consumer has begun. -/
def State.idleLine (s : State) (k : LineSlot) : Bool := (s.lineAt k).any fun y => !y.begun

/-- The slot holds a line with a glyph of the font. -/
def State.lineUses (s : State) (j : FontSlot) (k : LineSlot) : Bool := (s.lineAt k).any (·.hasGlyphOf j)

/-- What the discarding of some lines leaves. -/
structure LinesDiscarded (is : List LineSlot) (s t : State) : Prop where
  only : LinesOnly s t
  lineAt : ∀ k, t.lineAt k =
    if k ∈ is then (s.lineAt k).bind fun y => if y.begun then some y.begunOnly else none else s.lineAt k
  linesOf : ∀ g, t.linesOf g = (s.linesOf g).filter fun k =>
    !(decide (k ∈ is) && s.idleLine k && (s.lineAt k).any (·.galley == g))
  reported : Reported s t (fun _ => 0) (fun j => ((is.filter s.idleLine).filter (s.lineUses j)).length) (fun _ => 0)
    fun _ => 0

theorem LinesDiscarded.nil (s : State) : LinesDiscarded [] s s where
  only := rfl
  lineAt := fun _ => rfl
  linesOf := fun g => by simp
  reported := .refl s

/-- A slot without a line has nothing to discard. -/
theorem linesDiscarded_free {i : LineSlot} {s : State} (h : s.lineAt i = none) : LinesDiscarded [i] s s where
  only := rfl
  lineAt k := by
    by_cases e : k = i
    · subst e; simp [h]
    · simp [e]
  linesOf g := by
    refine (List.filter_eq_self.mpr fun k _ => ?_).symm
    by_cases e : k = i
    · subst e; simp [State.idleLine, h]
    · simp [e]
  reported := by simpa [State.idleLine, h] using Reported.refl s

/-- A line that a consumer has begun keeps the consumers that have. -/
theorem linesDiscarded_begun {i : LineSlot} {s : State} {y : LineRecord} (h : s.lineAt i = some y)
    (begun : y.begun = true) :
    LinesDiscarded [i] s (modLine i (fun x => { x with film := y.begunOnly.film, proof := y.begunOnly.proof }) s) where
  only := rfl
  lineAt k := by
    by_cases e : k = i
    · subst e; simp [h, begun, LineRecord.begunOnly]
    · simp [e]
  linesOf g := by
    rw [modLine_linesOf]
    refine (List.filter_eq_self.mpr fun k _ => ?_).symm
    by_cases e : k = i
    · subst e; simp [State.idleLine, h, begun]
    · simp [e]
  reported := by
    have none_ : ∀ j, ([i].filter s.idleLine |>.filter (s.lineUses j)).length = 0 := fun j => by
      simp [State.idleLine, h, begun]
    simp only [none_]
    exact (Reported.refl s).congr rfl rfl rfl rfl

/-- A line that no consumer has begun leaves the store, and its fonts lose a reference each. -/
theorem linesDiscarded_idle {i : LineSlot} {s : State} {y : LineRecord} (h : s.lineAt i = some y)
    (idle : y.begun = false) : LinesDiscarded [i] s (lineGone y.fontSlots (dropLine i y.galley s)) where
  only := LinesOnly.trans (t := dropLine i y.galley s) rfl (.of_recordsOnly (recordsOnly_lineGone ..))
  lineAt k := by
    rw [lineGone_lineAt, dropLine_lineAt]
    by_cases e : k = i
    · subst e; simp [h, idle]
    · simp [e]
  linesOf g := by
    rw [lineGone_linesOf, dropLine_linesOf]
    have dead : s.idleLine i = true := by simp [State.idleLine, h, idle]
    split_ifs with own
    · subst own
      refine List.filter_congr fun k _ => ?_
      by_cases e : k = i
      · subst e; simp [dead, h]
      · simp [e]
    · refine (List.filter_eq_self.mpr fun k _ => ?_).symm
      by_cases e : k = i
      · subst e; simp [h, Ne.symm own]
      · simp [e]
  reported := by
    have count : ∀ j, ([i].filter s.idleLine |>.filter (s.lineUses j)).length = if j ∈ y.fontSlots then 1 else 0 :=
      fun j => by by_cases e : y.hasGlyphOf j = true <;> simp [State.idleLine, idle, State.lineUses, h, mem_fontSlots, e]
    simp only [count]
    exact (reported_lineGone (nodup_finRange_filter _) (dropLine i y.galley s)).congr rfl rfl rfl rfl

theorem discardLine_begun {i : LineSlot} {s : State} {y : LineRecord} (h : s.lineAt i = some y)
    (begun : y.begun = true) : discardLine i s =
      (modLine i (fun x => { x with film := y.begunOnly.film, proof := y.begunOnly.proof }) s, 0) := by
  simp only [discardLine, h]
  exact if_pos begun

theorem discardLine_idle {i : LineSlot} {s : State} {y : LineRecord} (h : s.lineAt i = some y)
    (idle : y.begun = false) : discardLine i s = (lineGone y.fontSlots (dropLine i y.galley s), 1) := by
  simp only [discardLine, h]
  exact if_neg fun begun => absurd (idle.symm.trans begun) (by simp)

theorem linesDiscarded_discardLine (i : LineSlot) (s : State) :
    LinesDiscarded [i] s (discardLine i s).1 ∧ (discardLine i s).2 = ([i].filter s.idleLine).length := by
  cases h : s.lineAt i with
  | none => simpa [discardLine, h, State.idleLine] using linesDiscarded_free h
  | some y =>
    cases b : y.begun with
    | true => rw [discardLine_begun h b]; exact ⟨linesDiscarded_begun h b, by simp [State.idleLine, h, b]⟩
    | false => rw [discardLine_idle h b]; exact ⟨linesDiscarded_idle h b, by simp [State.idleLine, h, b]⟩

theorem LinesDiscarded.cons {i : LineSlot} {rest : List LineSlot} (out : i ∉ rest) {s t u : State}
    (h1 : LinesDiscarded [i] s t) (h2 : LinesDiscarded rest t u) : LinesDiscarded (i :: rest) s u := by
  have same : ∀ k ∈ rest, t.lineAt k = s.lineAt k := fun k hk => by
    rw [h1.lineAt, if_neg (by simpa using ne_of_mem_of_not_mem hk out)]
  have idle : ∀ k ∈ rest, t.idleLine k = s.idleLine k := fun k hk => by rw [State.idleLine, same k hk, State.idleLine]
  refine ⟨h1.only.trans h2.only, fun k => ?_, fun g => ?_, ?_⟩
  · rw [h2.lineAt]
    by_cases hk : k ∈ rest
    · simp [hk, same k hk]
    · rw [if_neg hk, h1.lineAt]; simp [hk]
  · rw [h2.linesOf, h1.linesOf, List.filter_filter]
    refine List.filter_congr fun k _ => ?_
    by_cases hk : k ∈ rest
    · have ne : k ≠ i := ne_of_mem_of_not_mem hk out
      simp [hk, ne, idle k hk, same k hk]
    · simp [hk]
  · have sums := h1.reported.trans h2.reported
    have later : ∀ j, ((rest.filter t.idleLine).filter (t.lineUses j)).length =
        ((rest.filter s.idleLine).filter (s.lineUses j)).length := fun j => by
      rw [List.filter_congr idle, List.filter_congr fun k hk => ?_]
      rw [State.lineUses, same k (List.mem_of_mem_filter hk), State.lineUses]
    have split : ∀ j, ((([i].filter s.idleLine).filter (s.lineUses j)).length) +
        ((rest.filter s.idleLine).filter (s.lineUses j)).length =
        ((((i :: rest).filter s.idleLine).filter (s.lineUses j)).length) := fun j => by
      rw [← List.length_append, ← List.filter_append, ← List.filter_append, List.singleton_append]
    simp only [later, split] at sums
    exact sums

/-- The discarding of lines, each once, and the number of those discarded. -/
theorem linesDiscarded_discardLines {is : List LineSlot} (once : is.Nodup) (s : State) :
    LinesDiscarded is s (discardLines is s).1 ∧ (discardLines is s).2 = (is.filter s.idleLine).length := by
  induction is generalizing s with
  | nil => exact ⟨.nil s, rfl⟩
  | cons i rest ih =>
    obtain ⟨hi, hr⟩ := List.nodup_cons.mp once
    obtain ⟨first, n⟩ := linesDiscarded_discardLine i s
    obtain ⟨later, m⟩ := ih hr (discardLine i s).1
    refine ⟨first.cons hi later, ?_⟩
    have idle : ∀ k ∈ rest, (discardLine i s).1.idleLine k = s.idleLine k := fun k hk => by
      rw [State.idleLine, first.lineAt, if_neg (by simpa using ne_of_mem_of_not_mem hk hi), State.idleLine]
    show (discardLine i s).2 + (discardLines rest (discardLine i s).1).2 = _
    rw [n, m, List.filter_congr idle, ← List.length_append, ← List.filter_append, List.singleton_append]

/-! ### The close (R33, R48) -/

/-- The closed galley. -/
def Galley.closed (x : Galley) : Galley :=
  { x with state := .closed, font := none, buffer := [], builder := Builder.blank }

/-- The part with the galley closed, but for what its font's report brings. -/
def closedState (g : GalleyId) (s : State) : State :=
  (releaseResources g (s.modGalley g Galley.closed)).raise (.galleyClosed g)

theorem releaseResources_galley (g h : GalleyId) (s : State) : (releaseResources g s).galley h = s.galley h := rfl

theorem releaseResources_modGalley (g h : GalleyId) (f : Galley → Galley) (s : State) :
    (releaseResources g s).modGalley h f = releaseResources g (s.modGalley h f) := rfl

theorem modGalley_modGalley (g : GalleyId) (f f' : Galley → Galley) (s : State) :
    (s.modGalley g f).modGalley g f' = s.modGalley g (f' ∘ f) := by
  simp [State.modGalley, State.galley]

theorem closeGalley_none {g : GalleyId} {s : State} (h : (s.galley g).font = none) :
    closeGalley g s = closedState g s := by
  have same : { s.galley g with state := .closed, buffer := [], builder := Builder.blank } = (s.galley g).closed := by
    rw [Galley.closed, ← h]
  have closes : s.modGalley g (fun x => { x with state := .closed, buffer := [], builder := Builder.blank }) =
      s.modGalley g Galley.closed := by rw [State.modGalley, same, State.modGalley]
  have font : ((releaseResources g (s.modGalley g Galley.closed)).galley g).font = none := by
    rw [releaseResources_galley, State.galley_modGalley_self, Galley.closed]
  simp only [closeGalley, closes, giveUpFont, font, closedState]

theorem closeGalley_some {g : GalleyId} {s : State} {i : FontSlot} (h : (s.galley g).font = some i) :
    closeGalley g s = (currentGone i (releaseResources g (s.modGalley g Galley.closed))).raise (.galleyClosed g) := by
  have font : ((releaseResources g (s.modGalley g fun x =>
      { x with state := .closed, buffer := [], builder := Builder.blank })).galley g).font = some i := by
    rw [releaseResources_galley, State.galley_modGalley_self, h]
  simp only [closeGalley, giveUpFont, font, releaseResources_modGalley, modGalley_modGalley]
  rfl

theorem recordsOnly_currentGone (i : FontSlot) (s : State) : RecordsOnly s (currentGone i s) :=
  (RecordsOnly.modFont ..).trans (recordsOnly_examine i _)

theorem recordsOnly_closeGalley (g : GalleyId) (s : State) : RecordsOnly (closedState g s) (closeGalley g s) := by
  cases h : (s.galley g).font with
  | none => rw [closeGalley_none h]; exact .refl _
  | some i =>
    have report := recordsOnly_currentGone i (releaseResources g (s.modGalley g Galley.closed))
    rw [closeGalley_some h]
    unfold RecordsOnly at *
    rw [report]
    rfl

/-- R7. A close gives up the current reference of the galley's font. -/
theorem reported_closeGalley (g : GalleyId) (s : State) :
    Reported s (closeGalley g s) (fun _ => 0) (fun _ => 0) (fun _ => 0)
      (fun j => if (s.galley g).font = some j then 1 else 0) := by
  cases h : (s.galley g).font with
  | none =>
    rw [closeGalley_none h]
    simp only [reduceCtorEq, if_false]
    exact (Reported.refl s).congr rfl rfl rfl rfl
  | some i =>
    rw [closeGalley_some h]
    have report := reported_currentGone i (releaseResources g (s.modGalley g Galley.closed))
    simp only [Option.some.injEq, eq_comm (a := i)]
    exact report.congr rfl rfl rfl rfl

theorem closedState_galley (g h : GalleyId) (s : State) :
    (closedState g s).galley h = if h = g then (s.galley g).closed else s.galley h := by
  split_ifs with e
  · subst e; exact State.galley_modGalley_self ..
  · exact State.galley_modGalley_ne _ _ (Ne.symm e)

theorem closedState_raised (g : GalleyId) (s : State) : (closedState g s).raised (.galleyClosed g) = true := by
  simp [closedState, State.raised, State.raise, Attn.mask, Attn.bit]
  omega

end Sys2Proof.Machine
end

section
/-! PROOF. CANCEL GALLEY (O49): the steps of a cancel (R32, R112), the close that may follow at once (R33), and lines freed
by their last consumer (R109, R110). -/

namespace Sys2Proof.Machine

/-! ### Up to the stored lines -/

/-- The galley without its text and its line in progress. -/
def Galley.cancelling (x : Galley) : Galley :=
  { x with state := .cancelling, buffer := [], waiting := [], builder := Builder.blank }

/-- The galley without its text. -/
def Galley.textGone (x : Galley) : Galley := { x with state := .cancelling, buffer := [], waiting := [] }

/-- The galley's text gone, its waiting text refused. -/
def textRefused (g : GalleyId) (s : State) : State :=
  refuseWaiting g (s.modGalley g fun x => { x with state := .cancelling, buffer := [] })

/-- The steps of a cancel before the stored lines. -/
def cancelStart (g : GalleyId) (s : State) : State := stopServing g (emptyBuilder g (textRefused g s))

theorem refuseTexts_only (ts : List WaitingText) (s : State) : ∃ c, refuseTexts ts s = { s with channels := c } := by
  unfold refuseTexts
  induction ts generalizing s with
  | nil => exact ⟨_, rfl⟩
  | cons w rest ih =>
    obtain ⟨c, e⟩ := ih (finish w.channel .wrongState 0 s)
    exact ⟨c, by rw [List.foldl_cons, e, finish, complete_eq]; rfl⟩

theorem textRefused_only (g : GalleyId) (s : State) : ∃ c, textRefused g s =
    { s.modGalley g Galley.textGone with channels := c } := by
  obtain ⟨c, e⟩ := refuseTexts_only (s.galley g).waiting
    (s.modGalley g Galley.textGone)
  refine ⟨c, ?_⟩
  rw [textRefused, refuseWaiting, modGalley_modGalley, State.galley_modGalley_self]
  exact e

theorem answers_textRefused (g : GalleyId) (s : State) :
    Answers (answeringWith .wrongState 0) (s.galley g).waitingChannels s (textRefused g s) := by
  have texts := answers_refuseTexts (s.galley g).waiting
    (s.modGalley g Galley.textGone)
  rw [textRefused, refuseWaiting, modGalley_modGalley, State.galley_modGalley_self]
  exact texts.congr rfl rfl

theorem stopServing_only (g : GalleyId) (s : State) : ∃ e d, stopServing g s = { s with engine := e, dict := d } := by
  unfold stopServing
  (repeat' split) <;> exact ⟨_, _, rfl⟩

theorem stopServing_congr {g : GalleyId} {s t : State} (engine : t.engine = s.engine) (dict : t.dict = s.dict) :
    (stopServing g t).engine = (stopServing g s).engine ∧ (stopServing g t).dict = (stopServing g s).dict := by
  unfold stopServing
  rw [engine]
  (repeat' split) <;> simp [engineIdle, State.modEngine, State.modDict, engine, dict]

theorem emptyBuilder_only (g : GalleyId) (s : State) :
    ∃ y c, emptyBuilder g s = { s.modBuilder g fun _ => Builder.blank with fonts := y, channels := c } :=
  ⟨_, _, recordsOnly_partialGone ..⟩

theorem reported_emptyBuilder (g : GalleyId) (s : State) :
    Reported s (emptyBuilder g s) (fun _ => 0) (fun _ => 0)
      (fun j => if (s.galley g).builder.hasGlyphOf j then 1 else 0) fun _ => 0 := by
  have report := reported_partialGone (slots := (s.galley g).builder.slots) (nodup_finRange_filter _)
    (s.modBuilder g fun _ => Builder.blank)
  simp only [mem_slots] at report
  exact report.congr rfl rfl rfl rfl

theorem cancelStart_only (g : GalleyId) (s : State) : ∃ y c, cancelStart g s =
    { s.modGalley g Galley.cancelling with
      fonts := y, channels := c, engine := (stopServing g s).engine, dict := (stopServing g s).dict } := by
  obtain ⟨c, refused⟩ := textRefused_only g s
  obtain ⟨y, c', emptied⟩ := emptyBuilder_only g (textRefused g s)
  obtain ⟨e, d, stopped⟩ := stopServing_only g (emptyBuilder g (textRefused g s))
  obtain ⟨engine, dict⟩ := stopServing_congr (g := g) (s := s) (t := emptyBuilder g (textRefused g s))
    (by rw [emptied, refused]; rfl) (by rw [emptied, refused]; rfl)
  refine ⟨y, c', ?_⟩
  rw [stopped] at engine dict
  rw [cancelStart, stopped, ← engine, ← dict, emptied, refused]
  have twice : State.modBuilder g (fun _ => Builder.blank)
      (s.modGalley g Galley.textGone) =
      s.modGalley g Galley.cancelling := modGalley_modGalley ..
  rw [← twice]
  rfl

theorem reported_cancelStart (g : GalleyId) (s : State) :
    Reported (textRefused g s) (cancelStart g s) (fun _ => 0) (fun _ => 0)
      (fun j => if (s.galley g).builder.hasGlyphOf j then 1 else 0) fun _ => 0 := by
  obtain ⟨c, refused⟩ := textRefused_only g s
  have builder : ((textRefused g s).galley g).builder = (s.galley g).builder := by
    rw [refused]
    show ((s.modGalley g Galley.textGone).galley g).builder = _
    rw [State.galley_modGalley_self]
    rfl
  have report := reported_emptyBuilder g (textRefused g s)
  rw [builder] at report
  obtain ⟨e, d, stopped⟩ := stopServing_only g (emptyBuilder g (textRefused g s))
  exact report.congr rfl rfl (by rw [cancelStart, stopped]) (by rw [cancelStart, stopped])

/-! ### The stored lines and the queues -/

/-- What a cancel does before the galley may close. -/
structure Cancelled (g : GalleyId) (s t : State) : Prop where
  only : ∃ y c slots order, t = leaveQueues g { s.modGalley g Galley.cancelling with
    fonts := y, channels := c, engine := (stopServing g s).engine, dict := (stopServing g s).dict
    store := { s.store with slots := slots, order := order } }
  lineAt : ∀ k, t.lineAt k = if k ∈ s.linesOf g then
    (s.lineAt k).bind fun y => if y.begun then some y.begunOnly else none else s.lineAt k
  linesOf : ∀ h, t.linesOf h = (s.linesOf h).filter fun k =>
    !(decide (k ∈ s.linesOf g) && s.idleLine k && (s.lineAt k).any (·.galley == h))
  reported : Reported (textRefused g s) t (fun _ => 0)
    (fun j => (((s.linesOf g).filter s.idleLine).filter (s.lineUses j)).length)
    (fun j => if (s.galley g).builder.hasGlyphOf j then 1 else 0) fun _ => 0

theorem cancelled_cancelGalley {g : GalleyId} {s : State} (once : (s.linesOf g).Nodup) :
    Cancelled g s (cancelGalley g s).1 ∧ (cancelGalley g s).2 = ((s.linesOf g).filter s.idleLine).length := by
  obtain ⟨y, c, start⟩ := cancelStart_only g s
  have lineAt : ∀ k, (cancelStart g s).lineAt k = s.lineAt k := fun k => by rw [start]; rfl
  have linesOf : ∀ h, (cancelStart g s).linesOf h = s.linesOf h := fun h => by rw [start]; rfl
  have idle : (cancelStart g s).idleLine = s.idleLine := funext fun k => by rw [State.idleLine, lineAt, State.idleLine]
  have uses : ∀ j, (cancelStart g s).lineUses j = s.lineUses j := fun j =>
    funext fun k => by rw [State.lineUses, lineAt, State.lineUses]
  obtain ⟨discarded, count⟩ := linesDiscarded_discardLines once (cancelStart g s)
  have unfolds : cancelGalley g s = (leaveQueues g (discardLines (s.linesOf g) (cancelStart g s)).1,
      (discardLines (s.linesOf g) (cancelStart g s)).2) := by rw [← linesOf]; rfl
  rw [unfolds]
  rw [idle] at count
  generalize (discardLines (s.linesOf g) (cancelStart g s)).1 = t at discarded ⊢
  refine ⟨⟨?_, fun k => ?_, fun h => ?_, ?_⟩, count⟩
  · obtain ⟨y', c', slots, order, e⟩ := discarded.only.exists
    exact ⟨y', c', slots, order, by rw [e, start]; rfl⟩
  · exact (discarded.lineAt k).trans (by rw [lineAt])
  · exact (discarded.linesOf h).trans (by rw [linesOf, idle]; simp only [lineAt])
  · have sums := (reported_cancelStart g s).trans discarded.reported
    simp only [idle, uses, Nat.zero_add, Nat.add_zero] at sums
    exact sums.congr rfl rfl rfl rfl

namespace Cancelled

variable {g : GalleyId} {s t : State} (h : Cancelled g s t)
include h

theorem galley : t.galley g = (s.galley g).cancelling := by
  obtain ⟨y, c, slots, order, e⟩ := h.only
  rw [e]
  exact State.galley_modGalley_self ..

theorem galley_ne {k : GalleyId} (ne : k ≠ g) : t.galley k = s.galley k := by
  obtain ⟨y, c, slots, order, e⟩ := h.only
  rw [e]
  exact State.galley_modGalley_ne _ _ (Ne.symm ne)

theorem closable : t.closable g = ((t.linesOf g).isEmpty && (s.store.filmHolder != some g || s.store.filmEndDone) &&
    (s.store.paperHolder != some g || s.store.paperEndDone)) := by
  have state : (t.galley g).state = .cancelling := by rw [h.galley]; rfl
  obtain ⟨y, c, slots, order, e⟩ := h.only
  rw [State.closable]
  simp only [state, State.holdsFilm, State.holdsPaper]
  rw [show t.store.filmHolder = s.store.filmHolder by rw [e]; rfl,
    show t.store.paperHolder = s.store.paperHolder by rw [e]; rfl,
    show t.store.filmEndDone = s.store.filmEndDone by rw [e]; rfl,
    show t.store.paperEndDone = s.store.paperEndDone by rw [e]; rfl, Bool.and_assoc]
  rfl

/-- The close's report follows the others. -/
theorem reported_closeAtOnce : Reported (textRefused g s) (closeAtOnce g t) (fun _ => 0)
    (fun j => (((s.linesOf g).filter s.idleLine).filter (s.lineUses j)).length)
    (fun j => if (s.galley g).builder.hasGlyphOf j then 1 else 0)
    (fun j => if t.closable g && (s.galley g).font == some j then 1 else 0) := by
  unfold closeAtOnce
  have font : (t.galley g).font = (s.galley g).font := by rw [h.galley]; rfl
  cases closes : t.closable g with
  | false => simpa using h.reported
  | true =>
    have sums := h.reported.trans (reported_closeGalley g t)
    simpa [font] using sums

end Cancelled

/-! ### The close that may follow -/

theorem closeAtOnce_closes {g : GalleyId} {t : State} (h : t.closable g = true) :
    RecordsOnly (closedState g t) (closeAtOnce g t) := by
  rw [closeAtOnce, if_pos h]
  exact recordsOnly_closeGalley g t

theorem closeAtOnce_stays {g : GalleyId} {t : State} (h : t.closable g = false) : closeAtOnce g t = t := by
  simp [closeAtOnce, h]

/-- A close is a matter of records, channels, galleys, the holders and queues of the store, and a flag. -/
theorem closeAtOnce_only (g : GalleyId) (t : State) : ∃ y c x st a,
    closeAtOnce g t = { t with fonts := y, channels := c, galleys := x, store := st, attn := a } ∧
    st.slots = t.store.slots ∧ st.order = t.store.order := by
  cases h : t.closable g with
  | true =>
    have only := closeAtOnce_closes h
    unfold RecordsOnly at only
    exact ⟨_, _, _, _, _, only, rfl, rfl⟩
  | false => exact ⟨_, _, _, _, _, closeAtOnce_stays h, rfl, rfl⟩

theorem closeAtOnce_lineAt (g : GalleyId) (k : LineSlot) (t : State) : (closeAtOnce g t).lineAt k = t.lineAt k := by
  obtain ⟨y, c, x, st, a, e, slots, -⟩ := closeAtOnce_only g t
  rw [e, State.lineAt, slots, State.lineAt]

theorem closeAtOnce_linesOf (g h : GalleyId) (t : State) : (closeAtOnce g t).linesOf h = t.linesOf h := by
  obtain ⟨y, c, x, st, a, e, -, order⟩ := closeAtOnce_only g t
  rw [e, State.linesOf, order, State.linesOf]

theorem closeAtOnce_galley_ne {g h : GalleyId} (ne : h ≠ g) (t : State) : (closeAtOnce g t).galley h = t.galley h := by
  cases closes : t.closable g with
  | true => rw [(closeAtOnce_closes closes).galley, closedState_galley, if_neg ne]
  | false => rw [closeAtOnce_stays closes]

/-! ### The lines of a galley in a legal store (R101, R102) -/

section Legal

variable {s : State} (legal : StoreLegal s.store)
include legal

theorem linesOf_nodup (g : GalleyId) : (s.linesOf g).Nodup := legal.1 g

theorem mem_linesOf {g : GalleyId} {k : LineSlot} : k ∈ s.linesOf g ↔ ∃ y, s.lineAt k = some y ∧ y.galley = g :=
  legal.2 g k

theorem filter_idleLine (g : GalleyId) :
    (s.linesOf g).filter s.idleLine = (s.linesOf g).filter fun k => !(s.lineAt k).any LineRecord.begun := by
  refine List.filter_congr fun k hk => ?_
  obtain ⟨y, hy, -⟩ := (mem_linesOf legal).mp hk
  simp [State.idleLine, hy]

theorem Cancelled.linesOf_self {g : GalleyId} {t : State} (h : Cancelled g s t) :
    t.linesOf g = (s.linesOf g).filter fun k => (s.lineAt k).any LineRecord.begun := by
  rw [h.linesOf]
  refine List.filter_congr fun k hk => ?_
  obtain ⟨y, hy, own⟩ := (mem_linesOf legal).mp hk
  simp [hk, State.idleLine, hy, own]

theorem Cancelled.linesOf_ne {g k : GalleyId} {t : State} (h : Cancelled g s t) (ne : k ≠ g) :
    t.linesOf k = s.linesOf k := by
  rw [h.linesOf]
  refine List.filter_eq_self.mpr fun i hi => ?_
  obtain ⟨y, hy, own⟩ := (mem_linesOf legal).mp hi
  have out : i ∉ s.linesOf g := fun hg => by
    obtain ⟨y', hy', own'⟩ := (mem_linesOf legal).mp hg
    cases hy.symm.trans hy'
    exact ne (own.symm.trans own')
  simp [out]

end Legal

/-! ### The engine (R32, R46, R75, R76) -/

theorem stopServing_away {g : GalleyId} {s : State} (serving : s.engine.state ≠ .serving g)
    (lookup : s.engine.state ≠ .lookup g) : stopServing g s = s := by
  unfold stopServing
  split
  · next h e => exact if_neg fun same => serving (by rw [e, same])
  · next h e => exact if_neg fun same => lookup (by rw [e, same])
  · rfl

theorem stopServing_serving {g : GalleyId} {s : State} (h : s.engine.state = .serving g) :
    stopServing g s = engineIdle s := by
  simp [stopServing, h]

theorem stopServing_lookup {g : GalleyId} {s : State} (h : s.engine.state = .lookup g) :
    (stopServing g s).engine = { s.engine with state := .idle } ∧ (stopServing g s).dict.presentedLookup = none ∧
    ∀ core wanted, s.dict.running = some (.lookup core wanted) →
      (stopServing g s).dict.running = some (.lookup core false) := by
  simp only [stopServing, h, if_true]
  refine ⟨rfl, rfl, fun core wanted running => ?_⟩
  simp [State.modDict, engineIdle, State.modEngine, running]

/-! ### The request (R32) -/

theorem ownerTakes_cancelGalley (ch : ChannelId) (b : Block) (s : State) :
    ownerTakes ch { code := 0x33, block := b } s = takeCancelGalley ch b s := rfl

theorem takeCancelGalley_refuses {ch : ChannelId} {b : Block} {g : GalleyId} {s : State} (hg : galleyOf b.target = some g)
    (h : (s.galley g).state = .closed ∨ (s.galley g).state = .cancelling) :
    takeCancelGalley ch b s = refuse ch .wrongState s := by
  rcases h with h | h <;> simp only [takeCancelGalley, hg, h]

theorem takeCancelGalley_cancels {ch : ChannelId} {b : Block} {g : GalleyId} {s : State}
    (hg : galleyOf b.target = some g) (h : (s.galley g).state = .opened ∨ (s.galley g).state = .ending) :
    takeCancelGalley ch b s = finish ch .done (cancelGalley g s).2 (closeAtOnce g (cancelGalley g s).1) := by
  rcases h with h | h <;> simp only [takeCancelGalley, hg, h]

/-- A channel whose request no owner holds is none that an owner's completion touches. -/
theorem HeldOnce.ready_not_mem {s : State} (once : HeldOnce s) {ch : ChannelId} (ready : s.readyFor ch) :
    ch ∉ s.heldBy := fun hit => by
  obtain ⟨fetching, -, attached⟩ := ready
  rcases once.2 ch hit with h | h
  · cases fetching.symm.trans h
  · cases attached.symm.trans h

theorem HeldOnce.ready_apart {s : State} (once : HeldOnce s) {ch : ChannelId} (ready : s.readyFor ch) :
    (∀ i a, (s.font i).amend = some a → a.channel ≠ ch) ∧ ∀ g, ch ∉ (s.galley g).waitingChannels := by
  have out := once.ready_not_mem ready
  obtain ⟨dictionary, visit, e⟩ := heldBy_eq s
  rw [e, List.mem_append, not_or, List.mem_append, not_or] at out
  obtain ⟨amends, waiting, -⟩ := out
  refine ⟨fun i a ha same => amends (State.mem_amendChannels.mpr ⟨i, a, ha, same⟩), fun g hg => waiting ?_⟩
  obtain ⟨w, hw, same⟩ := Galley.mem_waitingChannels.mp hg
  exact State.mem_waitingChannels.mpr ⟨g, w, hw, same⟩

section Taken

variable {s : State} {ch : ChannelId} {b : Block} {g : GalleyId} (ready : s.readyFor ch)
  (fits : b.payload.length ≤ 1024) (hg : galleyOf b.target = some g)
include ready fits hg

theorem cancelGalley_refused (h : (s.galley g).state = .closed ∨ (s.galley g).state = .cancelling) :
    EventTo (exec (.cancelGalley ch b) s) s (s.fresh.refuses ch { code := 0x33, block := b } .wrongState) := by
  refine request_refused ready fits fun t ht => ?_
  subst ht
  exact takeCancelGalley_refuses hg h

/-- The part that has cancelled the galley, before the request is posted. -/
theorem exec_cancelGalley (h : (s.galley g).state = .opened ∨ (s.galley g).state = .ending)
    (once : (s.linesOf g).Nodup) (amends : ∀ i a, (s.font i).amend = some a → a.channel ≠ ch)
    (waiting : ch ∉ (s.galley g).waitingChannels) :
    ∃ t, Cancelled g (s.fresh.waits ch { code := 0x33, block := b }) t ∧
      (∀ x, (∀ i a, (s.font i).amend = some a → a.channel ≠ x) → x ∉ (s.galley g).waitingChannels →
        (closeAtOnce g t).channel x = (s.fresh.waits ch { code := 0x33, block := b }).channel x) ∧
      exec (.cancelGalley ch b) s = .next (react ((closeAtOnce g t).posts ch { code := 0x33, block := b } .done
        (BitVec.ofNat 16 ((s.linesOf g).filter s.idleLine).length) [])) := by
  set a := s.fresh.waits ch { code := 0x33, block := b } with ha
  obtain ⟨cancelled, count⟩ := cancelled_cancelGalley (g := g) (s := a) once
  have refusedFonts : ∀ i, (textRefused g a).font i = s.font i := fun i => by
    obtain ⟨c, e⟩ := textRefused_only g a
    rw [e]; rfl
  have other : ∀ x, (∀ i y, (s.font i).amend = some y → y.channel ≠ x) → x ∉ (s.galley g).waitingChannels →
      (closeAtOnce g (cancelGalley g a).1).channel x = a.channel x := fun x hx out => by
    have reports := cancelled.reported_closeAtOnce.other x fun j y hy _ _ => hx j y ((congrArg _ (refusedFonts j)).symm.trans hy)
    exact reports.trans ((answers_textRefused g a).1 x out)
  have handed : (closeAtOnce g (cancelGalley g a).1).handed ch { code := 0x33, block := b } :=
    (State.handed_congr (other ch amends waiting)).mpr (State.waits_handed _ ((State.readyFor_congr rfl).2 ready))
  refine ⟨_, cancelled, other, ?_⟩
  have taken : ownerTakes ch { code := 0x33, block := b } a = (closeAtOnce g (cancelGalley g a).1).posts ch
      { code := 0x33, block := b } .done (BitVec.ofNat 16 (cancelGalley g a).2) [] := by
    rw [ownerTakes_cancelGalley, takeCancelGalley_cancels (s := a) hg h, finish_handed handed]
  rw [count] at taken
  exact (requestEvent_ready ready _ _ fits).trans (congrArg (fun t : State => (.next (react t) : Answer)) taken)

end Taken

/-! ### What is left after it -/

/-- Beside records, channels, galleys, lines, queues, the engine and a flag, a cancel changes nothing. -/
theorem Cancelled.closeAtOnce_fields {g : GalleyId} {s t : State} (h : Cancelled g s t) :
    (closeAtOnce g t).film = s.film ∧ (closeAtOnce g t).photo = s.photo ∧ (closeAtOnce g t).exposure = s.exposure ∧
    (closeAtOnce g t).proof = s.proof ∧ (closeAtOnce g t).config = s.config ∧ (closeAtOnce g t).sensors = s.sensors := by
  obtain ⟨y, c, slots, order, e⟩ := h.only
  obtain ⟨y', c', x, st, a, e', -⟩ := closeAtOnce_only g t
  rw [e', e]
  exact ⟨rfl, rfl, rfl, rfl, rfl, rfl⟩

theorem Cancelled.closeAtOnce_engine {g : GalleyId} {s t : State} (h : Cancelled g s t) :
    (closeAtOnce g t).engine = (stopServing g s).engine ∧ (closeAtOnce g t).dict = (stopServing g s).dict := by
  obtain ⟨y, c, slots, order, e⟩ := h.only
  obtain ⟨y', c', x, st, a, e', -⟩ := closeAtOnce_only g t
  rw [e', e]
  exact ⟨rfl, rfl⟩

/-- A galley that closes leaves every queue and holder. -/
theorem Cancelled.closes {g : GalleyId} {s t : State} (h : Cancelled g s t) (closes : t.closable g = true) :
    (closeAtOnce g t).galley g = (s.galley g).cancelling.closed ∧
    (closeAtOnce g t).attn = s.attn ||| (1#16 <<< (8 + g.val)) ∧
    (closeAtOnce g t).store.filmQueue = s.store.filmQueue.filter (· != g) ∧
    (closeAtOnce g t).store.paperQueue = s.store.paperQueue.filter (· != g) ∧
    (closeAtOnce g t).store.filmHolder = (if s.store.filmHolder = some g then none else s.store.filmHolder) ∧
    (closeAtOnce g t).store.paperHolder = (if s.store.paperHolder = some g then none else s.store.paperHolder) := by
  have only := closeAtOnce_closes closes
  obtain ⟨y, c, slots, order, e⟩ := h.only
  have left : ∀ (b : Prop) [Decidable b] (q : List GalleyId),
      (if b then q else q.filter (· != g)).filter (· != g) = q.filter (· != g) := fun b _ q => by
    split <;> simp
  refine ⟨?_, ?_, ?_, ?_, ?_, ?_⟩
  · rw [only.galley, closedState_galley, if_pos rfl, h.galley]
  · rw [only.attn, e]; rfl
  · rw [only.store, e]; exact left ..
  · rw [only.store, e]; exact left ..
  · rw [only.store, e]; rfl
  · rw [only.store, e]; rfl

/-- A galley that has lines left, or an end action to come, is CANCELLING. -/
theorem Cancelled.stays {g : GalleyId} {s t : State} (h : Cancelled g s t) (closes : t.closable g = false) :
    (closeAtOnce g t).galley g = (s.galley g).cancelling ∧ (closeAtOnce g t).attn = s.attn ∧
    (closeAtOnce g t).store.filmQueue =
      (if s.store.filmHolder = some g then s.store.filmQueue else s.store.filmQueue.filter (· != g)) ∧
    (closeAtOnce g t).store.paperQueue =
      (if s.store.paperHolder = some g then s.store.paperQueue else s.store.paperQueue.filter (· != g)) ∧
    (closeAtOnce g t).store.filmHolder = s.store.filmHolder ∧
    (closeAtOnce g t).store.paperHolder = s.store.paperHolder := by
  rw [closeAtOnce_stays closes]
  refine ⟨h.galley, ?_⟩
  obtain ⟨y, c, slots, order, e⟩ := h.only
  rw [e]
  exact ⟨rfl, rfl, rfl, rfl, rfl⟩

section Requests

variable {s : State} {ch : ChannelId} {g : GalleyId} {r : Request} {t : State} (once : HeldOnce s)
  (ready : s.readyFor ch) (h : Cancelled g (s.fresh.waits ch r) t)
include once ready h

/-- The waiting text is refused, and the amends that the reports apply are answered, each on a channel of its own. -/
theorem Cancelled.requests (detail : Half) :
    (∀ w ∈ (s.galley g).waiting, s.answered ((closeAtOnce g t).posts ch r .done detail []) w.channel .wrongState 0) ∧
    ReferencesReported s ((closeAtOnce g t).posts ch r .done detail []) 0
      (fun j => (((s.linesOf g).filter s.idleLine).filter (s.lineUses j)).length)
      (fun j => if (s.galley g).builder.hasGlyphOf j then 1 else 0)
      (fun j => if t.closable g && (s.galley g).font == some j then 1 else 0) := by
  set a := s.fresh.waits ch r with ha
  obtain ⟨amendsOff, waitingOff⟩ := once.ready_apart ready
  obtain ⟨untouched, refused⟩ := answers_textRefused g a
  have fonts : ∀ i, (textRefused g a).font i = s.font i := fun i => by
    obtain ⟨c, e⟩ := textRefused_only g a
    rw [e]; rfl
  have apart : AmendsApart (textRefused g a) := once.amendsApart.of_subset fun j x hx => by rwa [fonts] at hx
  have report := h.reported_closeAtOnce
  have elsewhere : ∀ x, x ≠ ch → a.channel x = s.channel x := fun x ne =>
    State.channel_modChannel_ne _ _ (Ne.symm ne)
  have posted : ∀ x, x ≠ ch → ((closeAtOnce g t).posts ch r .done detail []).channel x = (closeAtOnce g t).channel x :=
    fun x ne => State.channel_modChannel_ne _ _ (Ne.symm ne)
  constructor
  · intro w hw
    have mine : w.channel ∈ (s.galley g).waitingChannels := Galley.mem_waitingChannels.mpr ⟨w, hw, rfl⟩
    have ne : w.channel ≠ ch := fun e => waitingOff g (e ▸ mine)
    obtain ⟨c, d, ⟨rfl, rfl⟩, e⟩ := refused (once.waiting_nodup g) w.channel mine
    apply answered_of_completed
    refine (posted _ ne).trans ((report.other w.channel fun j x hx _ _ => ?_).trans (e.trans ?_))
    · exact once.amend_ne_waiting ((congrArg _ (fonts j)).symm.trans hx) hw
    · rw [elsewhere _ ne]
  · refine ⟨fun j => ?_, fun j x live held gone => ?_⟩
    · have after := recordAfter_reported (s.font j) 0 (((s.linesOf g).filter s.idleLine).filter (s.lineUses j)).length
        (if (s.galley g).builder.hasGlyphOf j then 1 else 0) (if t.closable g && (s.galley g).font == some j then 1 else 0)
      have font := report.font j
      rw [fonts] at font
      exact font ▸ after
    · have ne : x.channel ≠ ch := amendsOff j x held
      have out : x.channel ∉ (s.galley g).waitingChannels := fun hit => by
        obtain ⟨w, hw, same⟩ := Galley.mem_waitingChannels.mp hit
        exact once.amend_ne_waiting held hw same.symm
      apply answered_of_completed
      refine (posted _ ne).trans ((report.amended apart j x (by rw [fonts]; exact live) (by rw [fonts]; exact held)
        gone).trans ?_)
      rw [untouched _ out, elsewhere _ ne, fonts]
      rfl

end Requests

/-! ### The obligation -/

theorem cancelGalley_bare {s : State} {ch : ChannelId} {b : Block} {g : GalleyId} (ready : s.readyFor ch)
    (fits : b.payload.length ≤ 1024) (hg : galleyOf b.target = some g)
    (live : (s.galley g).state = .opened ∨ (s.galley g).state = .ending) (lines : s.linesOf g = [])
    (texts : (s.galley g).waiting = []) (amends : ∀ i, (s.font i).amend = none) :
    ∃ t, Cancelled g (s.fresh.waits ch { code := 0x33, block := b }) t ∧
      exec (.cancelGalley ch b) s =
        .next (react ((closeAtOnce g t).posts ch { code := 0x33, block := b } .done 0 [])) ∧
      ((closeAtOnce g t).posts ch { code := 0x33, block := b } .done 0 []).channels =
        (s.posts ch { code := 0x33, block := b } .done 0 []).channels := by
  have none_ : ∀ x i (a : HeldAmend), (s.font i).amend = some a → a.channel ≠ x := fun x i a held => by
    rw [amends i] at held; cases held
  have noText : ∀ x, x ∉ (s.galley g).waitingChannels := fun x => by simp [Galley.waitingChannels, texts]
  obtain ⟨t, cancelled, other, arises⟩ := exec_cancelGalley ready fits hg live (by simp [lines]) (none_ ch) (noText ch)
  have channels : (closeAtOnce g t).channels = (s.fresh.waits ch { code := 0x33, block := b }).channels :=
    channels_ext fun x => other x (none_ x) (noText x)
  rw [lines] at arises
  refine ⟨t, cancelled, arises, ?_⟩
  rw [← posts_waits ch { code := 0x33, block := b } _ .done 0 [] s, State.posts, State.modChannel, State.channel, channels]
  rfl

/-- Whether the galley closes or not, its text and its line in progress are gone. -/
theorem Cancelled.emptied {g : GalleyId} {s t : State} (h : Cancelled g s t) :
    ((closeAtOnce g t).galley g).buffer = [] ∧ ((closeAtOnce g t).galley g).builder = Builder.blank := by
  cases closes : t.closable g with
  | true =>
    obtain ⟨galley, -⟩ := h.closes closes
    rw [galley]
    exact ⟨rfl, rfl⟩
  | false =>
    obtain ⟨galley, -⟩ := h.stays closes
    rw [galley]
    exact ⟨rfl, rfl⟩

theorem closeAtOnce_raised {g : GalleyId} {t : State} (closes : t.closable g = true) :
    (closeAtOnce g t).raised (.galleyClosed g) = true := by
  rw [State.raised, (closeAtOnce_closes closes).attn]
  exact closedState_raised g t

theorem store_ext {s t : State} (h : ∀ k, t.lineAt k = s.lineAt k) : t.store.slots = s.store.slots :=
  Vector.ext fun i hi => h ⟨i, hi⟩

/-- A posting takes its channel on from where it waits. -/
theorem posts_channel_congr {s t : State} {ch : ChannelId} {q r : Request} {c : Completion} {d : Half}
    {bytes : List Byte} (h : t.channel ch = (s.fresh.waits ch q).channel ch) :
    (t.posts ch r c d bytes).channel ch = (s.posts ch r c d bytes).channel ch := by
  have waits : (s.fresh.waits ch q).channel ch = { s.channel ch with
      state := .waiting, inFlight := some q, blockRead := none, posting := none } := State.channel_modChannel_self ..
  simp only [State.posts, State.channel_modChannel_self, h, waits]

/-! ### The last consumer of a line (R109, R110) -/

section Done

variable {s : State} {k : LineSlot} {y : LineRecord} (hy : s.lineAt k = some y)
include hy

theorem filmDone_kept (h : y.proof = true) :
    (filmDone k s).lineAt k = some { y with film := false, filmProgress := .notBegun } := by
  have line : (modLine k (fun r => { r with film := false, filmProgress := .notBegun }) s).lineAt k =
      some { y with film := false, filmProgress := .notBegun } := by simp [hy]
  rw [filmDone, freeIfDone_kept line (by simp [h]), line]

theorem filmDone_freed (h : y.proof = false) : (filmDone k s).lineAt k = none ∧
    (filmDone k s).linesOf y.galley = (s.linesOf y.galley).filter (· != k) ∧
    ∀ j, RecordAfter (s.font j) ((filmDone k s).font j) 0 (if y.hasGlyphOf j then 1 else 0) 0 0 := by
  have line : (modLine k (fun r => { r with film := false, filmProgress := .notBegun }) s).lineAt k =
      some { y with film := false, filmProgress := .notBegun } := by simp [hy]
  rw [filmDone, freeIfDone_freed line (by simp [h])]
  exact lineGone_dropLine (r := { y with film := false, filmProgress := .notBegun }) _

theorem proofDone_kept (h : y.film = true) :
    (proofDone k s).lineAt k = some { y with proof := false, proofProgress := .notBegun } := by
  have line : (modLine k (fun r => { r with proof := false, proofProgress := .notBegun }) s).lineAt k =
      some { y with proof := false, proofProgress := .notBegun } := by simp [hy]
  rw [proofDone, freeIfDone_kept line (by simp [h]), line]

theorem proofDone_freed (h : y.film = false) : (proofDone k s).lineAt k = none ∧
    (proofDone k s).linesOf y.galley = (s.linesOf y.galley).filter (· != k) ∧
    ∀ j, RecordAfter (s.font j) ((proofDone k s).font j) 0 (if y.hasGlyphOf j then 1 else 0) 0 0 := by
  have line : (modLine k (fun r => { r with proof := false, proofProgress := .notBegun }) s).lineAt k =
      some { y with proof := false, proofProgress := .notBegun } := by simp [hy]
  rw [proofDone, freeIfDone_freed line (by simp [h])]
  exact lineGone_dropLine (r := { y with proof := false, proofProgress := .notBegun }) _

end Done

theorem mem_filter_ne {g : GalleyId} {q : List GalleyId} : g ∉ q.filter (· != g) := by simp

/-- Settles O49: the cancel step by step, the close that may follow, and the posting on a channel that neither touches. -/
theorem cancelGalleyClosesOrCancels : Obligations.CancelGalleyClosesOrCancels := by
  refine ⟨fun s ch b g ready fits hg => ⟨cancelGalley_refused ready fits hg, ?_, ?_⟩, ?_⟩
  · intro live lines texts amends
    obtain ⟨t, cancelled, arises, channels⟩ := cancelGalley_bare ready fits hg live lines texts amends
    obtain ⟨film, photo, exposure, proof, config, sensors⟩ := cancelled.closeAtOnce_fields
    have noLines : (s.fresh.waits ch { code := 0x33, block := b }).linesOf g = [] := lines
    have empty : t.linesOf g = [] := by rw [cancelled.linesOf, noLines]; rfl
    have slots : (closeAtOnce g t).store.slots = s.store.slots := store_ext fun k => by
      rw [closeAtOnce_lineAt, cancelled.lineAt, noLines]; rfl
    obtain ⟨buffer, builder⟩ := cancelled.emptied
    refine ⟨_, arises, buffer, builder, fun h ne => ?_, channels, film, photo, exposure, proof, config, sensors, slots,
      fun noFilm noPaper => ?_, fun holds => ?_⟩
    · exact (closeAtOnce_galley_ne ne t).trans (cancelled.galley_ne ne)
    · have closes : t.closable g = true := by
        rw [cancelled.closable, empty]
        simp [noFilm, noPaper]
      obtain ⟨galley, -, film, paper, -⟩ := cancelled.closes closes
      exact ⟨congrArg Galley.state galley, congrArg Galley.font galley, closeAtOnce_raised closes,
        film ▸ mem_filter_ne, paper ▸ mem_filter_ne⟩
    · have stays : t.closable g = false := by
        rw [cancelled.closable, empty]
        rcases holds with ⟨holder, pending⟩ | ⟨holder, pending⟩ <;> simp [holder, pending]
      obtain ⟨galley, attn, -, -, film, paper⟩ := cancelled.stays stays
      exact ⟨(congrArg Galley.state galley :), (congrArg Galley.font galley :), attn, film, paper⟩
  · intro live once legal x begun left gone closes
    obtain ⟨amendsOff, waitingOff⟩ := once.ready_apart ready
    obtain ⟨t, cancelled, other, arises⟩ :=
      exec_cancelGalley ready fits hg live (linesOf_nodup legal g) amendsOff (waitingOff g)
    have legal' : StoreLegal (s.fresh.waits ch { code := 0x33, block := b }).store := legal
    have goneIs : (s.linesOf g).filter s.idleLine = gone := filter_idleLine legal g
    have leftIs : t.linesOf g = left := cancelled.linesOf_self legal'
    have closesIs : t.closable g = closes := by rw [cancelled.closable, leftIs]; rfl
    obtain ⟨texts, references⟩ := cancelled.requests once ready (BitVec.ofNat 16 gone.length)
    rw [goneIs, closesIs] at references
    rw [goneIs] at arises
    obtain ⟨film, photo, exposure, proof, config, sensors⟩ := cancelled.closeAtOnce_fields
    obtain ⟨engine, dict⟩ := cancelled.closeAtOnce_engine
    have line : ∀ k, (closeAtOnce g t).lineAt k = if k ∈ s.linesOf g then
        (s.lineAt k).bind fun y => if y.begun then some y.begunOnly else none else s.lineAt k := fun k =>
      (closeAtOnce_lineAt g k t).trans (cancelled.lineAt k)
    refine ⟨_, arises, ?_, texts, fun k hk => ?_, fun k hk y hy => ?_, fun k hk => ?_, ?_, fun h ne => ⟨?_, ?_⟩,
      fun close => ?_, fun stay => ?_, references, fun serving lookup => ?_, fun own => ?_, fun lookup => ?_,
      film, photo, exposure, proof, config, sensors⟩
    · exact posts_channel_congr (other ch amendsOff (waitingOff g))
    · obtain ⟨mem, idle⟩ := List.mem_filter.mp hk
      obtain ⟨y, hy, -⟩ := (mem_linesOf legal).mp mem
      have unbegun : begun y = false := by simpa [hy] using idle
      refine (line k).trans ((if_pos mem).trans ?_)
      simp [hy, show y.begun = false from unbegun]
    · obtain ⟨mem, some_⟩ := List.mem_filter.mp hk
      have begun_ : begun y = true := by simpa [hy] using some_
      refine (line k).trans ((if_pos mem).trans ?_)
      simp only [hy, Option.bind_some, show y.begun = true from begun_, if_true]
      rfl
    · exact (line k).trans (if_neg hk)
    · exact (closeAtOnce_linesOf g g t).trans leftIs
    · exact (closeAtOnce_linesOf g h t).trans (cancelled.linesOf_ne legal' ne)
    · exact (closeAtOnce_galley_ne ne t).trans (cancelled.galley_ne ne)
    · exact cancelled.closes (closesIs.trans close)
    · exact cancelled.stays (closesIs.trans stay)
    · have away := stopServing_away (s := s.fresh.waits ch { code := 0x33, block := b }) serving lookup
      rw [away] at engine dict
      exact ⟨engine, dict⟩
    · refine engine.trans ?_
      rcases own with serving | lookup
      · rw [stopServing_serving (s := s.fresh.waits ch { code := 0x33, block := b }) serving]; rfl
      · exact (stopServing_lookup (s := s.fresh.waits ch { code := 0x33, block := b }) lookup).1
    · obtain ⟨-, withdrawn, running⟩ := stopServing_lookup (s := s.fresh.waits ch { code := 0x33, block := b }) lookup
      refine ⟨(congrArg Dictionary.presentedLookup dict).trans withdrawn, fun core wanted h => ?_⟩
      exact (congrArg Dictionary.running dict).trans (running core wanted h)
  · intro s k y hy
    exact ⟨filmDone_kept hy, filmDone_freed hy, proofDone_kept hy, proofDone_freed hy⟩

end Sys2Proof.Machine
end

section
/-! PROOF. What comes about of itself (O29): the order of the reactions, the close (R33), the assignment (R105 to R107), the
lines and end actions of film and paper (R108, R111, R136, R137, R148, R158, R160, R161). -/

namespace Sys2Proof.Machine

/-! ### The order (log 4) -/

theorem firstOf_of_some {a b : State → Option State} {s t : State} (h : a s = some t) : firstOf a b s = some t := by
  simp [firstOf, h]

theorem firstOf_of_none {a b : State → Option State} {s : State} (h : a s = none) : firstOf a b s = b s := by
  simp [firstOf, h]

/-! ### The close (R33) -/

theorem tryClose_eq_none {s : State} : tryClose s = none ↔ ∀ g, s.closable g = false := by
  simp [tryClose, List.find?_eq_none]

theorem tryClose_first {s : State} {g : GalleyId} (h : s.closable g = true) (first : ∀ h, h < g → s.closable h = false) :
    tryClose s = some (closeGalley g s) := by
  rw [tryClose, find?_finRange h fun k hk => by simp [first k hk]]
  rfl

theorem closable_iff {s : State} {g : GalleyId} : s.closable g = true ↔ s.linesOf g = [] ∧
    ((s.galley g).state = .ending ∧
        ((s.galley g).mode ≠ .proof → s.store.filmHolder = some g ∧ s.store.filmEndDone = true) ∧
        ((s.galley g).mode ≠ .film → s.store.paperHolder = some g ∧ s.store.paperEndDone = true) ∨
      (s.galley g).state = .cancelling ∧ (s.store.filmHolder = some g → s.store.filmEndDone = true) ∧
        (s.store.paperHolder = some g → s.store.paperEndDone = true)) := by
  have film : ((!(s.galley g).mode.usesFilm || (s.holdsFilm g && s.store.filmEndDone)) = true) ↔
      ((s.galley g).mode ≠ .proof → s.store.filmHolder = some g ∧ s.store.filmEndDone = true) := by
    cases (s.galley g).mode <;> simp [OutputMode.usesFilm, State.holdsFilm]
  have paper : ((!(s.galley g).mode.usesProof || (s.holdsPaper g && s.store.paperEndDone)) = true) ↔
      ((s.galley g).mode ≠ .film → s.store.paperHolder = some g ∧ s.store.paperEndDone = true) := by
    cases (s.galley g).mode <;> simp [OutputMode.usesProof, State.holdsPaper]
  have ends : ∀ (p q : Bool), ((!p || q) = true) ↔ (p = true → q = true) := by decide
  cases state : (s.galley g).state with
  | closed | opened => simp [State.closable, state]
  | ending => simp only [State.closable, state, Bool.and_eq_true, film, paper]; simp
  | cancelling =>
    simp only [State.closable, state, Bool.and_eq_true, ends]
    simp [State.holdsFilm, State.holdsPaper]

/-! ### The assignment (R105 to R107, R136) -/

theorem tryAssign_film {s : State} {g : GalleyId} (h : s.filmAssignee = some g) (alone : (s.galley g).mode ≠ .both) :
    tryAssign s = some (assignFilm g s) := by
  simp [tryAssign, h, alone]

theorem tryAssign_both {s : State} {g : GalleyId} (h : s.filmAssignee = some g) (both : (s.galley g).mode = .both) :
    tryAssign s = some (assignPaper g (assignFilm g s)) := by
  simp [tryAssign, h, both]

theorem tryAssign_paper {s : State} (h : s.filmAssignee = none) :
    tryAssign s = s.paperAssignee.map fun g => assignPaper g s := by
  simp [tryAssign, h]

/-- The figures of a new head are set, or deferred to the end of a free move (R136). -/
theorem assignFilm_eq (g : GalleyId) (s : State) : assignFilm g s = { s with
    store := { s.store with filmHolder := some g, filmEndBegun := false, filmEndDone := false }
    film := if s.exposure.work.isFreeMove then s.film
      else { s.film with galleyStart := s.film.position, deepest := s.film.position }
    exposure := { s.exposure with
      figuresDeferred := s.exposure.work.isFreeMove || s.exposure.figuresDeferred } } := by
  unfold assignFilm
  dsimp only [State.modStore]
  cases h : s.exposure.work.isFreeMove <;> simp [State.modExposure, setFilmFigures, State.modFilm]

/-! ### The exposure order (R139) -/

theorem eraseDups_map_cons {α κ : Type} [DecidableEq κ] (key : α → κ) (a : α) (as : List α) :
    ((a :: as).map key).eraseDups = key a :: ((as.filter fun b => !decide (key b = key a)).map key).eraseDups := by
  rw [List.map_cons, List.eraseDups_cons, List.filter_map]
  congr 2

/-- The glyphs of the first group, then the groups of the others. -/
theorem groupGlyphs_cons {κ : Type} [DecidableEq κ] (key : SetGlyph → κ) (a : SetGlyph) (as : List SetGlyph) :
    groupGlyphs key (a :: as) = (a :: as).filter (fun b => decide (key b = key a)) ++
      groupGlyphs key (as.filter fun b => !decide (key b = key a)) := by
  rw [groupGlyphs, eraseDups_map_cons, List.flatMap_cons, groupGlyphs]
  congr 1
  refine List.flatMap_congr fun k hk => ?_
  obtain ⟨b, hb, rfl⟩ := List.mem_map.mp (List.mem_eraseDups.mp hk)
  have ne : key a ≠ key b := fun e => by simpa [e] using (List.mem_filter.mp hb).2
  rw [List.filter_cons_of_neg (by simpa using ne), List.filter_filter]
  refine List.filter_congr fun c _ => ?_
  by_cases e : key c = key b
  · simp [e, Ne.symm ne]
  · simp [e]

theorem groupGlyphs_perm {κ : Type} [DecidableEq κ] (key : SetGlyph → κ) (gs : List SetGlyph) :
    (groupGlyphs key gs).Perm gs := by
  induction n : gs.length using Nat.strong_induction_on generalizing gs with
  | _ n ih =>
    cases gs with
    | nil => exact .refl _
    | cons a as =>
      have others : (a :: as).filter (fun b => !decide (key b = key a)) =
          as.filter fun b => !decide (key b = key a) := by simp
      have fewer := List.length_filter_le (fun b => !decide (key b = key a)) as
      have rest := ih _ (by simp only [List.length_cons] at n; omega) (as.filter fun b => !decide (key b = key a)) rfl
      rw [groupGlyphs_cons]
      refine (List.Perm.append_left _ rest).trans ?_
      rw [← others]
      exact List.filter_append_perm _ _

theorem exposureOrder_perm (s : State) (gs : List SetGlyph) :
    (exposureOrder s gs).Perm (gs.filter fun g => !g.absent) := by
  unfold exposureOrder
  dsimp only
  split
  · exact groupGlyphs_perm ..
  · exact .refl _

/-! ### The first line that waits (R108) -/

/-- The first line of a list that a consumer waits for. -/
theorem firstLine_of_split {s : State} {g : GalleyId} {p : LineRecord → Bool} {k : LineSlot} {r : LineRecord}
    {before after : List LineSlot} (split : s.linesOf g = before ++ k :: after) (line : s.lineAt k = some r)
    (waits : p r = true) (earlier : ∀ j ∈ before, ∀ q, s.lineAt j = some q → p q = false) :
    s.firstLine g p = some k := by
  rw [State.firstLine, List.find?_eq_some_iff_append]
  refine ⟨by simp [line, waits], before, after, split, fun j hj => ?_⟩
  cases h : s.lineAt j with
  | none => rfl
  | some q => simp [earlier j hj q h]

theorem supplies_iff {s : State} {g : GalleyId} :
    s.supplies g = true ↔ (s.galley g).state = .opened ∨ (s.galley g).state = .ending := by
  simp [State.supplies]

theorem awaitsFilm_eq_false {q : LineRecord} (h : q.film = false ∨ q.filmProgress ≠ .notBegun) :
    q.awaitsFilm = false := by
  rcases h with h | h <;> simp [LineRecord.awaitsFilm, h]

theorem awaitsProof_eq_false {q : LineRecord} (h : q.proof = false ∨ q.proofProgress ≠ .notBegun) :
    q.awaitsProof = false := by
  rcases h with h | h <;> simp [LineRecord.awaitsProof, h]

/-! ### The advance of a line (R137) -/

section Advance

variable {l : LineWork} {n : Nat} {s : State}

theorem beginAdvance_zero {forward : Bool} (h : n = 0) :
    beginAdvance l forward n s = nextGlyph l (setStep l (.advance forward n) s) := by
  rw [beginAdvance, if_pos h]

theorem beginAdvance_unloaded {forward : Bool} (steps : n ≠ 0) (h : s.film.loaded = false) :
    beginAdvance l forward n s = takeHold .cassetteOut (setStep l (.advance forward n) s) := by
  have loaded : (setStep l (.advance forward n) s).film.loaded = false := h
  simp [beginAdvance, steps, loaded]

theorem beginAdvance_forward (steps : n ≠ 0) (h : s.film.loaded = true) (room : s.film.position + n ≤ s.film.length) :
    beginAdvance l true n s = startFilm true n (setStep l (.advance true n) s) := by
  have loaded : (setStep l (.advance true n) s).film.loaded = true := h
  have short : ¬ (setStep l (.advance true n) s).film.position + n > (setStep l (.advance true n) s).film.length :=
    Nat.not_lt.mpr room
  rw [beginAdvance, if_neg steps, loaded]
  simp only [Bool.not_true, Bool.false_eq_true, if_false, if_true]
  exact if_neg short

theorem beginAdvance_out (steps : n ≠ 0) (h : s.film.loaded = true) (short : s.film.length < s.film.position + n) :
    beginAdvance l true n s = takeHold .filmOut (setStep l (.advance true n) s) := by
  have loaded : (setStep l (.advance true n) s).film.loaded = true := h
  rw [beginAdvance, if_neg steps, loaded]
  simp only [Bool.not_true, Bool.false_eq_true, if_false, if_true]
  exact if_pos short

/-- The reverse clamped at the galley start is marked in the galley (R137). -/
def clampNoted (l : LineWork) (n : Nat) (s : State) : State :=
  if s.backSteps n < n then s.addSticky l.galley stickyReverseClamped else s

theorem beginAdvance_back (steps : n ≠ 0) (h : s.film.loaded = true) :
    beginAdvance l false n s =
      if s.backSteps n = 0 then nextGlyph l (clampNoted l n (setStep l (.advance false n) s))
      else startFilm false (s.backSteps n)
        (setStep l (.advance false (s.backSteps n)) (clampNoted l n (setStep l (.advance false n) s))) := by
  have loaded : (setStep l (.advance false n) s).film.loaded = true := h
  have back : (setStep l (.advance false n) s).backSteps n = s.backSteps n := rfl
  rw [beginAdvance, if_neg steps, loaded]
  simp only [Bool.not_true, Bool.false_eq_true, if_false, back, clampNoted]

theorem clampNoted_only (l : LineWork) (n : Nat) (s : State) :
    ∃ x, clampNoted l n s = { s with galleys := x } ∧
      ((clampNoted l n s).galley l.galley).sticky =
        if s.backSteps n < n then (s.galley l.galley).sticky ||| stickyReverseClamped else (s.galley l.galley).sticky := by
  unfold clampNoted
  split_ifs
  · exact ⟨_, rfl, congrArg Galley.sticky (State.galley_modGalley_self ..)⟩
  · exact ⟨_, rfl, rfl⟩

end Advance

/-! ### The next film line (R136) -/

/-- The line's work as Exposure Control takes it. -/
def workOf (k : LineSlot) (r : LineRecord) (s : State) : LineWork :=
  { slot := k, galley := r.galley, seq := r.seq, order := exposureOrder s r.glyphs, next := 1, step := .decision }

/-- The part with the line marked as in exposure. -/
def inExposure (k : LineSlot) (s : State) : State := modLine k (fun r => { r with filmProgress := .inExposure }) s

theorem takeLine_eq (k : LineSlot) (r : LineRecord) (s : State) :
    takeLine k r s = beginAdvance (workOf k r s) (decide (0 ≤ r.depth)) (r.depth.natAbs * 10) (inExposure k s) := rfl

theorem tryTakeLine_takes {s : State} {g : GalleyId} {k : LineSlot} {r : LineRecord} (work : s.exposure.work = .none)
    (hold : s.exposure.hold = none) (visits : s.photo.verify = none) (holder : s.store.filmHolder = some g)
    (supplies : s.supplies g = true) (first : s.firstLine g LineRecord.awaitsFilm = some k)
    (line : s.lineAt k = some r) : tryTakeLine s = some (takeLine k r s) := by
  have idle : s.exposureIdle = true := by simp [State.exposureIdle, work, hold]
  simp [tryTakeLine, idle, visits, State.nextFilmLine, holder, supplies, first, line]

theorem tryTakeLine_eq_none {s : State} (h : s.exposure.work ≠ .none ∨ s.exposure.hold.isSome ∨
    s.photo.verify.isSome ∨ s.store.filmHolder = none) : tryTakeLine s = none := by
  unfold tryTakeLine
  split
  · next idle =>
    rw [State.exposureIdle] at idle
    obtain ⟨⟨work, hold⟩, visits⟩ : (s.exposure.work = .none ∧ s.exposure.hold = none) ∧ s.photo.verify = none := by
      simpa using idle
    rcases h with h | h | h | h
    · exact absurd work h
    · simp [hold] at h
    · simp [visits] at h
    · simp [State.nextFilmLine, h]
  · rfl

theorem linesOnly_freeIfDone (k : LineSlot) (s : State) : LinesOnly s (freeIfDone k s) := by
  unfold freeIfDone
  split
  · next r _ =>
    split
    · rfl
    · exact LinesOnly.trans (t := dropLine k r.galley s) rfl (.of_recordsOnly (recordsOnly_lineGone ..))
  · rfl

theorem linesOnly_filmDone (k : LineSlot) (s : State) : LinesOnly s (filmDone k s) :=
  LinesOnly.trans (t := modLine k _ s) rfl (linesOnly_freeIfDone k _)

/-! ### A taken line -/

section Taken

variable {s : State} {k : LineSlot} {r : LineRecord} (line : s.lineAt k = some r)
include line

theorem inExposure_lineAt : (inExposure k s).lineAt k = some { r with filmProgress := .inExposure } := by
  simp [inExposure, line]

theorem inExposure_eq : inExposure k s =
    { s with store := { s.store with slots := vset s.store.slots k (some { r with filmProgress := .inExposure }) } } := by
  rw [inExposure, modLine, State.modStore, show vget s.store.slots k = some r from line]
  rfl

end Taken

/-- A line without a glyph to flash, of which no step is to be moved, is done (log 41). -/
theorem nextGlyph_done {k : LineSlot} {r : LineRecord} {l : LineWork} {t : State} (slot : l.slot = k) (none_ : l.glyph = none)
    (after : t.lineAt k = some { r with filmProgress := .inExposure }) :
    (nextGlyph l t).exposure.work = .none ∧ (nextGlyph l t).film = t.film ∧
    (∀ g, (nextGlyph l t).galley g = t.galley g) ∧
    if r.proof then (nextGlyph l t).lineAt k = some { r with film := false, filmProgress := .notBegun }
    else (nextGlyph l t).lineAt k = none := by
  have done : nextGlyph l t = filmDone k (setWork .none t) := by rw [nextGlyph, none_, ← slot]; rfl
  have found : (setWork .none t).lineAt k = some { r with filmProgress := .inExposure } := after
  obtain ⟨y, c, slots, order, e⟩ := (linesOnly_filmDone k (setWork .none t)).exists
  rw [done]
  refine ⟨by rw [e]; rfl, by rw [e]; rfl, fun g => by rw [e]; rfl, ?_⟩
  split
  · next proof => exact filmDone_kept (y := { r with filmProgress := .inExposure }) found proof
  · next noProof =>
    exact (filmDone_freed (y := { r with filmProgress := .inExposure }) found (by simpa using noProof)).1

theorem nextGlyph_decides {l : LineWork} {g : SetGlyph} (h : l.glyph = some g) (s : State) :
    nextGlyph l s = glyphDecision l g s := by
  rw [nextGlyph, h]

theorem glyphDecision_unloaded {l : LineWork} {g : SetGlyph} {s : State} (h : s.film.loaded = false) :
    glyphDecision l g s = takeHold .cassetteOut (setStep l .decision s) := by
  have loaded : (setStep l .decision s).film.loaded = false := h
  simp [glyphDecision, loaded]

theorem workOf_glyph (k : LineSlot) (r : LineRecord) (s : State) :
    (workOf k r s).glyph = (exposureOrder s r.glyphs).head? := by
  rw [LineWork.glyph, List.head?_eq_getElem?]
  rfl

/-! ### The end actions (R111, R148, R161) -/

theorem filmFinished_eq_some {s : State} {g : GalleyId} (holder : s.store.filmHolder = some g)
    (state : (s.galley g).state = .ending ∨ (s.galley g).state = .cancelling)
    (lines : ∀ k ∈ s.linesOf g, ∀ r, s.lineAt k = some r → r.film = false) (begun : s.store.filmEndBegun = false) :
    s.filmFinished = some g := by
  have finishing : (s.galley g).state.finishing = true := by rcases state with h | h <;> simp [h, GalleyState.finishing]
  have none_ : s.anyLine g (·.film) = false := by
    refine List.any_eq_false.mpr fun k hk => ?_
    cases h : s.lineAt k with
    | none => simp
    | some r => simp [lines k hk r h]
  simp [State.filmFinished, holder, finishing, none_, begun]

theorem paperFinished_eq_some {s : State} {g : GalleyId} (holder : s.store.paperHolder = some g)
    (state : (s.galley g).state = .ending ∨ (s.galley g).state = .cancelling)
    (lines : ∀ k ∈ s.linesOf g, ∀ r, s.lineAt k = some r → r.proof = false) (begun : s.store.paperEndBegun = false) :
    s.paperFinished = some g := by
  have finishing : (s.galley g).state.finishing = true := by rcases state with h | h <;> simp [h, GalleyState.finishing]
  have none_ : s.anyLine g (·.proof) = false := by
    refine List.any_eq_false.mpr fun k hk => ?_
    cases h : s.lineAt k with
    | none => simp
    | some r => simp [lines k hk r h]
  simp [State.paperFinished, holder, finishing, none_, begun]

theorem tryFilmEnd_eq_none {s : State} (h : s.exposure.work ≠ .none ∨ s.exposure.hold.isSome ∨
    s.store.filmHolder = none ∨ s.store.filmEndBegun = true) : tryFilmEnd s = none := by
  unfold tryFilmEnd
  split
  · next idle =>
    obtain ⟨work, hold⟩ : s.exposure.work = .none ∧ s.exposure.hold = none := by simpa [State.exposureIdle] using idle
    rcases h with h | h | h | h
    · exact absurd work h
    · simp [hold] at h
    · simp [State.filmFinished, h]
    · cases holder : s.store.filmHolder <;> simp [State.filmFinished, holder, h]
  · rfl

theorem tryFilmEnd_begins {s : State} {g : GalleyId} (work : s.exposure.work = .none) (hold : s.exposure.hold = none)
    (finished : s.filmFinished = some g) :
    tryFilmEnd s = some (beginGap (s.film.deepest + s.gapSteps) (s.modStore fun t => { t with filmEndBegun := true })) := by
  have idle : s.exposureIdle = true := by simp [State.exposureIdle, work, hold]
  simp [tryFilmEnd, idle, finished]

section Gap

variable {n : Nat} {s : State}

theorem beginGap_unloaded (h : s.film.loaded = false) : beginGap n s = takeHold .cassetteOut (setWork (.gap n) s) := by
  have loaded : (setWork (.gap n) s).film.loaded = false := h
  simp [beginGap, loaded]

theorem beginGap_out (h : s.film.loaded = true) (short : s.film.length < n) :
    beginGap n s = takeHold .filmOut (setWork (.gap n) s) := by
  have loaded : (setWork (.gap n) s).film.loaded = true := h
  rw [beginGap, loaded]
  simp only [Bool.not_true, Bool.false_eq_true, if_false]
  exact if_pos short

theorem beginGap_moves (h : s.film.loaded = true) (room : n ≤ s.film.length) (ahead : s.film.position < n) :
    beginGap n s = startFilm true (n - s.film.position) (setWork (.gap n) s) := by
  have loaded : (setWork (.gap n) s).film.loaded = true := h
  rw [beginGap, loaded]
  simp only [Bool.not_true, Bool.false_eq_true, if_false]
  exact (if_neg (Nat.not_lt.mpr room)).trans (if_neg (Nat.not_le.mpr ahead))

theorem beginGap_cuts (h : s.film.loaded = true) (room : n ≤ s.film.length) (there : n ≤ s.film.position) :
    beginGap n s = startCut (.cut n) (setWork (.gap n) s) := by
  have loaded : (setWork (.gap n) s).film.loaded = true := h
  rw [beginGap, loaded]
  simp only [Bool.not_true, Bool.false_eq_true, if_false]
  exact (if_neg (Nat.not_lt.mpr room)).trans (if_pos there)

theorem beginGap_store (n : Nat) (s : State) : (beginGap n s).store = s.store := by
  have held : ∀ (r : HoldReason) (t : State), (takeHold r t).store = t.store := fun r t => by
    obtain ⟨e, f, a, q, d, -, only⟩ := takeHold_only r t
    rw [only]
  cases loaded : s.film.loaded with
  | false => rw [beginGap_unloaded loaded, held]; rfl
  | true =>
    by_cases short : s.film.length < n
    · rw [beginGap_out loaded short, held]; rfl
    · have room : n ≤ s.film.length := Nat.not_lt.mp short
      by_cases ahead : s.film.position < n
      · rw [beginGap_moves loaded room ahead]; rfl
      · rw [beginGap_cuts loaded room (Nat.not_lt.mp ahead)]
        simp only [startCut, apply_ite State.store]
        exact ite_self _

end Gap

theorem takeHold_of_idle {r : HoldReason} {s : State} (h : s.exposure.hold = none) :
    (takeHold r s).exposure.work = s.exposure.work ∧ (takeHold r s).exposure.hold = some r ∧
    (takeHold r s).raised .expHold = true ∧ (takeHold r s).film.move = none ∧
    (takeHold r s).film.position = s.film.position ∧ (takeHold r s).store = s.store := by
  rw [takeHold_of_none h]
  refine ⟨rfl, rfl, ?_, rfl, rfl, rfl⟩
  simp [State.raised, State.raise, Attn.mask, Attn.bit, stopFilm, withdrawFlash, State.modExposure, State.modFilm,
    State.modPhoto]

/-! ### The bands (R158, R160) -/

/-- Work that the port begins is held where the paper is absent. -/
theorem startPort_eq (w : PortWork) (s : State) : startPort w s = { s with
    proof := { s.proof with port :=
      if s.paperPresent then (match w with | .sending => .sending | .endFeed => .endFeed) else .held w }
    attn := if s.paperPresent then s.attn else s.attn ||| Attn.proofHold.mask } := by
  unfold startPort
  split <;> rfl

theorem startPort_raised (w : PortWork) (s : State) :
    (startPort w s).raised .proofHold = (s.raised .proofHold || !s.paperPresent) := by
  rw [startPort_eq, State.raised]
  cases h : s.paperPresent <;> simp [State.raised, Attn.mask, Attn.bit]

theorem bufferIn_eq_some {s : State} {i : Fin 2} {p : BandBuffer → Bool} (h : p (vget s.proof.buffers i) = true)
    (first : ∀ j, j < i → p (vget s.proof.buffers j) = false) : s.bufferIn p = some i :=
  find?_finRange h fun j hj => by simp [first j hj]

theorem isReady_eq_false {b : BandBuffer} (h : ∀ c, b ≠ .ready c) : b.isReady = false := by
  cases b with
  | ready c => exact absurd rfl (h c)
  | empty => rfl
  | sending c => rfl

theorem isEmpty_eq_false {b : BandBuffer} (h : b ≠ .empty) : b.isEmpty = false := by
  cases b with
  | empty => exact absurd rfl h
  | ready c => rfl
  | sending c => rfl

/-! ### The obligation, part by part -/

theorem reactOnce_order (s : State) :
    (∀ t, tryClose s = some t → reactOnce s = some t) ∧
    (tryClose s = none → ∀ t, tryAssign s = some t → reactOnce s = some t) ∧
    (tryClose s = none → tryAssign s = none → ∀ t, tryFilmEnd s = some t → reactOnce s = some t) ∧
    (tryClose s = none → tryAssign s = none → tryFilmEnd s = none → ∀ t, tryPaperEnd s = some t →
      reactOnce s = some t) ∧
    (tryClose s = none → tryAssign s = none → tryFilmEnd s = none → tryPaperEnd s = none →
      (∀ t, tryTakeLine s = some t → reactOnce s = some t) ∧
      (tryTakeLine s = none → ∀ t, tryStartBand s = some t → reactOnce s = some t) ∧
      (tryTakeLine s = none → tryStartBand s = none → ∀ t, tryTakeProofLine s = some t → reactOnce s = some t)) := by
  refine ⟨fun t h => firstOf_of_some h, fun h1 t h => ?_, fun h1 h2 t h => ?_, fun h1 h2 h3 t h => ?_,
    fun h1 h2 h3 h4 => ⟨fun t h => ?_, fun h5 t h => ?_, fun h5 h6 t h => ?_⟩⟩
  · rw [reactOnce, firstOf_of_none h1, firstOf_of_some h]
  · rw [reactOnce, firstOf_of_none h1, firstOf_of_none h2, firstOf_of_some h]
  · rw [reactOnce, firstOf_of_none h1, firstOf_of_none h2, firstOf_of_none h3, firstOf_of_some h]
  · rw [reactOnce, firstOf_of_none h1, firstOf_of_none h2, firstOf_of_none h3, firstOf_of_none h4, firstOf_of_some h]
  · rw [reactOnce, firstOf_of_none h1, firstOf_of_none h2, firstOf_of_none h3, firstOf_of_none h4, firstOf_of_none h5,
      firstOf_of_some h]
  · rw [reactOnce, firstOf_of_none h1, firstOf_of_none h2, firstOf_of_none h3, firstOf_of_none h4, firstOf_of_none h5,
      firstOf_of_none h6, firstOf_of_some h]

/-- What the close of a galley leaves (R33, R48). -/
theorem closeGalley_leaves (g : GalleyId) (s : State) :
    let t := closeGalley g s
    t.galley g = (s.galley g).closed ∧ (∀ h, h ≠ g → t.galley h = s.galley h) ∧ t.raised (.galleyClosed g) = true ∧
    t.store.slots = s.store.slots ∧ t.store.filmQueue = s.store.filmQueue.filter (· != g) ∧
    t.store.paperQueue = s.store.paperQueue.filter (· != g) ∧
    t.store.filmHolder = (if s.store.filmHolder = some g then none else s.store.filmHolder) ∧
    t.store.paperHolder = (if s.store.paperHolder = some g then none else s.store.paperHolder) ∧
    t.film = s.film ∧ t.exposure = s.exposure ∧ t.proof = s.proof ∧ t.photo = s.photo ∧ t.config = s.config := by
  have only := recordsOnly_closeGalley g s
  refine ⟨?_, fun h ne => ?_, ?_, ?_, ?_, ?_, ?_, ?_, ?_, ?_, ?_, ?_, ?_⟩
  · rw [only.galley, closedState_galley, if_pos rfl]
  · rw [only.galley, closedState_galley, if_neg ne]
  · rw [State.raised, only.attn]; exact closedState_raised g s
  · rw [only.store]; rfl
  · rw [only.store]; rfl
  · rw [only.store]; rfl
  · rw [only.store]; rfl
  · rw [only.store]; rfl
  · rw [only.film]; rfl
  · rw [only.exposure]; rfl
  · rw [only.proof]; rfl
  · rw [only.photo]; rfl
  · rw [only.config]; rfl

theorem filmAssignee_film {s : State} {g : GalleyId} {queue : List GalleyId} (free : s.store.filmHolder = none)
    (head : s.store.filmQueue = g :: queue) (mode : (s.galley g).mode = .film) : s.filmAssignee = some g := by
  simp [State.filmAssignee, free, head, mode]

theorem filmAssignee_both {s : State} {g : GalleyId} {queue : List GalleyId} (free : s.store.filmHolder = none)
    (head : s.store.filmQueue = g :: queue) (mode : (s.galley g).mode = .both) (paper : s.store.paperHolder = none)
    (first : s.store.paperQueue.head? = some g) : s.filmAssignee = some g := by
  simp [State.filmAssignee, free, head, mode, paper, first]

theorem filmAssignee_eq_none_of_both {s : State} {g : GalleyId} {queue : List GalleyId}
    (head : s.store.filmQueue = g :: queue) (mode : (s.galley g).mode = .both)
    (paper : s.store.paperHolder.isSome ∨ s.store.paperQueue.head? ≠ some g) : s.filmAssignee = none := by
  have off : ¬ (s.store.paperQueue.head? = some g ∧ s.store.paperHolder = none) := fun ⟨first, free⟩ => by
    rcases paper with h | h
    · simp [free] at h
    · exact h first
  cases holder : s.store.filmHolder with
  | none => simp only [State.filmAssignee, holder, head, List.head?_cons, mode]; exact if_neg off
  | some _ => simp [State.filmAssignee, holder]

theorem filmAssignee_eq_none {s : State} (h : s.store.filmHolder.isSome ∨ s.store.filmQueue = []) :
    s.filmAssignee = none := by
  unfold State.filmAssignee
  split
  · next holder head =>
    rcases h with h | h
    · simp [holder] at h
    · simp [h] at head
  · rfl

theorem paperAssignee_eq_none {s : State} (h : s.store.paperHolder.isSome ∨ s.store.paperQueue = []) :
    s.paperAssignee = none := by
  unfold State.paperAssignee
  split
  · next holder head =>
    rcases h with h | h
    · simp [holder] at h
    · simp [h] at head
  · rfl

/-- Settles O29: the reactions one by one. -/
theorem storeAssignsHandsOutAndCloses : Obligations.StoreAssignsHandsOutAndCloses := by
  refine ⟨reactOnce_order, fun s => ⟨tryClose_eq_none, fun g closes first => ?_, fun g => closable_iff⟩,
    fun s g queue => ?_, ?_, fun s gs => ⟨fun plain => ?_, exposureOrder_perm s gs⟩, fun s => tryTakeLine_eq_none, ?_,
    fun s => tryFilmEnd_eq_none, ?_, ?_, ?_⟩
  · refine ⟨_, tryClose_first closes first, ?_⟩
    obtain ⟨galley, others, raised, slots, filmQ, paperQ, filmH, paperH, film, exposure, proof, photo, config⟩ :=
      closeGalley_leaves g s
    exact ⟨galley, others, raised, slots, filmQ, paperQ, filmH, paperH, film, exposure, proof, photo, config,
      fun once => (reported_closeGalley g s).references once.amendsApart⟩
  · refine ⟨fun free head mode => ?_, fun free head mode paper first => ?_, fun none_ free head mode => ?_,
      fun head mode paper => filmAssignee_eq_none_of_both head mode paper, filmAssignee_eq_none,
      fun none_ paper => by rw [tryAssign_paper none_, paperAssignee_eq_none paper]; rfl⟩
    · rw [tryAssign_film (filmAssignee_film free head mode) (by simp [mode]), assignFilm_eq]
    · rw [tryAssign_both (filmAssignee_both free head mode paper first) mode, assignFilm_eq]
      rfl
    · rw [tryAssign_paper none_]
      simp [State.paperAssignee, free, head, mode, assignPaper, State.modStore]
  · intro s g k r before after work hold visits holder state split line film progress earlier n l workAt
    have first := firstLine_of_split split line (p := LineRecord.awaitsFilm)
      (by simp [LineRecord.awaitsFilm, film, progress]) fun j hj q hq => awaitsFilm_eq_false (earlier j hj q hq)
    have takes := tryTakeLine_takes work hold visits holder (supplies_iff.mpr state) first line
    rw [takeLine_eq] at takes
    have lineU := inExposure_lineAt line
    have eqU := inExposure_eq line
    have glyphs : l.glyph = (exposureOrder s r.glyphs).head? := workOf_glyph k r s
    have back : (inExposure k s).backSteps n = min n (s.film.position - s.film.galleyStart) := by rw [eqU]; rfl
    have filmU : (inExposure k s).film = s.film := by rw [eqU]
    have holdU : (inExposure k s).exposure.hold = none := by rw [eqU]; exact hold
    have galleyU : (inExposure k s).galley r.galley = s.galley r.galley := by rw [eqU]; rfl
    have periodU : (inExposure k s).filmPeriod = s.filmPeriod := rfl
    generalize inExposure k s = u at takes lineU eqU back filmU holdU galleyU periodU
    have zero : r.depth = 0 → n = 0 := fun h => by show r.depth.natAbs * 10 = 0; omega
    have nonzero : r.depth ≠ 0 → n ≠ 0 := fun h => by show r.depth.natAbs * 10 ≠ 0; omega
    have isForward : 0 < r.depth → decide (0 ≤ r.depth) = true := fun h => decide_eq_true h.le
    have isBack : r.depth < 0 → decide (0 ≤ r.depth) = false := fun h => decide_eq_false (Int.not_le.mpr h)
    have taken : tryTakeLine s = some (beginAdvance l (decide (0 ≤ r.depth)) n u) := takes
    clear takes
    refine ⟨_, taken, fun flat none_ => ?_, fun flat some_ unloaded => ?_, fun down loaded room => ?_,
      fun moves unloaded => ?_, fun down loaded short => ?_, fun up loaded room => ?_, fun first head still => ?_,
      fun none_ up loaded there => ?_⟩
    · rw [beginAdvance_zero (zero flat)]
      obtain ⟨work, -, -, record⟩ := nextGlyph_done (k := k) (r := r) (l := l)
        (t := setStep l (.advance (decide (0 ≤ r.depth)) n) u) rfl (by rw [glyphs, none_]; rfl) lineU
      exact ⟨work, record⟩
    · obtain ⟨g', hg⟩ : ∃ g', l.glyph = some g' := by
        rw [glyphs]
        exact ⟨_, List.head?_eq_some_head some_⟩
      rw [beginAdvance_zero (zero flat), nextGlyph_decides hg,
        glyphDecision_unloaded (s := setStep l _ u) (by rw [← filmU] at unloaded; exact unloaded)]
      obtain ⟨work, hold, raised, -⟩ := takeHold_of_idle (r := .cassetteOut)
        (s := setStep l .decision (setStep l (.advance (decide (0 ≤ r.depth)) n) u)) holdU
      exact ⟨work, hold, raised⟩
    · rw [isForward down, beginAdvance_forward (nonzero down.ne') (by rw [filmU]; exact loaded)
        (by rw [filmU]; exact room)]
      exact ⟨lineU, rfl, holdU, rfl, congrArg some periodU, rfl⟩
    · rw [beginAdvance_unloaded (nonzero moves) (by rw [filmU]; exact unloaded)]
      obtain ⟨work, hold, raised, move, -, store⟩ := takeHold_of_idle (r := .cassetteOut)
        (s := setStep l (.advance (decide (0 ≤ r.depth)) n) u) holdU
      exact ⟨by rw [State.lineAt, store]; exact lineU, work, hold, move, raised⟩
    · rw [isForward down, beginAdvance_out (nonzero down.ne') (by rw [filmU]; exact loaded)
        (by rw [filmU]; exact short)]
      obtain ⟨work, hold, raised, move, position, -⟩ := takeHold_of_idle (r := .filmOut)
        (s := setStep l (.advance true n) u) holdU
      exact ⟨work, hold, move, position.trans (congrArg Film.position filmU), raised⟩
    · intro steps
      have some_ : ¬ u.backSteps n = 0 := by rw [back]; have := nonzero up.ne; omega
      rw [isBack up, beginAdvance_back (nonzero up.ne) (by rw [filmU]; exact loaded), if_neg some_, back]
      obtain ⟨x, only, sticky⟩ := clampNoted_only l n (setStep l (.advance false n) u)
      refine ⟨rfl, rfl, sticky.trans ?_⟩
      rw [show (setStep l (.advance false n) u).backSteps n = steps from back]
      exact (congrArg (fun y : Galley => if steps < n then y.sticky ||| stickyReverseClamped else y.sticky) galleyU)
    · intro begun marked
      have decides : l.glyph = some first := glyphs.trans head
      have state : setStep l (.advance (decide (0 ≤ r.depth)) n) u = marked := by rw [eqU]; rfl
      rcases still with flat | ⟨up, loaded, there⟩
      · rw [beginAdvance_zero (zero flat), nextGlyph_decides decides, if_pos flat, state]
      · have noSteps : u.backSteps n = 0 := by rw [back]; omega
        have clamps : clampNoted l n (setStep l (.advance false n) u) =
            (setStep l (.advance false n) u).addSticky l.galley stickyReverseClamped := by
          rw [clampNoted, show (setStep l (.advance false n) u).backSteps n = 0 from noSteps]
          exact if_pos (Nat.pos_of_ne_zero (nonzero up.ne))
        rw [isBack up] at state
        rw [isBack up, beginAdvance_back (nonzero up.ne) (by rw [filmU]; exact loaded), if_pos noSteps, clamps, state,
          nextGlyph_decides decides, if_neg up.ne]
        rfl
    · have noSteps : u.backSteps n = 0 := by rw [back]; omega
      rw [isBack up, beginAdvance_back (nonzero up.ne) (by rw [filmU]; exact loaded), if_pos noSteps]
      obtain ⟨x, only, sticky⟩ := clampNoted_only l n (setStep l (.advance false n) u)
      obtain ⟨work, film, galley, record⟩ := nextGlyph_done (k := k) (r := r) (l := l)
        (t := clampNoted l n (setStep l (.advance false n) u)) rfl (by rw [glyphs, none_]; rfl) (by rw [only]; exact lineU)
      refine ⟨work, ?_, ?_, record⟩
      · rw [film, only]; exact filmU
      · rw [galley]
        refine sticky.trans ((if_pos ?_).trans (congrArg (fun y : Galley => y.sticky ||| stickyReverseClamped) galleyU))
        rw [show (setStep l (.advance false n) u).backSteps n = 0 from noSteps]
        exact Nat.pos_of_ne_zero (nonzero up.ne)
  · simp [exposureOrder, plain]
  · intro s g work hold holder state lines begun target
    refine ⟨_, tryFilmEnd_begins work hold (filmFinished_eq_some holder state lines begun), ?_⟩
    set u := s.modStore fun t => { t with filmEndBegun := true } with hu
    have target_ : s.film.deepest + s.gapSteps = target := rfl
    rw [target_]
    refine ⟨?_, fun unloaded => ?_, fun loaded short => ?_, fun loaded room ahead => ?_, fun loaded room there home => ?_,
      fun loaded room there away => ?_⟩
    · exact beginGap_store target u
    · rw [beginGap_unloaded (s := u) unloaded]
      obtain ⟨work, hold, raised, move, -⟩ := takeHold_of_idle (r := .cassetteOut) (s := setWork (.gap target) u) hold
      exact ⟨work, hold, raised, move⟩
    · rw [beginGap_out (s := u) loaded short]
      obtain ⟨work, hold, raised, move, -⟩ := takeHold_of_idle (r := .filmOut) (s := setWork (.gap target) u) hold
      exact ⟨work, hold, raised, move⟩
    · rw [beginGap_moves (s := u) loaded room ahead]
      exact ⟨rfl, hold, rfl, rfl⟩
    · rw [beginGap_cuts (s := u) loaded room there]
      have home' : (setWork (.gap target) u).cutterHome = true := home
      simp only [startCut, home', if_true]
      exact ⟨rfl, rfl, rfl⟩
    · rw [beginGap_cuts (s := u) loaded room there]
      have away' : (setWork (.gap target) u).cutterHome = false := away
      simp only [startCut, away', Bool.false_eq_true, if_false]
      exact ⟨rfl, rfl, rfl⟩
  · intro s g idle holder state lines begun
    have finished := paperFinished_eq_some holder state lines begun
    refine ⟨startPort .endFeed ((s.modStore fun t => { t with paperEndBegun := true }).modProof fun p =>
      { p with feeds := 48 }), by simp [tryPaperEnd, idle, finished], ?_, ?_, startPort_raised ..⟩
    · rw [startPort_eq]; rfl
    · rw [startPort_eq]; rfl
  · intro s i b r idle ready first line
    have buffer : s.bufferIn BandBuffer.isReady = some i :=
      bufferIn_eq_some (by rw [ready]; rfl) fun j hj => isReady_eq_false (first j hj)
    refine ⟨startPort .sending ((modLine b.slot (fun r => { r with proofProgress := .sent })
      (setBuffer i (.sending b) s)).modProof fun p => { p with row := 0, pos := 0 }), ?_, ?_, ?_, startPort_raised ..⟩
    · simp [tryStartBand, idle, buffer, ready, BandBuffer.band]
    · rw [startPort_eq]; rfl
    · rw [startPort_eq]
      have marked := modLine_lineAt b.slot b.slot (fun r => { r with proofProgress := .sent }) (setBuffer i (.sending b) s)
      rw [if_pos rfl, show (setBuffer i (.sending b) s).lineAt b.slot = some r from line] at marked
      exact marked
  · intro s g k r i before after unready empty lowest holder state split line proof progress earlier
    have noneReady : s.bufferIn BandBuffer.isReady = none :=
      List.find?_eq_none.mpr fun j _ => by simp [isReady_eq_false (unready j)]
    have buffer : s.bufferIn BandBuffer.isEmpty = some i :=
      bufferIn_eq_some (by rw [empty]; rfl) fun j hj => isEmpty_eq_false (lowest j hj)
    have first := firstLine_of_split split line (p := LineRecord.awaitsProof)
      (by simp [LineRecord.awaitsProof, proof, progress]) fun j hj q hq => awaitsProof_eq_false (earlier j hj q hq)
    refine ⟨setBuffer i (.ready (assemble s k r)) (modLine k (fun r => { r with proofProgress := .inBand }) s), ?_, ?_,
      rfl, rfl, rfl, rfl⟩
    · simp [tryTakeProofLine, noneReady, buffer, State.nextProofLine, holder, supplies_iff.mpr state, first, line]
    · have marked := modLine_lineAt k k (fun r => { r with proofProgress := .inBand }) s
      rw [if_pos rfl, line] at marked
      exact marked

end Sys2Proof.Machine
end

section
/-! SUPPORT. The taking of an item by its kind (R36 to R42, R49 to R56, R62): what `applyItem` is for each, what it leaves
alone, and that it takes no notice of the waiting text. -/

namespace Sys2Proof.Machine

/-! ### Items of the galley alone -/

/-- A parameter brought into range is marked in the sticky flags (R35). -/
def Galley.clampedIf (clamped : Bool) (x : Galley) : Galley :=
  { x with sticky := if clamped then x.sticky ||| stickyClamped else x.sticky }

/-- An item that is dropped is marked in the sticky flags (R36). -/
def Galley.badItem (x : Galley) : Galley := { x with sticky := x.sticky ||| stickyBadItem }

/-- The items that change the galley and nothing else. -/
def Item.isPlain : Item → Bool
  | .glyph _ | .lineEnd | .endGalley | .fontSelect _ => false
  | _ => true

/-- What a plain item makes of the galley; the lens table is looked up for a size (R27). -/
def plainEffect (s : State) (x : Galley) : Item → Galley
  | .space k => { x with builder := addSpace x k }
  | .discretionary => { x with builder := addMark x.builder }
  | .size n =>
    match nearestLens n s with
    | none => x
    | some size => { x with
        size := size, builder := { x.builder with heldSize := x.builder.heldSize || size != n } }
  | .leading n => Galley.clampedIf (n > 288) { x with leading := min 288 n }
  | .reverse n => Galley.clampedIf (n > 288 || x.pendingReverse + min 288 n > 288)
      { x with pendingReverse := min 288 (x.pendingReverse + min 288 n) }
  | .measure n => Galley.clampedIf (n < 72 || n > 1440) { x with measure := clampNat 72 1440 n }
  | .quad v =>
    match quadModeOf v with
    | some q => { x with quad := q }
    | none => x.badItem
  | .spaces a b c => Galley.clampedIf (spacesClamped a b c) { x with
      spaceMin := (spaceValues a b c).1, spaceOpt := (spaceValues a b c).2.1, spaceMax := (spaceValues a b c).2.2 }
  | .track t => Galley.clampedIf (t < -4 || t > 4) { x with track := clampInt (-4) 4 t }
  | .hyphControl f n => Galley.clampedIf (n > 7) { x with
      hyphenate := f.getLsbD 0, rules := f.getLsbD 1, ladder := min 7 n }
  | .zones l r => Galley.clampedIf (zoneClamped l || zoneClamped r) { x with minLeft := zone 2 l, minRight := zone 3 r }
  | .bad => x.badItem
  | .glyph _ | .lineEnd | .endGalley | .fontSelect _ => x

/-- A change of a galley is judged by the galley as it stands. -/
theorem modGalley_congr {s : State} {g : GalleyId} {f f' : Galley → Galley} (h : f (s.galley g) = f' (s.galley g)) :
    s.modGalley g f = s.modGalley g f' := by
  simp only [State.modGalley, h]

theorem modGalley_self {s : State} {g : GalleyId} {f : Galley → Galley} (h : f (s.galley g) = s.galley g) :
    s.modGalley g f = s := by
  rw [State.modGalley, h, State.galley, vset_vget_self]

theorem setParameter_eq (g : GalleyId) (clamped : Bool) (f : Galley → Galley) (s : State) :
    setParameter g clamped f s = s.modGalley g fun x => (f x).clampedIf clamped := by
  unfold setParameter
  cases clamped with
  | false => exact modGalley_congr rfl
  | true =>
    exact (modGalley_modGalley g f (fun x => { x with sticky := x.sticky ||| stickyClamped }) s).trans (modGalley_congr rfl)

theorem applyItem_plain {i : Item} (h : i.isPlain = true) (g : GalleyId) (s : State) :
    applyItem g i s = s.modGalley g fun x => plainEffect s x i := by
  cases i with
  | glyph | lineEnd | endGalley | fontSelect => cases h
  | space | discretionary | bad => rfl
  | leading | measure | spaces | track | hyphControl | zones => exact setParameter_eq ..
  | reverse n =>
    refine (setParameter_eq ..).trans (modGalley_congr ?_)
    rfl
  | size n =>
    simp only [applyItem, takeSize, plainEffect]
    cases nearestLens n s with
    | none => exact (modGalley_self rfl).symm
    | some size => rfl
  | quad v =>
    simp only [applyItem, takeQuad, plainEffect]
    cases quadModeOf v <;> rfl

/-! ### Reports take no notice of the galleys -/

/-- The operation neither reads nor changes a galley. -/
def IgnoresGalleys (f : State → State) : Prop :=
  ∀ (s : State) (x : Vector Galley 8), f { s with galleys := x } = { f s with galleys := x }

theorem IgnoresGalleys.comp {f f' : State → State} (h : IgnoresGalleys f) (h' : IgnoresGalleys f') :
    IgnoresGalleys fun s => f' (f s) := fun s x => (congrArg f' (h s x)).trans (h' (f s) x)

theorem IgnoresGalleys.foldl {α : Type} {f : State → α → State} (h : ∀ a, IgnoresGalleys fun s => f s a) (l : List α) :
    IgnoresGalleys fun s => l.foldl f s := by
  induction l with
  | nil => exact fun _ _ => rfl
  | cons a rest ih => exact IgnoresGalleys.comp (h a) ih

theorem ignoresGalleys_complete (ch : ChannelId) (c : Completion) (d : Half) (bytes : List Byte) :
    IgnoresGalleys (complete ch c d bytes) := fun s x => by
  have channel : State.channel ch { s with galleys := x } = s.channel ch := rfl
  simp only [complete, channel]
  split
  · rfl
  · split <;> rfl

theorem ignoresGalleys_examine (i : FontSlot) : IgnoresGalleys (examine i) := fun s x => by
  have font : State.font i { s with galleys := x } = s.font i := rfl
  simp only [examine, font]
  split
  · rfl
  · split
    · split
      · next a _ _ _ => exact ignoresGalleys_complete _ _ _ _ (s.modFont i fun r => r.amended a.parts) x
      · rfl
    · rfl

theorem ignoresGalleys_modFont (i : FontSlot) (f : FontRecord → FontRecord) :
    IgnoresGalleys fun s => s.modFont i f := fun _ _ => rfl

theorem ignoresGalleys_commitReport (lines leaving : List FontSlot) : IgnoresGalleys (commitReport lines leaving) :=
  ((IgnoresGalleys.foldl (fun i => ignoresGalleys_modFont i _) lines).comp
    (.foldl (fun i => ignoresGalleys_modFont i _) leaving)).comp (.foldl ignoresGalleys_examine leaving)

theorem ignoresGalleys_currentGone (i : FontSlot) : IgnoresGalleys (currentGone i) :=
  (ignoresGalleys_modFont i _).comp (ignoresGalleys_examine i)

/-- A change of a galley may come before or after what takes no notice of galleys. -/
theorem IgnoresGalleys.modGalley {f : State → State} (h : IgnoresGalleys f) (only : ∀ s, (f s).galleys = s.galleys)
    (g : GalleyId) (k : Galley → Galley) (s : State) : f (s.modGalley g k) = (f s).modGalley g k := by
  rw [State.modGalley, h, State.modGalley, State.galley, State.galley, only]

/-! ### Glyphs, fonts and lines -/

/-- The glyph in the current word (R55). -/
def glyphAdded (g : GalleyId) (c : GlyphCode) (s : State) : State :=
  s.modGalley g fun y => { y with builder := addGlyph s (s.galley g) c }

theorem applyItem_glyph (g : GalleyId) (c : GlyphCode) (s : State) :
    applyItem g (.glyph c) s =
      if (s.galley g).builder.usesSlot (s.galley g).fontSlot then glyphAdded g c s
      else raisePartial (s.galley g).fontSlot (glyphAdded g c s) := rfl

theorem applyItem_fontSelect_none {g : GalleyId} {n : Nat} {s : State} (h : s.resolve n = none) :
    applyItem g (.fontSelect n) s = s.modGalley g fun x => { x with builder := { x.builder with heldFont := true } } := by
  simp only [applyItem, takeFontSelect, h]
  rfl

theorem applyItem_fontSelect_same {g : GalleyId} {n : Nat} {i : FontSlot} {s : State} (h : s.resolve n = some i)
    (same : (s.galley g).font = some i) : applyItem g (.fontSelect n) s = s := by
  simp only [applyItem, takeFontSelect, h, same, if_true]

/-- The galley with another current font, whose references rise (R7). -/
def fontTaken (g : GalleyId) (i : FontSlot) (s : State) : State :=
  raiseCurrent i (s.modGalley g fun x => { x with font := some i })

theorem applyItem_fontSelect_other {g : GalleyId} {n : Nat} {i : FontSlot} {s : State} (h : s.resolve n = some i)
    (other : (s.galley g).font ≠ some i) : applyItem g (.fontSelect n) s =
      match (s.galley g).font with
      | some old => currentGone old (fontTaken g i s)
      | none => fontTaken g i s := by
  simp only [applyItem, takeFontSelect, h, other, if_false] <;> rfl

/-! ### What an item leaves alone -/

/-- What the taking of an item, other than the end of the galley, leaves alone. -/
structure ItemTaken (g : GalleyId) (s t : State) : Prop where
  only : ∃ y c x e st, t = { s with fonts := y, channels := c, galleys := x, engine := e, store := st }
  others : ∀ h, h ≠ g → t.galley h = s.galley h
  buffer : (t.galley g).buffer = (s.galley g).buffer
  waiting : (t.galley g).waiting = (s.galley g).waiting
  amend : ∀ j (a : HeldAmend), (t.font j).amend = some a → (s.font j).amend = some a
  channel : ∀ ch, (∀ j a, (s.font j).amend = some a → a.channel ≠ ch) → t.channel ch = s.channel ch

namespace ItemTaken

variable {g : GalleyId}

theorem refl (s : State) : ItemTaken g s s :=
  ⟨⟨_, _, _, _, _, rfl⟩, fun _ _ => rfl, rfl, rfl, fun _ _ h => h, fun _ _ => rfl⟩

theorem trans {s t u : State} (h1 : ItemTaken g s t) (h2 : ItemTaken g t u) : ItemTaken g s u where
  only := by
    obtain ⟨y, c, x, e, st, rfl⟩ := h1.only
    obtain ⟨y, c, x, e, st, rfl⟩ := h2.only
    exact ⟨y, c, x, e, st, rfl⟩
  others h ne := (h2.others h ne).trans (h1.others h ne)
  buffer := h2.buffer.trans h1.buffer
  waiting := h2.waiting.trans h1.waiting
  amend j a h := h1.amend j a (h2.amend j a h)
  channel ch h := (h2.channel ch fun j a held => h j a (h1.amend j a held)).trans (h1.channel ch h)

theorem modGalley {f : Galley → Galley} {s : State} (buffer : (f (s.galley g)).buffer = (s.galley g).buffer)
    (waiting : (f (s.galley g)).waiting = (s.galley g).waiting) : ItemTaken g s (s.modGalley g f) where
  only := ⟨_, _, _, _, _, rfl⟩
  others _ ne := State.galley_modGalley_ne _ _ (Ne.symm ne)
  buffer := by rw [State.galley_modGalley_self, buffer]
  waiting := by rw [State.galley_modGalley_self, waiting]
  amend _ _ h := h
  channel _ _ := rfl

theorem modFont {i : FontSlot} {f : FontRecord → FontRecord} (keeps : ∀ r, (f r).amend = r.amend) (s : State) :
    ItemTaken g s (s.modFont i f) where
  only := ⟨_, _, _, _, _, rfl⟩
  others _ _ := rfl
  buffer := rfl
  waiting := rfl
  amend j a h := by
    by_cases e : i = j
    · subst e; rwa [State.font_modFont_self, keeps] at h
    · rwa [State.font_modFont_ne _ _ e] at h
  channel _ _ := rfl

theorem raisePartial (i : FontSlot) (s : State) : ItemTaken g s (raisePartial i s) :=
  modFont (f := fun r => { r with partialRefs := r.partialRefs + 1 }) (fun _ => rfl) s

theorem raiseCurrent (i : FontSlot) (s : State) : ItemTaken g s (raiseCurrent i s) :=
  modFont (f := fun r => { r with currentRefs := r.currentRefs + 1 }) (fun _ => rfl) s

/-- A report is a matter of records and of the channels of their amends. -/
theorem of_reported {s t : State} {up line partials current : FontSlot → Nat} (only : RecordsOnly s t)
    (report : Reported s t up line partials current) : ItemTaken g s t where
  only := ⟨_, _, _, _, _, only⟩
  others h _ := only.galley h
  buffer := by rw [only.galley]
  waiting := by rw [only.galley]
  amend j a h := by rw [report.font] at h; exact FontRecord.reported_amend h
  channel ch h := report.other ch fun j a held _ _ => h j a held

theorem commit (e : LineEnd) (s : State) : ItemTaken g s (commit g e s) := by
  cases h : s.freeSlot with
  | none => rw [Machine.commit, h]; exact refl s
  | some k =>
    rw [commit_of_free h]
    have line : ItemTaken g s (lineCommitted g e k s) := by
      refine ⟨⟨_, _, _, _, _, rfl⟩, fun h ne => lineCommitted_galley_ne ne .., ?_, ?_, fun _ _ h => h, fun _ _ => rfl⟩
      · rw [lineCommitted_galley]
      · rw [lineCommitted_galley]
    have report : ItemTaken g (lineCommitted g e k s) (commitReport (lineRecord s.truncates g (s.galley g) e).fontSlots
        (leavingSlots (s.galley g) e) (lineCommitted g e k s)) :=
      of_reported (recordsOnly_commitReport ..)
        (reported_commitReport (nodup_finRange_filter _) ((nodup_finRange_filter _).filter _) _)
    exact line.trans (report.trans ⟨⟨_, _, _, _, _, rfl⟩, fun _ _ => rfl, rfl, rfl, fun _ _ h => h, fun _ _ => rfl⟩)

end ItemTaken

theorem plainEffect_text (s : State) (x : Galley) (i : Item) :
    (plainEffect s x i).buffer = x.buffer ∧ (plainEffect s x i).waiting = x.waiting := by
  cases i with
  | size | quad => simp only [plainEffect]; split <;> exact ⟨rfl, rfl⟩
  | _ => exact ⟨rfl, rfl⟩

theorem itemTaken_applyItem {i : Item} (h : i ≠ .endGalley) (g : GalleyId) (s : State) :
    ItemTaken g s (applyItem g i s) := by
  cases plain : i.isPlain with
  | true =>
    rw [applyItem_plain plain]
    exact .modGalley (plainEffect_text ..).1 (plainEffect_text ..).2
  | false =>
    cases i with
    | endGalley => exact absurd rfl h
    | lineEnd => exact .commit _ s
    | glyph c =>
      rw [applyItem_glyph]
      split
      · exact .modGalley rfl rfl
      · exact (ItemTaken.modGalley (s := s) rfl rfl).trans (.raisePartial ..)
    | fontSelect n =>
      cases found : s.resolve n with
      | none => rw [applyItem_fontSelect_none found]; exact .modGalley rfl rfl
      | some k =>
        by_cases same : (s.galley g).font = some k
        · rw [applyItem_fontSelect_same found same]; exact .refl s
        · have taken : ItemTaken g s (fontTaken g k s) :=
            (ItemTaken.modGalley (s := s) rfl rfl).trans (.raiseCurrent ..)
          rw [applyItem_fontSelect_other found same]
          cases (s.galley g).font with
          | none => exact taken
          | some old => exact taken.trans (.of_reported (recordsOnly_currentGone old _) (reported_currentGone old _))
    | space | discretionary | size | leading | reverse | measure | quad | spaces | track | hyphControl | zones | bad =>
      cases plain

/-! ### The waiting text is no matter to an item -/

/-- The galley with other waiting text. -/
def Galley.withWaiting (w : List WaitingText) (x : Galley) : Galley := { x with waiting := w }

theorem plainEffect_withWaiting (s : State) (w : List WaitingText) (x : Galley) (i : Item) :
    plainEffect s (x.withWaiting w) i = (plainEffect s x i).withWaiting w := by
  cases i with
  | size | quad => simp only [plainEffect]; split <;> rfl
  | _ => rfl

theorem lineCommitted_withWaiting (g : GalleyId) (e : LineEnd) (k : LineSlot) (w : List WaitingText) (s : State) :
    lineCommitted g e k (s.modGalley g (Galley.withWaiting w)) =
      (lineCommitted g e k s).modGalley g (Galley.withWaiting w) := by
  have galley : (s.modGalley g (Galley.withWaiting w)).galley g = (s.galley g).withWaiting w :=
    State.galley_modGalley_self ..
  have record : lineRecord (s.modGalley g (Galley.withWaiting w)).truncates g ((s.galley g).withWaiting w) e =
      lineRecord s.truncates g (s.galley g) e := rfl
  have builder : builderAfter ((s.galley g).withWaiting w) e = builderAfter (s.galley g) e := rfl
  have put : ∀ r : LineRecord, putLine k r (s.modGalley g (Galley.withWaiting w)) =
      (putLine k r s).modGalley g (Galley.withWaiting w) := fun _ => rfl
  rw [lineCommitted, galley, record, builder, put, modGalley_modGalley, lineCommitted, modGalley_modGalley]
  rfl

theorem commit_withWaiting (g : GalleyId) (e : LineEnd) (w : List WaitingText) (s : State) :
    commit g e (s.modGalley g (Galley.withWaiting w)) = (commit g e s).modGalley g (Galley.withWaiting w) := by
  have galley : (s.modGalley g (Galley.withWaiting w)).galley g = (s.galley g).withWaiting w :=
    State.galley_modGalley_self ..
  have slot : (s.modGalley g (Galley.withWaiting w)).freeSlot = s.freeSlot := rfl
  cases h : s.freeSlot with
  | none => rw [commit, slot, h, commit, h]
  | some k =>
    have only : ∀ (lines leaving : List FontSlot) (t : State), (commitReport lines leaving t).galleys = t.galleys :=
      fun lines leaving t => (recordsOnly_commitReport lines leaving t).galleys
    have record : lineRecord (s.modGalley g (Galley.withWaiting w)).truncates g ((s.galley g).withWaiting w) e =
        lineRecord s.truncates g (s.galley g) e := rfl
    have leaving : leavingSlots ((s.galley g).withWaiting w) e = leavingSlots (s.galley g) e := rfl
    rw [commit_of_free (slot.trans h), commit_of_free h, galley, record, leaving, lineCommitted_withWaiting,
      (ignoresGalleys_commitReport _ _).modGalley (only _ _)]
    rfl

theorem fontTaken_withWaiting (g : GalleyId) (i : FontSlot) (w : List WaitingText) (s : State) :
    fontTaken g i (s.modGalley g (Galley.withWaiting w)) = (fontTaken g i s).modGalley g (Galley.withWaiting w) := by
  have font : ∀ (t : State) (f : Galley → Galley), raiseCurrent i (t.modGalley g f) = (raiseCurrent i t).modGalley g f :=
    fun _ _ => rfl
  rw [fontTaken, fontTaken, modGalley_modGalley, font, font, modGalley_modGalley]
  rfl

/-- An item takes no notice of the waiting text, but the end of the galley, which refuses it (R38). -/
theorem applyItem_withWaiting {i : Item} (h : i ≠ .endGalley) (g : GalleyId) (w : List WaitingText) (s : State) :
    applyItem g i (s.modGalley g (Galley.withWaiting w)) = (applyItem g i s).modGalley g (Galley.withWaiting w) := by
  have galley : (s.modGalley g (Galley.withWaiting w)).galley g = (s.galley g).withWaiting w :=
    State.galley_modGalley_self ..
  cases plain : i.isPlain with
  | true =>
    rw [applyItem_plain plain, applyItem_plain plain, modGalley_modGalley, modGalley_modGalley]
    exact modGalley_congr (plainEffect_withWaiting s w _ i)
  | false =>
    cases i with
    | endGalley => exact absurd rfl h
    | lineEnd =>
      show commit g (paragraphEnd ((s.modGalley g (Galley.withWaiting w)).galley g).builder) _ = _
      rw [galley, commit_withWaiting]
      rfl
    | glyph c =>
      have added : glyphAdded g c (s.modGalley g (Galley.withWaiting w)) =
          (glyphAdded g c s).modGalley g (Galley.withWaiting w) := by
        rw [glyphAdded, galley, modGalley_modGalley, glyphAdded, modGalley_modGalley]
        rfl
      have uses : ((s.galley g).withWaiting w).builder.usesSlot ((s.galley g).withWaiting w).fontSlot =
          (s.galley g).builder.usesSlot (s.galley g).fontSlot := rfl
      rw [applyItem_glyph, applyItem_glyph, galley, uses, added]
      split <;> rfl
    | fontSelect n =>
      have resolves : (s.modGalley g (Galley.withWaiting w)).resolve n = s.resolve n := rfl
      cases found : s.resolve n with
      | none =>
        rw [applyItem_fontSelect_none (resolves.trans found), applyItem_fontSelect_none found, modGalley_modGalley,
          modGalley_modGalley]
        rfl
      | some k =>
        by_cases same : (s.galley g).font = some k
        · rw [applyItem_fontSelect_same (resolves.trans found) (by rw [galley]; exact same),
            applyItem_fontSelect_same found same]
        · rw [applyItem_fontSelect_other (resolves.trans found) (by rw [galley]; exact same),
            applyItem_fontSelect_other found same, galley, fontTaken_withWaiting,
            show ((s.galley g).withWaiting w).font = (s.galley g).font from rfl]
          cases (s.galley g).font with
          | none => rfl
          | some old =>
            exact (ignoresGalleys_currentGone old).modGalley (fun t => (recordsOnly_currentGone old t).galleys) g _ _
    | space | discretionary | size | leading | reverse | measure | quad | spaces | track | hyphControl | zones | bad =>
      cases plain

/-! ### The end of the galley (R38) -/

/-- The galley after its end-galley item; bytes after the item are bad (R38). -/
def Galley.ended (x : Galley) : Galley :=
  { x with
    state := .ending, buffer := [], waiting := [], builder := Builder.blank
    sticky := if x.buffer = [] then x.sticky else x.sticky ||| stickyBadItem }

theorem galleyEnding_eq (g : GalleyId) (s : State) :
    galleyEnding g s = refuseTexts (s.galley g).waiting (s.modGalley g Galley.ended) := by
  rw [galleyEnding]
  split
  · next empty =>
    rw [refuseWaiting, modGalley_modGalley, State.galley_modGalley_self]
    refine congrArg _ (modGalley_congr ?_)
    simp [Galley.ended, empty]
  · next full =>
    rw [refuseWaiting, State.addSticky, modGalley_modGalley, modGalley_modGalley, State.galley_modGalley_self]
    refine congrArg _ (modGalley_congr ?_)
    simp [Galley.ended, full]

/-- The line in progress committed before the galley ends (R62). -/
def endCommit (g : GalleyId) (s : State) : State :=
  if (s.galley g).builder.glyphCount = 0 then s else commit g (paragraphEnd (s.galley g).builder) s

theorem applyItem_endGalley (g : GalleyId) (s : State) :
    applyItem g .endGalley s =
      refuseTexts ((endCommit g s).galley g).waiting ((endCommit g s).modGalley g Galley.ended) :=
  (galleyEnding_eq g (endCommit g s) :)

theorem itemTaken_endCommit (g : GalleyId) (s : State) : ItemTaken g s (endCommit g s) := by
  unfold endCommit
  split
  · exact .refl s
  · exact .commit _ s

theorem endCommit_withWaiting (g : GalleyId) (w : List WaitingText) (s : State) :
    endCommit g (s.modGalley g (Galley.withWaiting w)) = (endCommit g s).modGalley g (Galley.withWaiting w) := by
  have galley : (s.modGalley g (Galley.withWaiting w)).galley g = (s.galley g).withWaiting w :=
    State.galley_modGalley_self ..
  have same : ((s.galley g).withWaiting w).builder = (s.galley g).builder := rfl
  rw [endCommit, galley, same, endCommit]
  split
  · rfl
  · exact commit_withWaiting ..

/-! ### The waiting text served (R29) -/

/-- A text that is served completes DONE with the number of its bytes. -/
def servedAs (ts : List WaitingText) (ch : ChannelId) (c : Completion) (d : Half) : Prop :=
  c = .done ∧ ∃ w ∈ ts, w.channel = ch ∧ d = BitVec.ofNat 16 w.text.length

theorem Answers.mono {how how' : ChannelId → Completion → Half → Prop} {chs : List ChannelId} {s t : State}
    (weaker : ∀ ch c d, how ch c d → how' ch c d) (h : Answers how chs s t) : Answers how' chs s t := by
  refine ⟨h.1, fun once ch hit => ?_⟩
  obtain ⟨c, d, ok, e⟩ := h.2 once ch hit
  exact ⟨c, d, weaker ch c d ok, e⟩

theorem answers_serveTexts (g : GalleyId) (ts : List WaitingText) (s : State) :
    ∃ n, n ≤ ts.length ∧ ((serveTexts g ts s).galley g).waiting = ts.drop n ∧
      Answers (servedAs ts) ((ts.take n).map (·.channel)) s (serveTexts g ts s) := by
  induction ts generalizing s with
  | nil => exact ⟨0, Nat.le_refl 0, by simp [serveTexts], .of_channels rfl⟩
  | cons w rest ih =>
    by_cases h : w.text.length ≤ (s.galley g).room
    · obtain ⟨n, le, waiting, answers⟩ := ih (finish w.channel .done w.text.length
        (s.modGalley g fun x => { x with buffer := x.buffer ++ w.text }))
      rw [serveTexts, if_pos h]
      refine ⟨n + 1, by simpa using le, by simpa using waiting, ?_⟩
      have first : Answers (servedAs (w :: rest)) [w.channel] s (finish w.channel .done w.text.length
          (s.modGalley g fun x => { x with buffer := x.buffer ++ w.text })) :=
        (answers_complete (how := servedAs (w :: rest)) ⟨rfl, w, List.mem_cons_self, rfl, rfl⟩
          (s.modGalley g fun x => { x with buffer := x.buffer ++ w.text })).congr rfl rfl
      exact first.append (answers.mono fun ch c d ⟨done, v, hv, e⟩ => ⟨done, v, List.mem_cons_of_mem _ hv, e⟩)
    · rw [serveTexts, if_neg h]
      exact ⟨0, Nat.zero_le _, by simp, (Answers.of_channels (s := s) rfl).congr rfl rfl⟩

end Sys2Proof.Machine
end

section
/-! PROOF. The taking of an item (O50), kind by kind, first without waiting text and then with it (R29, R30). -/

namespace Sys2Proof.Machine

theorem nearestLens_congr {s t : State} (h : t.config = s.config) (n : Nat) : nearestLens n t = nearestLens n s := by
  simp only [nearestLens, lensSizes, State.lensSize, State.setting, State.entry, h]

theorem plainEffect_congr {s t : State} (h : t.config = s.config) (x : Galley) (i : Item) :
    plainEffect t x i = plainEffect s x i := by
  cases i with
  | size n => simp only [plainEffect, nearestLens_congr h]
  | _ => rfl

theorem refuseTexts_galleys (ts : List WaitingText) (s : State) : (refuseTexts ts s).galleys = s.galleys := by
  obtain ⟨c, e⟩ := refuseTexts_only ts s
  rw [e]

/-- The part with the item's bytes out of the buffer (R36). -/
def itemRemoved (g : GalleyId) (rest : List Byte) (s : State) : State :=
  s.fresh.modGalley g fun x => { x with buffer := rest }

theorem itemRemoved_galley (g : GalleyId) (rest : List Byte) (s : State) :
    (itemRemoved g rest s).galley g = { s.galley g with buffer := rest } := by
  rw [itemRemoved, State.galley_modGalley_self]
  rfl

/-- After its item a galley without waiting text has none, and after the end of the galley none has. -/
theorem applyItem_waiting {g : GalleyId} {i : Item} {s : State} (h : (s.galley g).waiting = []) :
    ((applyItem g i s).galley g).waiting = [] := by
  by_cases e : i = .endGalley
  · subst e
    rw [applyItem_endGalley, State.galley, refuseTexts_galleys]
    exact congrArg Galley.waiting (State.galley_modGalley_self (endCommit g s) g Galley.ended)
  · rw [(itemTaken_applyItem e g s).waiting, h]

section Taken

variable {s : State} {g : GalleyId} {i : Item} {rest : List Byte} (engine : s.engine.state = .serving g)
  (opened : (s.galley g).state = .opened) (head : headItem (s.galley g).buffer = some (i, rest))
  (waiting : (s.galley g).waiting = [])
include engine opened head waiting

/-- Without waiting text the taking of an item is its effect. -/
theorem exec_takeItem (word : (s.galley g).builder.word = [] ∨ i.endsWord (s.galley g).builder.word.length = false)
    (slot : i = .lineEnd ∨ i = .endGalley ∧ (s.galley g).builder.glyphCount ≠ 0 → s.freeSlot.isSome) :
    exec .takeItem s = .next (react (applyItem g i (itemRemoved g rest s))) := by
  have none_ : ((itemRemoved g rest s).galley g).waiting = [] := by rw [itemRemoved_galley]; exact waiting
  rw [takeItem_takes engine opened head word slot, takeItem]
  exact congrArg (fun t => (.next (react t) : Answer)) (serveWaiting_of_none (applyItem_waiting none_))

/-- A plain item changes the galley by its effect. -/
theorem exec_takeItem_plain (plain : i.isPlain = true)
    (word : (s.galley g).builder.word = [] ∨ i.endsWord (s.galley g).builder.word.length = false) {f : Galley → Galley}
    (h : plainEffect s { s.galley g with buffer := rest } i = { f (s.galley g) with buffer := rest }) :
    exec .takeItem s = .next (react (s.fresh.modGalley g fun y => { f y with buffer := rest })) := by
  have noCommit : ¬ (i = .lineEnd ∨ i = .endGalley ∧ (s.galley g).builder.glyphCount ≠ 0) := by
    rintro (rfl | ⟨rfl, -⟩) <;> cases plain
  rw [exec_takeItem engine opened head waiting word fun c => absurd c noCommit, applyItem_plain plain, itemRemoved,
    modGalley_modGalley]
  refine congrArg (fun t => (.next (react t) : Answer)) (modGalley_congr ?_)
  exact (plainEffect_congr rfl _ i).trans h

end Taken

/-- A clamped parameter, as the statement says it. -/
theorem clampedIf_eq {b : Bool} {c : Prop} [Decidable c] (h : b = true ↔ c) (x : Galley) :
    x.clampedIf b = if c then { x with sticky := x.sticky ||| (1#16 <<< 8) } else x := by
  by_cases hc : c
  · rw [if_pos hc, Galley.clampedIf, if_pos (h.mpr hc)]; rfl
  · rw [if_neg hc, Galley.clampedIf, if_neg fun hb => hc (h.mp hb)]

theorem quadModeOf_eq_none : ∀ {v : Nat}, quadModeOf v = none ↔ 3 < v
  | 0 | 1 | 2 | 3 => by simp [quadModeOf]
  | n + 4 => by simp only [quadModeOf, true_iff]; omega

/-! ### Glyphs and spaces (R41, R49 to R52, R55, R56) -/

theorem openLine_keeps (x : Galley) :
    (openLine x).word = x.builder.word ∧ (openLine x).gap = x.builder.gap ∧
    (openLine x).glyphCount = x.builder.glyphCount := by
  unfold openLine
  split <;> exact ⟨rfl, rfl, rfl⟩

/-- The last glyph of the word is kerned against one of the same font and size (R51). -/
theorem kernLast_append (s : State) (before : List BGlyph) (last g : BGlyph) :
    kernLast s (before ++ [last]) g =
      before ++ [if last.slot = g.slot ∧ last.size = g.size then kernGlyph s last g.code else last] := by
  simp only [kernLast, List.getLast?_concat, List.dropLast_concat]
  split <;> rfl

/-- The first glyph of its font in the word kerns nothing. -/
theorem kernLast_unused {s : State} {w : List BGlyph} {g : BGlyph} (h : w.any (fun p => p.slot == g.slot) = false) :
    kernLast s w g = w := by
  rcases List.eq_nil_or_concat w with rfl | ⟨before, last, rfl⟩
  · rfl
  · rw [List.concat_eq_append] at h ⊢
    have other : last.slot ≠ g.slot := by simpa using List.any_eq_false.mp h last (by simp)
    rw [kernLast_append, if_neg fun same => other same.1]

theorem addGlyph_eq {s : State} {x : Galley} {slot : FontSlot} (font : x.font = some slot) (c : GlyphCode) :
    addGlyph s x c = { openLine x with
      afterBreak := false
      word := kernLast s x.builder.word (measureGlyph s slot x.size x.track c) ++
        [measureGlyph s slot x.size x.track c] } := by
  obtain ⟨word, -⟩ := openLine_keeps x
  rw [addGlyph]
  simp only [Galley.fontSlot, font, Option.getD_some, word]

theorem addSpace_dropped {x : Galley} (h : x.builder.afterBreak = true) (k : SpaceKind) : addSpace x k = x.builder := by
  rw [addSpace, if_pos h]

theorem addSpace_fits {x : Galley} {k : SpaceKind} (h : x.builder.afterBreak = false)
    (fits : 0 < x.builder.glyphCount ∨
      gapMin x.builder.gap + (measureSpace (openLine x).latched k x.size).min ≤ (openLine x).latched.measure) :
    addSpace x k = { openLine x with
      gap := x.builder.gap ++ [measureSpace (openLine x).latched k x.size] } := by
  obtain ⟨-, gap, count⟩ := openLine_keeps x
  have off : ¬ (x.builder.glyphCount = 0 ∧ (openLine x).latched.measure <
      gapMin x.builder.gap + (measureSpace (openLine x).latched k x.size).min) := by omega
  simp only [addSpace, h, Bool.false_eq_true, if_false, gap, count, if_neg off]

theorem addSpace_overset {x : Galley} {k : SpaceKind} (h : x.builder.afterBreak = false)
    (none_ : x.builder.glyphCount = 0) (wide : (openLine x).latched.measure <
      gapMin x.builder.gap + (measureSpace (openLine x).latched k x.size).min) :
    addSpace x k = { openLine x with heldOverset := true } := by
  obtain ⟨-, gap, count⟩ := openLine_keeps x
  simp only [addSpace, h, Bool.false_eq_true, if_false, gap, count, none_, true_and, if_pos wide]

theorem addMark_marks {b : Builder} (word : b.word ≠ []) (fresh : b.word.length ∉ b.marks) :
    addMark b = { b with marks := b.marks ++ [b.word.length] } := by
  simp [addMark, word, fresh]

theorem addMark_drops {b : Builder} (h : b.word = [] ∨ b.word.length ∈ b.marks) : addMark b = b := by
  simp [addMark, h]

/-- The glyph as it is measured for the galley (R50). -/
def Galley.glyphOf (x : Galley) (s : State) (slot : FontSlot) (c : GlyphCode) : BGlyph := measureGlyph s slot x.size x.track c

/-- The glyph in the word, before its font's partial references rise. -/
theorem glyphAdded_itemRemoved {s : State} {g : GalleyId} {slot : FontSlot} (font : (s.galley g).font = some slot)
    (rest : List Byte) (c : GlyphCode) : glyphAdded g c (itemRemoved g rest s) = s.fresh.modGalley g fun y => { y with
      builder := { openLine (s.galley g) with
        afterBreak := false
        word := kernLast s (s.galley g).builder.word ((s.galley g).glyphOf s slot c) ++ [(s.galley g).glyphOf s slot c] }
      buffer := rest } := by
  have added : addGlyph (itemRemoved g rest s) { s.galley g with buffer := rest } c = { openLine (s.galley g) with
      afterBreak := false
      word := kernLast s (s.galley g).builder.word ((s.galley g).glyphOf s slot c) ++ [(s.galley g).glyphOf s slot c] } :=
    addGlyph_eq (s := itemRemoved g rest s) (x := { s.galley g with buffer := rest }) font c
  rw [glyphAdded, itemRemoved_galley, added, itemRemoved, modGalley_modGalley]
  rfl

section Taken

variable {s : State} {g : GalleyId} {i : Item} {rest : List Byte} {c : GlyphCode} {slot : FontSlot}
  (engine : s.engine.state = .serving g) (opened : (s.galley g).state = .opened)
  (head : headItem (s.galley g).buffer = some (i, rest)) (waiting : (s.galley g).waiting = [])
include engine opened head waiting

/-- A clamped parameter changes the galley and marks it where it was brought into range. -/
theorem exec_takeItem_parameter (plain : i.isPlain = true) (word : i.endsWord (s.galley g).builder.word.length = false)
    {b : Bool} {p : Prop} [Decidable p] (h : b = true ↔ p) {f : Galley → Galley}
    (comm : ∀ y, { f y with buffer := rest } = f { y with buffer := rest })
    (effect : plainEffect s { s.galley g with buffer := rest } i = (f { s.galley g with buffer := rest }).clampedIf b) :
    exec .takeItem s = .next (react (s.fresh.modGalley g fun y =>
      { (if p then { f y with sticky := (f y).sticky ||| (1#16 <<< 8) } else f y) with buffer := rest })) := by
  refine exec_takeItem_plain engine opened head waiting plain (.inr word)
    (f := fun y => if p then { f y with sticky := (f y).sticky ||| (1#16 <<< 8) } else f y) ?_
  rw [effect, clampedIf_eq h, ← comm]
  split <;> rfl

variable (item : i = .glyph c) (font : (s.galley g).font = some slot) (short : (s.galley g).builder.word.length < 64)
include item font short

theorem exec_takeItem_glyph : exec .takeItem s = .next (react
    (if (s.galley g).builder.usesSlot slot then glyphAdded g c (itemRemoved g rest s)
    else raisePartial slot (glyphAdded g c (itemRemoved g rest s)))) := by
  subst item
  have fontSlot : ((itemRemoved g rest s).galley g).fontSlot = slot := by
    rw [itemRemoved_galley]; simp [Galley.fontSlot, font]
  rw [exec_takeItem engine opened head waiting (.inr (by simp [Item.endsWord, short])) (by simp), applyItem_glyph, fontSlot,
    itemRemoved_galley]

theorem exec_takeItem_glyph_used (used : (s.galley g).builder.usesSlot slot = true) :
    exec .takeItem s = .next (react (s.fresh.modGalley g fun y => { y with
      builder := { openLine (s.galley g) with
        afterBreak := false
        word := kernLast s (s.galley g).builder.word ((s.galley g).glyphOf s slot c) ++ [(s.galley g).glyphOf s slot c] }
      buffer := rest })) := by
  rw [exec_takeItem_glyph engine opened head waiting item font short, if_pos used, glyphAdded_itemRemoved font]

theorem exec_takeItem_glyph_unused (unused : (s.galley g).builder.usesSlot slot = false) :
    exec .takeItem s = .next (react ((s.fresh.modGalley g fun y => { y with
      builder := { openLine (s.galley g) with
        afterBreak := false
        word := (s.galley g).builder.word ++ [(s.galley g).glyphOf s slot c] }
      buffer := rest }).modFont slot fun f => { f with partialRefs := f.partialRefs + 1 })) := by
  have first : (s.galley g).builder.word.any (fun p => p.slot == slot) = false := (Bool.or_eq_false_iff.mp unused).2
  rw [exec_takeItem_glyph engine opened head waiting item font short, if_neg (by simp [unused]),
    glyphAdded_itemRemoved font, kernLast_unused (g := (s.galley g).glyphOf s slot c) first]
  rfl

end Taken

/-! ### Fonts (R7, R9, R39) -/

theorem FontRecord.reported_current_of_live {r : FontRecord} (live : r.state = .live) (idle : r.amend = none) :
    r.reported 0 0 0 1 = { r with currentRefs := r.currentRefs - 1 } := by
  have unchanged : (r.counted 0 0 0 1).examined = r.counted 0 0 0 1 := by
    rw [examined_of_live (r := r.counted 0 0 0 1) live, counted_amend, idle]
  rw [reported, if_pos (by decide), unchanged]
  rfl

theorem FontRecord.reported_current_of_retiring {r : FontRecord} (retiring : r.state = .retiring)
    (current : r.currentRefs ≤ 1) (line : r.lineRefs = 0) (partials : r.partialRefs = 0) :
    (r.reported 0 0 0 1).state = .empty := by
  have gone : (r.counted 0 0 0 1).lineRefs = 0 ∧ (r.counted 0 0 0 1).currentRefs = 0 ∧
      (r.counted 0 0 0 1).partialRefs = 0 := by simp [counted, line, partials]; omega
  rw [reported, if_pos (by decide), examined_of_retiring (r := r.counted 0 0 0 1) retiring, if_pos gone]
  rfl

/-- A font selected that is not the current one: its references rise, and the old font's fall. -/
theorem takeFont_records {g : GalleyId} {k : FontSlot} {rest : List Byte} {s t : State} (other : (s.galley g).font ≠ some k)
    (h : t = match (s.galley g).font with
      | some old => currentGone old (fontTaken g k (itemRemoved g rest s))
      | none => fontTaken g k (itemRemoved g rest s)) :
    t.galley g = { s.galley g with font := some k, buffer := rest } ∧
    (t.font k = { s.font k with currentRefs := (s.font k).currentRefs + 1 }) ∧
    (∀ old, (s.galley g).font = some old → t.font old = (s.font old).reported 0 0 0 1) ∧
    ∀ j, j ≠ k → (s.galley g).font ≠ some j → t.font j = s.font j := by
  have taken : (fontTaken g k (itemRemoved g rest s)).galley g = { s.galley g with font := some k, buffer := rest } := by
    show ((itemRemoved g rest s).modGalley g fun x => { x with font := some k }).galley g = _
    rw [State.galley_modGalley_self, itemRemoved_galley]
  have self : (fontTaken g k (itemRemoved g rest s)).font k =
      { s.font k with currentRefs := (s.font k).currentRefs + 1 } := State.font_modFont_self ..
  have rest_ : ∀ j, j ≠ k → (fontTaken g k (itemRemoved g rest s)).font j = s.font j := fun j ne =>
    State.font_modFont_ne _ _ (Ne.symm ne)
  cases font : (s.galley g).font with
  | none =>
    simp only [font] at h
    subst h
    exact ⟨taken, self, nofun, fun j ne _ => rest_ j ne⟩
  | some old =>
    simp only [font] at h
    have ne : old ≠ k := fun e => other (by rw [font, e])
    have report := (reported_currentGone old (fontTaken g k (itemRemoved g rest s))).font
    have only := recordsOnly_currentGone old (fontTaken g k (itemRemoved g rest s))
    rw [← h] at report only
    refine ⟨(only.galley g).trans taken, ?_, fun old' e => ?_, fun j n1 n2 => ?_⟩
    · rw [report, self, if_neg (Ne.symm ne), FontRecord.reported_zero]
    · cases e
      rw [report, rest_ _ ne, if_pos rfl]
    · rw [report, rest_ _ n1, if_neg fun e : j = old => n2 (by rw [e]), FontRecord.reported_zero]

/-! ### The end of a line (R62, R67, R68) -/

section Committed

variable {g : GalleyId} {e : LineEnd} {k : LineSlot} {s : State} (free : s.freeSlot = some k)
include free

theorem commit_lineAt : (commit g e s).lineAt k = some (lineRecord s.truncates g (s.galley g) e) := by
  rw [(commit_recordsOnly free).lineAt]
  exact lineCommitted_lineAt ..

theorem commit_lineAt_ne {j : LineSlot} (ne : j ≠ k) : (commit g e s).lineAt j = s.lineAt j := by
  rw [(commit_recordsOnly free).lineAt]
  exact lineCommitted_lineAt_ne ne s

theorem commit_linesOf : (commit g e s).linesOf g = s.linesOf g ++ [k] := by
  rw [(commit_recordsOnly free).linesOf]
  exact lineCommitted_linesOf ..

theorem commit_engine : (commit g e s).engine = { s.engine with state := .idle } := (commit_recordsOnly free).engine

theorem commit_galley : (commit g e s).galley g =
    { s.galley g with
      pendingReverse := 0, seq := (s.galley g).seq + 1
      sticky := (s.galley g).sticky ||| (lineRecord s.truncates g (s.galley g) e).flags.sticky
      builder := builderAfter (s.galley g) e } := by
  rw [(commit_recordsOnly free).galley]
  exact lineCommitted_galley ..

end Committed

/-- The line in progress ended by the paragraph, with the item's bytes out of the buffer. -/
def paragraphEnded (g : GalleyId) (rest : List Byte) (s : State) : State :=
  commit g (paragraphEnd (s.galley g).builder) (itemRemoved g rest s)

/-- The record of the line that the paragraph ends. -/
def paragraphRecord (g : GalleyId) (s : State) : LineRecord :=
  lineRecord s.truncates g (s.galley g) (paragraphEnd (s.galley g).builder)

theorem lineRecord_itemRemoved (g : GalleyId) (rest : List Byte) (e : LineEnd) (s : State) :
    lineRecord (itemRemoved g rest s).truncates g ((itemRemoved g rest s).galley g) e =
      lineRecord s.truncates g (s.galley g) e := by
  rw [itemRemoved_galley]
  rfl

/-- What the commit of a line by the paragraph makes of lines, engine and galley, and its report. -/
theorem paragraphEnded_spec {g : GalleyId} {rest : List Byte} {k : LineSlot} {s : State} (free : s.freeSlot = some k) :
    (paragraphEnded g rest s).lineAt k = some (paragraphRecord g s) ∧
    (∀ j, j ≠ k → (paragraphEnded g rest s).lineAt j = s.lineAt j) ∧
    (paragraphEnded g rest s).linesOf g = s.linesOf g ++ [k] ∧
    (paragraphEnded g rest s).engine = { s.engine with state := .idle } ∧
    (paragraphEnded g rest s).galley g = { s.galley g with
      buffer := rest, pendingReverse := 0, seq := (s.galley g).seq + 1
      sticky := (s.galley g).sticky ||| (paragraphRecord g s).flags.sticky
      builder := builderAfter (s.galley g) (paragraphEnd (s.galley g).builder) } ∧
    (HeldOnce s → ReferencesReported s (paragraphEnded g rest s)
      (fun j => if (paragraphRecord g s).hasGlyphOf j then 1 else 0) 0
      (fun j => if (s.galley g).builder.hasGlyphOf j then 1 else 0) 0) := by
  have free' : (itemRemoved g rest s).freeSlot = some k := free
  have record := lineRecord_itemRemoved g rest (paragraphEnd (s.galley g).builder) s
  refine ⟨?_, fun j ne => commit_lineAt_ne free' ne, commit_linesOf free', commit_engine free', ?_, fun once => ?_⟩
  · rw [paragraphEnded, commit_lineAt free', record, paragraphRecord]
  · rw [paragraphEnded, commit_galley free', record, itemRemoved_galley]
    rfl
  · have apart : AmendsApart (itemRemoved g rest s) := once.amendsApart
    have report := commit_references (g := g) (e := paragraphEnd (s.galley g).builder) (s := itemRemoved g rest s)
      (by rw [free']; rfl) apart
    simp only [itemRemoved_galley, builderAfter_hasGlyphOf_of_carry (e := paragraphEnd (s.galley g).builder) rfl,
      Bool.not_false, Bool.and_true] at report
    exact report.congr rfl rfl rfl rfl

/-! ### The end of the galley (R38, R62) -/

/-- Without waiting text the end of the galley refuses nothing. -/
theorem applyItem_endGalley_of_none {g : GalleyId} {s : State} (h : (s.galley g).waiting = []) :
    applyItem g .endGalley s = (endCommit g s).modGalley g Galley.ended := by
  rw [applyItem_endGalley, (itemTaken_endCommit g s).waiting, h]
  rfl

theorem ended_of_none {x : Galley} (h : x.waiting = []) (rest : List Byte) :
    Galley.ended { x with buffer := rest } = { x with
      state := .ending, buffer := [], builder := Builder.blank
      sticky := if rest = [] then x.sticky else x.sticky ||| (1#16 <<< 9) } := by
  rw [h]
  rfl

/-- The galley ended with the item's bytes out of the buffer: bytes left over are bad. -/
theorem ended_sticky (x : Galley) :
    x.ended.sticky = x.sticky ||| (if x.buffer = [] then 0#16 else 1#16 <<< 9) := by
  unfold Galley.ended
  split
  · simp
  · rfl

end Sys2Proof.Machine
end

section
/-! PROOF. The taking of an item has the effect of its kind (O50). -/

namespace Sys2Proof.Machine

section Taken

variable {s : State} {g : GalleyId} {i : Item} {rest : List Byte} (engine : s.engine.state = .serving g)
  (opened : (s.galley g).state = .opened) (head : headItem (s.galley g).buffer = some (i, rest))
  (waiting : (s.galley g).waiting = [])

/-- An item leaves alone what is not composition. -/
theorem applyItem_only (g : GalleyId) (i : Item) (s : State) : ∃ y c x e st,
    applyItem g i s = { s with fonts := y, channels := c, galleys := x, engine := e, store := st } := by
  by_cases h : i = .endGalley
  · subst h
    obtain ⟨y, c, x, e, st, only⟩ := (itemTaken_endCommit g s).only
    obtain ⟨c', refused⟩ := refuseTexts_only ((endCommit g s).galley g).waiting ((endCommit g s).modGalley g Galley.ended)
    rw [applyItem_endGalley, refused]
    exact ⟨y, c', _, e, st, by rw [only]; rfl⟩
  · exact (itemTaken_applyItem h g s).only

theorem applyItem_others {h : GalleyId} (ne : h ≠ g) (i : Item) (s : State) : (applyItem g i s).galley h = s.galley h := by
  by_cases e : i = .endGalley
  · subst e
    rw [applyItem_endGalley, State.galley, refuseTexts_galleys]
    show ((endCommit g s).modGalley g Galley.ended).galley h = _
    rw [State.galley_modGalley_ne _ _ (Ne.symm ne), (itemTaken_endCommit g s).others h ne]
  · exact (itemTaken_applyItem e g s).others h ne

theorem applyItem_buffer (g : GalleyId) (i : Item) (s : State) :
    ((applyItem g i s).galley g).buffer = if i = .endGalley then [] else (s.galley g).buffer := by
  by_cases e : i = .endGalley
  · subst e
    rw [applyItem_endGalley, State.galley, refuseTexts_galleys, if_pos rfl]
    exact congrArg Galley.buffer (State.galley_modGalley_self (endCommit g s) g Galley.ended)
  · rw [(itemTaken_applyItem e g s).buffer, if_neg e]

include engine opened head waiting

theorem taken_completes (word : (s.galley g).builder.word = [] ∨ i.endsWord (s.galley g).builder.word.length = false)
    (slot : i = .lineEnd ∨ i = .endGalley → s.freeSlot.isSome) :
    ∃ t, exec .takeItem s = .next (react t) ∧ (t.galley g).buffer = (if i = .endGalley then [] else rest) ∧
      (t.galley g).waiting = [] ∧ (∀ h, h ≠ g → t.galley h = s.galley h) ∧ t.config = s.config ∧
      t.photo = s.photo ∧ t.film = s.film ∧ t.proof = s.proof ∧ t.sensors = s.sensors := by
  obtain ⟨y, c, x, e, st, only⟩ := applyItem_only g i (itemRemoved g rest s)
  have own := itemRemoved_galley g rest s
  refine ⟨_, exec_takeItem engine opened head waiting word fun h => slot (h.imp_right (·.1)), ?_,
    applyItem_waiting (by rw [own]; exact waiting), fun h ne => ?_, ?_⟩
  · rw [applyItem_buffer, own]
  · rw [applyItem_others ne, itemRemoved]
    exact State.galley_modGalley_ne _ _ (Ne.symm ne)
  · rw [only]
    exact ⟨rfl, rfl, rfl, rfl, rfl⟩

end Taken

/-! ### With waiting text (R29, R30, R38) -/

/-- The state without the galley's waiting text. -/
def quietened (g : GalleyId) (s : State) : State := s.modGalley g (Galley.withWaiting [])

theorem quietened_galley (g : GalleyId) (s : State) : (quietened g s).galley g = (s.galley g).withWaiting [] :=
  State.galley_modGalley_self ..

/-- What the item makes of the state without waiting text. -/
def quietTaken (g : GalleyId) (i : Item) (rest : List Byte) (s : State) : State :=
  applyItem g i (itemRemoved g rest (quietened g s))

theorem itemRemoved_quietened_galley (g : GalleyId) (rest : List Byte) (s : State) :
    (itemRemoved g rest (quietened g s)).galley g = { s.galley g with buffer := rest, waiting := [] } := by
  rw [itemRemoved_galley, quietened_galley]
  rfl

theorem itemRemoved_quietened_waiting (g : GalleyId) (rest : List Byte) (s : State) :
    ((itemRemoved g rest (quietened g s)).galley g).waiting = [] := by
  rw [itemRemoved_quietened_galley]

theorem itemRemoved_eq_withWaiting (g : GalleyId) (rest : List Byte) (s : State) :
    itemRemoved g rest s =
      (itemRemoved g rest (quietened g s)).modGalley g (Galley.withWaiting (s.galley g).waiting) := by
  show s.fresh.modGalley g _ = ((s.fresh.modGalley g (Galley.withWaiting [])).modGalley g _).modGalley g _
  rw [modGalley_modGalley, modGalley_modGalley]
  exact modGalley_congr rfl

theorem takeItem_quietened (g : GalleyId) (i : Item) (rest : List Byte) (s : State) :
    takeItem g i rest (quietened g s).fresh = quietTaken g i rest s :=
  serveWaiting_of_none (applyItem_waiting (itemRemoved_quietened_waiting g rest s))

/-- After its item the galley is served its waiting text. -/
theorem takeItem_served {i : Item} (h : i ≠ .endGalley) (g : GalleyId) (rest : List Byte) (s : State) :
    takeItem g i rest s.fresh = serveTexts g (s.galley g).waiting
      ((quietTaken g i rest s).modGalley g (Galley.withWaiting (s.galley g).waiting)) := by
  show serveWaiting g (applyItem g i (itemRemoved g rest s)) = _
  rw [itemRemoved_eq_withWaiting, applyItem_withWaiting h, serveWaiting, State.galley_modGalley_self]
  rfl

/-- The end of the galley refuses its waiting text. -/
theorem takeItem_refused (g : GalleyId) (rest : List Byte) (s : State) :
    takeItem g .endGalley rest s.fresh =
      refuseTexts (s.galley g).waiting (quietTaken g .endGalley rest s) := by
  have ends : ((applyItem g .endGalley (itemRemoved g rest s)).galley g).waiting = [] := by
    rw [applyItem_endGalley, State.galley, refuseTexts_galleys]
    exact congrArg Galley.waiting (State.galley_modGalley_self (endCommit g (itemRemoved g rest s)) g Galley.ended)
  show serveWaiting g (applyItem g .endGalley (itemRemoved g rest s)) = _
  rw [serveWaiting_of_none ends, quietTaken, applyItem_endGalley_of_none (itemRemoved_quietened_waiting g rest s),
    applyItem_endGalley, itemRemoved_eq_withWaiting, endCommit_withWaiting, State.galley_modGalley_self, modGalley_modGalley]
  rfl

/-- The texts that wait hold other channels than the amends that an item may apply. -/
theorem quietTaken_channel {s : State} (once : HeldOnce s) {g : GalleyId} {i : Item} {rest : List Byte} {w : WaitingText}
    (hw : w ∈ (s.galley g).waiting) : (quietTaken g i rest s).channel w.channel = s.channel w.channel := by
  have other : ∀ j a, ((itemRemoved g rest (quietened g s)).font j).amend = some a → a.channel ≠ w.channel :=
    fun j a held => once.amend_ne_waiting (i := j) held hw
  by_cases e : i = .endGalley
  · subst e
    rw [quietTaken, applyItem_endGalley_of_none (itemRemoved_quietened_waiting g rest s)]
    exact (itemTaken_endCommit g _).channel _ other
  · exact (itemTaken_applyItem e g _).channel _ other

theorem quietTaken_endGalley (g : GalleyId) (rest : List Byte) (s : State) :
    quietTaken g .endGalley rest s = (endCommit g (itemRemoved g rest (quietened g s))).modGalley g Galley.ended :=
  applyItem_endGalley_of_none (itemRemoved_quietened_waiting g rest s)

/-- The texts refused at the end of the galley complete WRONG_STATE, and nothing else comes of them. -/
theorem takeItem_refuses {s : State} {g : GalleyId} {rest : List Byte} (once : HeldOnce s) :
    ∃ t, takeItem g .endGalley rest s.fresh = t ∧
      t = { quietTaken g .endGalley rest s with galleys := t.galleys, channels := t.channels } ∧
      t.galleys = (quietTaken g .endGalley rest s).galleys ∧
      (t.galley g).buffer = [] ∧ (t.galley g).waiting = [] ∧
      (∀ w ∈ (s.galley g).waiting, s.answered t w.channel .wrongState 0) ∧
      ∀ ch, (∀ w ∈ (s.galley g).waiting, w.channel ≠ ch) → t.channel ch = (quietTaken g .endGalley rest s).channel ch := by
  set texts := (s.galley g).waiting with texts_eq
  set u := quietTaken g .endGalley rest s with u_eq
  obtain ⟨c, only⟩ := refuseTexts_only texts u
  have galleys := refuseTexts_galleys texts u
  have ended : u.galley g = ((endCommit g (itemRemoved g rest (quietened g s))).galley g).ended := by
    rw [u_eq, quietTaken_endGalley]
    exact State.galley_modGalley_self ..
  have own : (refuseTexts texts u).galley g = u.galley g := by rw [State.galley, galleys, State.galley]
  have answers := answers_refuseTexts texts u
  refine ⟨refuseTexts texts u, takeItem_refused g rest s, ?_, galleys, ?_, ?_, fun w hw => ?_, fun ch out => ?_⟩
  · rw [only]
  · rw [own, ended]
    rfl
  · rw [own, ended]
    rfl
  · obtain ⟨c, d, ⟨rfl, rfl⟩, completed⟩ := answers.2 (once.waiting_nodup g) _ (List.mem_map_of_mem hw)
    exact answered_of_completed (completed.trans (by rw [quietTaken_channel once hw]))
  · exact answers.1 ch fun hit => by
      obtain ⟨w, hw, e⟩ := List.mem_map.mp hit
      exact out w hw e

theorem headItem_length {buf rest : List Byte} {i : Item} (h : headItem buf = some (i, rest)) :
    rest.length ≤ buf.length := by
  cases buf with
  | nil => cases h
  | cons b tail =>
    simp only [headItem] at h
    split at h
    · cases h
      simp only [List.length_drop, List.length_cons]
      omega
    · cases h

/-- The texts served after an item: those that fit are appended in order and complete DONE. -/
theorem takeItem_serves {s : State} {g : GalleyId} {i : Item} {rest : List Byte} (h : i ≠ .endGalley) (once : HeldOnce s)
    (fill : rest.length ≤ 1024) :
    ∃ t, takeItem g i rest s.fresh = t ∧
      t = { quietTaken g i rest s with galleys := t.galleys, channels := t.channels } ∧
      (∀ h, h ≠ g → t.galley h = (quietTaken g i rest s).galley h) ∧
      t.galley g = { (quietTaken g i rest s).galley g with
        buffer := (t.galley g).buffer, waiting := (t.galley g).waiting } ∧
      ∃ n, n ≤ (s.galley g).waiting.length ∧
        (t.galley g).buffer = rest ++ ((s.galley g).waiting.take n).flatMap (·.text) ∧
        (t.galley g).waiting = (s.galley g).waiting.drop n ∧ (t.galley g).buffer.length ≤ 1024 ∧
        (∀ next, (s.galley g).waiting[n]? = some next → 1024 < (t.galley g).buffer.length + next.text.length) ∧
        (∀ w ∈ (s.galley g).waiting.take n, s.answered t w.channel .done (BitVec.ofNat 16 w.text.length)) ∧
        ∀ ch, (∀ w ∈ (s.galley g).waiting.take n, w.channel ≠ ch) → t.channel ch = (quietTaken g i rest s).channel ch := by
  set texts := (s.galley g).waiting with texts_eq
  set u := quietTaken g i rest s with u_eq
  set v := u.modGalley g (Galley.withWaiting texts) with v_eq
  have buffer : (u.galley g).buffer = rest := by
    rw [u_eq, quietTaken, (itemTaken_applyItem h g _).buffer, itemRemoved_quietened_galley]
  have own : v.galley g = (u.galley g).withWaiting texts := State.galley_modGalley_self ..
  have ownBuffer : (v.galley g).buffer = rest := by rw [own]; exact buffer
  obtain ⟨frame, others⟩ := serveTexts_frame g texts v
  obtain ⟨n, le, galley, room, next⟩ := serveTexts_galley g texts v (by rw [ownBuffer]; exact fill)
  obtain ⟨m, le', waiting, answers⟩ := answers_serveTexts g texts v
  have same : m = n := by
    rw [galley] at waiting
    have := congrArg List.length waiting
    simp only [List.length_drop] at this
    omega
  subst same
  refine ⟨serveTexts g texts v, takeItem_served h g rest s, ?_, fun k ne => ?_, ?_, m, le, ?_, waiting, room, next,
    fun w hw => ?_, fun ch out => ?_⟩
  · exact frame.trans rfl
  · rw [others k ne, v_eq, State.galley_modGalley_ne _ _ (Ne.symm ne)]
  · rw [galley, own]
    rfl
  · rw [galley, ownBuffer]
  · have nodup : (texts.map (·.channel)).Nodup := once.waiting_nodup g
    have hit : w.channel ∈ (texts.take m).map (·.channel) := List.mem_map_of_mem hw
    obtain ⟨c, d, ⟨rfl, w', hw', e, rfl⟩, completed⟩ := answers.2 (nodup.sublist ((List.take_sublist m texts).map _)) _ hit
    have member := List.mem_of_mem_take hw
    obtain rfl : w' = w := List.inj_on_of_nodup_map nodup hw' member e
    refine answered_of_completed (completed.trans ?_)
    rw [show v.channel w'.channel = u.channel w'.channel from rfl, quietTaken_channel once member]
  · exact (answers.1 ch fun hit => by
      obtain ⟨w, hw, e⟩ := List.mem_map.mp hit
      exact out w hw e).trans rfl

/-- Settles O50: each kind by its effect on a galley without waiting text, and waiting text as what is served afterwards. -/
theorem takingAnItemHasTheEffectOfItsKind : Obligations.TakingAnItemHasTheEffectOfItsKind := by
  refine ⟨fun s g i rest engine opened head waiting => ?_, fun s g i rest engine opened head word slot fill once => ?_⟩
  · intro x becomes marked byParagraph clampedIf lineOf natural glyphOf spaceOf
    have space : ∀ k, measureSpace (openLine x).latched k x.size = spaceOf k := fun k => by cases k <;> rfl
    have plain : ∀ {f : Galley → Galley}, i.isPlain = true →
        (x.builder.word = [] ∨ i.endsWord x.builder.word.length = false) →
        plainEffect s { x with buffer := rest } i = { f x with buffer := rest } → becomes f :=
      fun p w e => exec_takeItem_plain engine opened head waiting p w e
    have lineBuilder : ∀ {b b' : Builder}, b = b' →
        ({ x with buffer := rest, builder := b } : Galley) = { x with buffer := rest, builder := b' } := fun h => by rw [h]
    have short : x.builder.word = [] → x.builder.word.length < 64 := fun h => by rw [h]; decide
    refine ⟨taken_completes engine opened head waiting, ?_, ?_, ?_, ?_, ?_, ?_, ?_, ?_, ?_, ?_, ?_, ?_, ?_, ?_, ?_, ?_,
      ?_, ?_, ?_, ?_, ?_, ?_, ?_, ?_, ?_, ?_, ?_⟩
    · intro c slot item font word uses
      have := exec_takeItem_glyph_used engine opened head waiting item font (short word) uses
      rwa [word] at this
    · intro c slot item font word uses
      have := exec_takeItem_glyph_unused engine opened head waiting item font (short word) uses
      rwa [word] at this
    · intro c slot before last item font word short uses kerned
      have := exec_takeItem_glyph_used engine opened head waiting item font short uses
      rwa [word, kernLast_append, List.append_assoc] at this
    · intro c slot item font word short uses
      exact exec_takeItem_glyph_unused engine opened head waiting item font short uses
    · rintro k rfl word after fits
      refine plain rfl (.inl word) (lineBuilder ?_)
      refine (addSpace_fits (x := { x with buffer := rest }) after ?_).trans ?_
      · rw [← space] at fits; exact fits
      · rw [← space]; rfl
    · rintro k rfl word after none_ wide
      refine plain rfl (.inl word) (lineBuilder ?_)
      rw [← space] at wide
      exact addSpace_overset (x := { x with buffer := rest }) after none_ wide
    · rintro k rfl word after
      refine plain rfl (.inl word) (lineBuilder ?_)
      exact addSpace_dropped (x := { x with buffer := rest }) after k
    · rintro rfl word new
      exact plain rfl (.inr rfl) (lineBuilder (addMark_marks word new))
    · rintro rfl dropped
      exact plain rfl (.inr rfl) (lineBuilder (addMark_drops dropped))
    · rintro n size rfl nearest
      refine plain rfl (.inr rfl) ?_
      simp only [plainEffect, nearest]
    · rintro n rfl
      exact exec_takeItem_parameter engine opened head waiting rfl rfl (decide_eq_true_iff)
        (f := fun y => { y with leading := min 288 n }) (fun _ => rfl) rfl
    · rintro n rfl
      exact exec_takeItem_parameter engine opened head waiting rfl rfl (by simp)
        (f := fun y => { y with measure := max 72 (min 1440 n) }) (fun _ => rfl) rfl
    · rintro n rfl
      exact exec_takeItem_parameter engine opened head waiting rfl rfl (by simp [x])
        (f := fun y => { y with pendingReverse := min 288 (x.pendingReverse + min 288 n) }) (fun _ => rfl) rfl
    · rintro a b c rfl mn op mx
      refine exec_takeItem_parameter engine opened head waiting rfl rfl ?_
        (f := fun y => { y with spaceMin := mn, spaceOpt := op, spaceMax := mx }) (fun _ => rfl) rfl
      simp only [spacesClamped, bne_iff_ne, ne_eq, spaceValues, Prod.mk.injEq, not_and_or]
      rfl
    · rintro t rfl
      exact exec_takeItem_parameter engine opened head waiting rfl rfl (by simp)
        (f := fun y => { y with track := max (-4) (min 4 t) }) (fun _ => rfl) rfl
    · rintro flags n rfl
      exact exec_takeItem_parameter engine opened head waiting rfl rfl (by simp)
        (f := fun y => { y with hyphenate := flags.getLsbD 0, rules := flags.getLsbD 1, ladder := min 7 n })
        (fun _ => rfl) rfl
    · rintro l r rfl
      exact exec_takeItem_parameter engine opened head waiting rfl rfl (by simp [zoneClamped])
        (f := fun y => { y with minLeft := if l = 0 then 2 else min 7 l, minRight := if r = 0 then 3 else min 7 r })
        (fun _ => rfl) rfl
    · rintro v q rfl mode
      refine plain rfl (.inr rfl) ?_
      simp only [plainEffect, mode]
    · exact ⟨fun _ => quadModeOf_eq_none, rfl, rfl, rfl, rfl⟩
    · rintro v rfl none_
      refine plain rfl (.inr rfl) ?_
      simp only [plainEffect, quadModeOf_eq_none.mpr none_]
      rfl
    · rintro n rfl found
      have found' : (itemRemoved g rest s).resolve n = none := found
      have := exec_takeItem engine opened head waiting (.inr rfl) (by simp)
      rwa [applyItem_fontSelect_none found', itemRemoved, modGalley_modGalley] at this
    · rintro n k rfl found font
      have found' : (itemRemoved g rest s).resolve n = some k := found
      have font' : ((itemRemoved g rest s).galley g).font = some k := by rw [itemRemoved_galley]; exact font
      have := exec_takeItem engine opened head waiting (.inr rfl) (by simp)
      rwa [applyItem_fontSelect_same found' font', itemRemoved] at this
    · rintro n k rfl found font
      have found' : (itemRemoved g rest s).resolve n = some k := found
      have font' : ((itemRemoved g rest s).galley g).font ≠ some k := by rw [itemRemoved_galley]; exact font
      have taken := exec_takeItem engine opened head waiting (.inr rfl) (by simp)
      have effect := applyItem_fontSelect_other found' font'
      rw [itemRemoved_galley] at effect
      obtain ⟨galley, new, old_, others⟩ := takeFont_records (s := s) (rest := rest) font effect
      refine ⟨_, taken, galley, by rw [new], by rw [new], fun old e live idle => ?_, fun old e retiring c l p => ?_, others⟩
      · rw [old_ old e, FontRecord.reported_current_of_live live idle]
      · rw [old_ old e, FontRecord.reported_current_of_retiring retiring c l p]
    · rintro rfl
      exact plain rfl (.inr rfl) rfl
    · rintro k rfl word free first
      have slot := freeSlot_eq_some free first
      have taken := exec_takeItem engine opened head waiting (.inl word) fun _ => by rw [slot]; rfl
      have effect : applyItem g .lineEnd (itemRemoved g rest s) = paragraphEnded g rest s := by
        rw [paragraphEnded]
        show commit g (paragraphEnd ((itemRemoved g rest s).galley g).builder) _ = _
        rw [itemRemoved_galley]
      obtain ⟨line, lines, queue, eng, galley, report⟩ := paragraphEnded_spec (g := g) (rest := rest) slot
      rw [effect] at taken
      refine ⟨_, _, taken, line, lines, queue, eng, rfl, rfl, rfl, rfl, rfl, rfl, rfl, report, rfl, rfl, rfl, rfl, rfl, ?_⟩
      rw [galley]
      exact ⟨rfl, rfl, rfl, rfl, rfl, rfl, rfl, rfl⟩
    · rintro rfl word none_
      have taken := exec_takeItem engine opened head waiting (.inl word) fun h => absurd none_ (by simpa using h)
      have quiet : ((itemRemoved g rest s).galley g).waiting = [] := by rw [itemRemoved_galley]; exact waiting
      have same : endCommit g (itemRemoved g rest s) = itemRemoved g rest s := by
        rw [endCommit, itemRemoved_galley]
        exact if_pos none_
      rw [applyItem_endGalley_of_none quiet, same, itemRemoved, modGalley_modGalley] at taken
      rw [taken]
      refine congrArg (fun t => (.next (react t) : Answer)) (modGalley_congr (s := s.fresh) ?_)
      exact ended_of_none (x := x) waiting rest
    · rintro k rfl word some_ free first
      have slot := freeSlot_eq_some free first
      have taken := exec_takeItem engine opened head waiting (.inl word) fun _ => by rw [slot]; rfl
      have quiet : ((itemRemoved g rest s).galley g).waiting = [] := by rw [itemRemoved_galley]; exact waiting
      have same : endCommit g (itemRemoved g rest s) = paragraphEnded g rest s := by
        rw [endCommit, itemRemoved_galley, paragraphEnded]
        exact if_neg (Nat.ne_of_gt some_)
      obtain ⟨line, lines, queue, eng, galley, report⟩ := paragraphEnded_spec (g := g) (rest := rest) slot
      rw [applyItem_endGalley_of_none quiet, same] at taken
      refine ⟨_, _, taken, line, lines, queue, eng, rfl, rfl, rfl, rfl, rfl,
        fun once => (report once).congr rfl rfl rfl rfl, ?_⟩
      rw [State.galley_modGalley_self]
      refine ⟨rfl, rfl, rfl, ?_, ?_⟩
      · rw [galley]
        rfl
      · rw [ended_sticky, galley]
  · have quietHead : headItem ((quietened g s).galley g).buffer = some (i, rest) := by rw [quietened_galley]; exact head
    have quietOpened : ((quietened g s).galley g).state = .opened := by rw [quietened_galley]; exact opened
    have quietWord : ((quietened g s).galley g).builder.word = [] ∨
        i.endsWord ((quietened g s).galley g).builder.word.length = false := by rw [quietened_galley]; exact word
    have taken := takeItem_takes (s := quietened g s) engine quietOpened quietHead quietWord
      fun h => slot (h.imp_right (·.1))
    have takes := takeItem_takes engine opened head word fun h => slot (h.imp_right (·.1))
    intro texts quiet u
    have u_eq : u = quietTaken g i rest s := takeItem_quietened g i rest s
    refine ⟨taken, _, takes, ?_⟩
    rw [u_eq]
    by_cases ends : i = .endGalley
    · subst ends
      obtain ⟨t, rfl, frame, galleys, buffer, waiting, refused, others⟩ := takeItem_refuses (rest := rest) once
      refine ⟨frame, fun h _ => ?_, ?_, fun h => absurd rfl h, fun _ => ⟨buffer, waiting, refused, others⟩⟩
      · rw [State.galley, galleys, State.galley]
      · simp only [State.galley, galleys]
    · obtain ⟨t, rfl, frame, others, galley, served⟩ := takeItem_serves ends once ((headItem_length head).trans fill)
      exact ⟨frame, others, galley, fun _ => served, fun h => absurd h ends⟩

end Sys2Proof.Machine
end

section
/-! SUPPORT. The break search (R58 to R61) and the candidate list (R86 to R98): what the search ends the line with, and what
the list holds. -/

namespace Sys2Proof.Machine

/-! ### The break search -/

theorem bestCandidate_eq_some {s : State} {b : Builder} {front back : List Candidate} {c : Candidate}
    (passes : candidateFits s b c = true) (none_ : ∀ d ∈ back, candidateFits s b d = false) :
    bestCandidate s b (front ++ c :: back) = some c := by
  rw [bestCandidate, List.reverse_append, List.reverse_cons, List.append_assoc, List.find?_append,
    List.find?_eq_none.mpr fun d hd => by simp [none_ d (List.mem_reverse.mp hd)]]
  simp [passes]

theorem bestCandidate_eq_none {s : State} {b : Builder} {cs : List Candidate}
    (none_ : ∀ c ∈ cs, candidateFits s b c = false) : bestCandidate s b cs = none :=
  List.find?_eq_none.mpr fun d hd => by simp [none_ d (List.mem_reverse.mp hd)]

/-- The glyphs of a cut word up to place `k` fit the measure after the leading gap (R60). -/
def cutFits (b : Builder) (k : Nat) : Prop := gapMin b.gap + wordWidth (prefixGlyphs b.word k) ≤ b.latched.measure

/-- The cut is at the largest place that fits, or after the first glyph where none does. -/
theorem cutPlace_spec (b : Builder) :
    (∀ j, 1 ≤ j → j ≤ b.word.length → cutFits b j → j ≤ cutPlace b) ∧
    (cutPlace b = 1 ∨ 1 ≤ cutPlace b ∧ cutPlace b ≤ b.word.length ∧ cutFits b (cutPlace b)) := by
  have place : ∀ {j}, j ∈ (List.range b.word.length).map (· + 1) ↔ 1 ≤ j ∧ j ≤ b.word.length := fun {j} => by
    simp only [List.mem_map, List.mem_range]
    exact ⟨by rintro ⟨i, h, rfl⟩; omega, fun h => ⟨j - 1, by omega, by omega⟩⟩
  have ascends : ((List.range b.word.length).map (· + 1)).Pairwise (· < ·) :=
    List.pairwise_map.mpr (List.pairwise_lt_range.imp fun h => Nat.succ_lt_succ h)
  unfold cutPlace
  cases found : ((List.range b.word.length).map (· + 1)).reverse.find? fun k =>
      decide (gapMin b.gap + wordWidth (prefixGlyphs b.word k) ≤ b.latched.measure) with
  | none =>
    refine ⟨fun j h1 h2 fits => ?_, .inl rfl⟩
    have := List.find?_eq_none.mp found j (List.mem_reverse.mpr (place.mpr ⟨h1, h2⟩))
    exact absurd fits (by simpa [cutFits] using this)
  | some k =>
    obtain ⟨fits, before, after, split, none_⟩ := List.find?_eq_some_iff_append.mp found
    rw [decide_eq_true_eq] at fits
    have member := place.mp (List.mem_reverse.mp (List.mem_of_find?_eq_some found))
    refine ⟨fun j h1 h2 fits' => ?_, .inr ⟨member.1, member.2, fits⟩⟩
    have hj := List.mem_reverse.mpr (place.mpr ⟨h1, h2⟩)
    rw [← List.pairwise_reverse, split, List.pairwise_append] at ascends
    obtain ⟨-, tail, -⟩ := ascends
    rw [split, List.mem_append, List.mem_cons] at hj
    rcases hj with h | rfl | h
    · exact absurd fits' (by simpa [cutFits] using none_ j h)
    · exact Nat.le_refl _
    · exact Nat.le_of_lt (List.rel_of_pairwise_cons tail h)

/-! ### The letters of a core (R88) -/

theorem mem_coreLetters {s : State} {w : List BGlyph} {j id : Nat} :
    (j, id) ∈ coreLetters s w ↔ ∃ g, 1 ≤ j ∧ w[j - 1]? = some g ∧ g.code ≠ s.hyphenCode ∧ id ≠ 0 ∧
      id = (vget s.codeMap g.code).toNat := by
  have letter : ∀ g : BGlyph, glyphLetter s g =
      if g.code = s.hyphenCode then 0 else (vget s.codeMap g.code).toNat := fun g => by
    rw [glyphLetter, letterId, dif_pos g.code.isLt]
    rfl
  simp only [coreLetters, numbered, List.mem_filterMap, Prod.exists, Option.ite_none_left_eq_some, Option.some.injEq,
    Prod.mk.injEq, List.mk_mem_zipIdx_iff_le_and_getElem?_sub]
  constructor
  · rintro ⟨g, k, ⟨pos, hg⟩, some_, rfl, rfl⟩
    have notHyphen : g.code ≠ s.hyphenCode := fun h => some_ (by rw [letter, if_pos h])
    exact ⟨g, pos, hg, notHyphen, some_, by rw [letter, if_neg notHyphen]⟩
  · intro ⟨g, pos, hg, notHyphen, some_, value⟩
    have e : glyphLetter s g = id := by rw [letter, if_neg notHyphen, value]
    exact ⟨g, j, ⟨pos, hg⟩, by rwa [e], rfl, e⟩

/-! ### Withholding and marks (R86, R90, R97) -/

theorem withheld_iff {b : Builder} : withheld b = true ↔
    b.latched.hyphenate = false ∨ b.latched.ladder ≠ 0 ∧ b.latched.ladder ≤ b.hyphCount := by
  simp [withheld]

theorem mem_markPlaces {w : List BGlyph} {marks : List Nat} {j : Nat} :
    j ∈ markPlaces w marks ↔ j ∈ marks ∧ 1 ≤ j ∧ j < w.length := by
  simp [markPlaces]

theorem hasMarks_iff {b : Builder} : hasMarks b = true ↔ ∃ j, j ∈ b.marks ∧ 1 ≤ j ∧ j < b.word.length := by
  simp only [hasMarks, Bool.not_eq_true', List.isEmpty_eq_false_iff_exists_mem, mem_markPlaces]

/-! ### The places of the sources (R89, R94, R96) -/

/-- Element `j` of the word is the hyphen glyph. -/
def hyphenAt (s : State) (w : List BGlyph) (j : Nat) : Prop := ∃ g, w[j]? = some g ∧ g.code = s.hyphenCode

/-- The font of glyph `j` has the hyphen glyph (R96). -/
def HyphenCarried (s : State) (w : List BGlyph) (j : Nat) : Prop :=
  ∃ g, w[j - 1]? = some g ∧ vget (s.font g.slot).widths s.hyphenCode ≠ 0

theorem mem_hardPlaces_iff {s : State} {w : List BGlyph} {j : Nat} :
    j ∈ hardPlaces s w ↔ 1 ≤ j ∧ j < w.length ∧ hyphenAt s w (j - 1) ∧ ¬ hyphenAt s w j := by
  simp only [mem_hardPlaces, isHyphen, beq_iff_eq, beq_eq_false_iff_ne, hyphenAt]
  constructor
  · rintro ⟨g, next, pos, hg, hnext, hyphen, other⟩
    obtain ⟨short, -⟩ := List.getElem?_eq_some_iff.mp hnext
    refine ⟨pos, short, ⟨g, hg, hyphen⟩, fun ⟨g', hg', e⟩ => other ?_⟩
    rw [hnext] at hg'
    cases hg'
    exact e
  · rintro ⟨pos, short, ⟨g, hg, hyphen⟩, other⟩
    exact ⟨g, w[j], pos, hg, List.getElem?_eq_getElem short, hyphen,
      fun e => other ⟨w[j], List.getElem?_eq_getElem short, e⟩⟩

theorem carriesHyphen_iff {s : State} {w : List BGlyph} {j : Nat} : carriesHyphen s w j = true ↔ HyphenCarried s w j := by
  unfold carriesHyphen HyphenCarried
  cases w[j - 1]? with
  | none => simp
  | some g => simp [FontRecord.width]

/-- Position `p` of a core gives the place `j`: after the glyph of letter `p`, with letter `p + 1` next to it. -/
def GivesPlace (letters : List (Nat × Nat)) (p j : Nat) : Prop :=
  ∃ q, (letters[p - 1]?).map (·.1) = some j ∧ (letters[p]?).map (·.1) = some q ∧ q = j + 1

theorem positionPlace_eq_some {letters : List (Nat × Nat)} {p j : Nat} :
    positionPlace letters p = some j ↔ GivesPlace letters p j := by
  unfold positionPlace GivesPlace
  cases letters[p - 1]? with
  | none => simp
  | some a =>
    cases letters[p]? with
    | none => simp
    | some c =>
      simp only [Option.ite_none_right_eq_some, Option.map_some, Option.some.injEq]
      constructor
      · rintro ⟨h, rfl⟩
        exact ⟨_, rfl, rfl, h⟩
      · rintro ⟨_, rfl, rfl, h⟩
        exact ⟨h, rfl⟩

theorem mem_corePlaces {s : State} {w : List BGlyph} {positions : List Nat} {j : Nat} :
    j ∈ corePlaces s w positions ↔ ∃ p ∈ positions, GivesPlace (coreLetters s w) p j := by
  simp only [corePlaces, List.mem_filterMap, positionPlace_eq_some]

/-- A place that a core gives stands before the last glyph. -/
theorem GivesPlace.lt {s : State} {w : List BGlyph} {p j : Nat} (h : GivesPlace (coreLetters s w) p j) : j < w.length := by
  obtain ⟨q, -, next, rfl⟩ := h
  obtain ⟨⟨k, id⟩, found, e⟩ := Option.map_eq_some_iff.mp next
  obtain ⟨g, -, hg, -⟩ := mem_coreLetters.mp (List.mem_of_getElem? found)
  obtain ⟨short, -⟩ := List.getElem?_eq_some_iff.mp hg
  simp only at e
  omega

/-- What a merged list holds, where its places stand inside the word. -/
theorem mem_mergeCandidates_iff {s : State} {w : List BGlyph} {places : List Nat} {source : Source}
    (inside : ∀ j ∈ places, j < w.length) {c : Candidate} :
    c ∈ mergeCandidates s w places source ↔
      c.j ∈ hardPlaces s w ∧ c.source = .hard ∨
        c.j ∉ hardPlaces s w ∧ c.j ∈ places ∧ HyphenCarried s w c.j ∧ c.source = source := by
  rw [mem_mergeCandidates, carriesHyphen_iff]
  constructor
  · exact fun h => h.2
  · rintro (h | h)
    · exact ⟨(mem_hardPlaces_iff.mp h.1).2.1, .inl h⟩
    · exact ⟨inside _ h.2.1, .inr h⟩

/-! ### The rule positions (R94) -/

/-- A rule position of a core with letter IDs `ids`. -/
def RulePosition (s : State) (b : Builder) (ids : List Nat) (p : Nat) : Prop :=
  1 ≤ p ∧ p < ids.length ∧ b.latched.minLeft ≤ p ∧ b.latched.minRight ≤ ids.length - p ∧
  (s.vowel (ids.getD (p - 1) 0) = false ∧ s.vowel (ids.getD p 0) = false ∧
      s.digraph (ids.getD (p - 1) 0) (ids.getD p 0) = false ∨
    s.vowel (ids.getD (p - 1) 0) = true ∧ s.vowel (ids.getD p 0) = false ∧ p + 1 < ids.length ∧
      s.vowel (ids.getD (p + 1) 0) = true)

theorem mem_rulePositions {s : State} {b : Builder} {ids : List Nat} {p : Nat} :
    p ∈ rulePositions s b.latched.minLeft b.latched.minRight ids ↔ RulePosition s b ids p := by
  simp only [rulePositions, RulePosition, letterTest, List.mem_filter, List.mem_range, Bool.and_eq_true, Bool.or_eq_true,
    Bool.not_eq_true', decide_eq_true_eq]
  tauto

/-- Place `j` comes of a rule position, where the rules are enabled and the core is open (R91, R94). -/
def RuledPlace (s : State) (b : Builder) (j : Nat) : Prop :=
  b.latched.rules = true ∧ coreClosed s b.word = false ∧ 2 ≤ ((coreLetters s b.word).map (·.2)).length ∧
  ∃ p, RulePosition s b ((coreLetters s b.word).map (·.2)) p ∧ GivesPlace (coreLetters s b.word) p j

theorem mem_ruleCandidates {s : State} {b : Builder} {c : Candidate} :
    c ∈ ruleCandidates s b ↔
      c.j ∈ hardPlaces s b.word ∧ c.source = .hard ∨
        c.j ∉ hardPlaces s b.word ∧ RuledPlace s b c.j ∧ HyphenCarried s b.word c.j ∧ c.source = .rule := by
  by_cases on : b.latched.rules = true ∧ coreClosed s b.word = false ∧ 2 ≤ ((coreLetters s b.word).map (·.2)).length
  · obtain ⟨rules, open_, two⟩ := on
    have ruled : ∀ j, j ∈ corePlaces s b.word (rulePositions s b.latched.minLeft b.latched.minRight
        ((coreLetters s b.word).map (·.2))) ↔ RuledPlace s b j := fun j => by
      simp only [mem_corePlaces, mem_rulePositions, RuledPlace, rules, open_, two, true_and]
    rw [ruleCandidates, if_pos (by simp only [rules, open_, two]; rfl), mem_mergeCandidates_iff, ruled]
    exact fun j hj => by
      obtain ⟨p, -, place⟩ := mem_corePlaces.mp hj
      exact place.lt
  · have off : ¬ RuledPlace s b c.j := fun ⟨rules, open_, two, _⟩ => on ⟨rules, open_, two⟩
    rw [ruleCandidates, if_neg (by simpa using on), mem_mergeCandidates_iff (by simp)]
    simp [off]

theorem ruleCandidates_ascends (s : State) (b : Builder) : ((ruleCandidates s b).map (·.j)).Pairwise (· < ·) := by
  dsimp only [ruleCandidates]
  split <;> exact mergeCandidates_ascends ..

theorem candidates_ascends (s : State) (b : Builder) : ((candidates s b).map (·.j)).Pairwise (· < ·) := by
  unfold candidates
  split
  · exact List.Pairwise.nil
  · split
    · exact mergeCandidates_ascends ..
    · exact ruleCandidates_ascends s b

theorem answeredCandidates_ascends (s : State) (b : Builder) (a : LookupAnswer) :
    ((answeredCandidates s b a).map (·.j)).Pairwise (· < ·) := by
  cases a with
  | allow | never => exact mergeCandidates_ascends ..
  | absent => exact ruleCandidates_ascends s b

/-! ### What they read of the state -/

/-- The list takes no notice of the dictionary's work and the engine's. -/
theorem candidates_only (s : State) (d : Dictionary) (e : Engine) (p : List Pulse) (b : Builder) :
    candidates { s with dict := d, engine := e, pulses := p } b = candidates s b := rfl

end Sys2Proof.Machine
end

section
/-! PROOF. The settling of a word and the answer of a lookup (O51). -/

namespace Sys2Proof.Machine

/-! ### The settle (R57, R58) -/

section Settling

variable {s : State} {g : GalleyId} {i : Item} {rest : List Byte} (engine : s.engine.state = .serving g)
  (opened : (s.galley g).state = .opened) (head : headItem (s.galley g).buffer = some (i, rest))
  (word : (s.galley g).builder.word ≠ []) (ends : i.endsWord (s.galley g).builder.word.length = true)
include engine opened head word ends

omit engine opened head in
theorem mustSettle_of_word : s.mustSettle g i = true := by
  simp [State.mustSettle, word, ends]

theorem exec_settleWord : exec .settleWord s = .next (react (settle g s.fresh)) := by
  have must := mustSettle_of_word word ends
  simp only [exec, execSettleWord, servedItem_of_head engine opened head, must]
  rfl

/-- The item waits until the word is settled. -/
theorem exec_takeItem_waits : exec .takeItem s = .next s := by
  have may : s.mayTake g i = false := by
    rw [State.mayTake, mustSettle_of_word word ends]
    rfl
  simp only [exec, execTakeItem, servedItem_of_head engine opened head, may]
  rfl

end Settling

/-- The word fits the measure and the glyph cap (R57). -/
def wordFits (b : Builder) : Prop :=
  b.nMin + gapMin b.gap + wordWidth b.word ≤ b.latched.measure ∧ b.glyphCount + b.word.length ≤ 240

theorem wordFits_iff {b : Builder} : (fitsWidth b && fitsCap b) = true ↔ wordFits b := by
  simp [fitsWidth, fitsCap, wordFits]

theorem settle_places {g : GalleyId} {s : State} (fits : wordFits (s.galley g).builder) :
    settle g s = s.modBuilder g placeWord := by
  rw [settle, if_pos (wordFits_iff.mpr fits)]

theorem settle_looksUp {g : GalleyId} {s : State} {core : List Nat} (wide : ¬ wordFits (s.galley g).builder)
    (look : lookupCore s (s.galley g).builder = some core) : settle g s = presentLookup g core s := by
  rw [settle, if_neg fun h => wide (wordFits_iff.mp h)]
  simp only [look]

theorem settle_breaks {g : GalleyId} {s : State} (wide : ¬ wordFits (s.galley g).builder)
    (none_ : lookupCore s (s.galley g).builder = none) : settle g s.fresh =
      commit g (searchEnd s (s.galley g).builder (candidates s (s.galley g).builder)) s.fresh := by
  have wide' : ¬ wordFits (s.fresh.galley g).builder := wide
  have none' : lookupCore s.fresh (s.fresh.galley g).builder = none := none_
  rw [settle, if_neg fun h => wide' (wordFits_iff.mp h)]
  simp only [none']
  exact congrArg (fun cs => commit g (searchEnd s (s.galley g).builder cs) s.fresh)
    (candidates_only s s.dict s.engine [] (s.galley g).builder)

/-- The commit's report, said of the state before what leaves its records and its galley alone. -/
theorem commit_references_of {g : GalleyId} {e : LineEnd} {k : LineSlot} {s u : State} (free : u.freeSlot = some k)
    (galley : u.galley g = s.galley g) (truncates : u.truncates = s.truncates) (fonts : u.fonts = s.fonts)
    (channels : u.channels = s.channels) (once : HeldOnce s) :
    ReferencesReported s (commit g e u)
      (fun j => if (lineRecord s.truncates g (s.galley g) e).hasGlyphOf j then 1 else 0) 0
      (fun j => if (s.galley g).builder.hasGlyphOf j && !(builderAfter (s.galley g) e).hasGlyphOf j then 1 else 0)
      0 := by
  have apart : AmendsApart u := by
    have := once.amendsApart
    simpa only [AmendsApart, State.font, fonts] using this
  have report := commit_references (g := g) (e := e) (s := u) (by rw [free]; rfl) apart
  rw [galley, truncates] at report
  exact report.congr fonts channels rfl rfl

/-! ### The answer (R76, R92) -/

theorem exec_lookupAnswer {s : State} {core : List Nat} {wanted : Bool}
    (running : s.dict.running = some (.lookup core wanted)) :
    exec .lookupAnswer s = .next (react (completeOperation s.fresh)) := by
  have runs : s.lookupRuns = true := by simp only [State.lookupRuns, running]
  simp only [exec, execLookupAnswer, runs]
  rfl

/-- The state in which the engine that waits for the answer has it, with the dictionary free. -/
def answered (g : GalleyId) (s : State) : State :=
  { s with dict := { s.dict with running := none }, engine := { s.engine with state := .serving g }, pulses := [] }

/-- The engine that the answer reaches ends the line. -/
theorem completeOperation_breaks {s : State} {core : List Nat} {g : GalleyId} (engine : s.engine.state = .lookup g)
    (running : s.dict.running = some (.lookup core true)) :
    completeOperation s.fresh =
      commit g (searchEnd s (s.galley g).builder
        (answeredCandidates s (s.galley g).builder (answerOf core s.dict.chains))) (answered g s) := by
  have running' : s.fresh.dict.running = some (.lookup core true) := running
  have engine' : (setRunning none s.fresh).engine.state = .lookup g := engine
  simp only [completeOperation, running', deliverAnswer, engine', if_true]
  rfl

theorem completeOperation_discards {s : State} {core : List Nat}
    (running : s.dict.running = some (.lookup core false)) :
    completeOperation s.fresh = s.fresh.modDict fun d => { d with running := none } := by
  have running' : s.fresh.dict.running = some (.lookup core false) := running
  simp only [completeOperation, running']
  rfl

/-! ### The obligation -/

/-- Settles O51: the settle and the answer by the end that the break search gives the line, the search by its rightmost
candidate or its cut, the list by what is merged into it. -/
theorem settlingAWordPlacesItOrLooksItUp : Obligations.SettlingAWordPlacesItOrLooksItUp := by
  refine ⟨?_, ?_, ?_, ?_, ?_, ?_⟩
  · intro s g i rest engine opened head word ends b fits
    have settles := exec_settleWord engine opened head word ends
    refine ⟨fun fit => ?_, fun core wide look => ?_, fun k wide none_ free first => ?_,
      exec_takeItem_waits engine opened head word ends⟩
    · rw [settle_places (s := s.fresh) fit] at settles
      refine eventTo_of_settled settles ?_
      rw [settled_modGalley _ _ _ rfl, settled_fresh]
    · rw [settle_looksUp (s := s.fresh) wide look] at settles
      exact settles
    · intro e
      have slot : s.fresh.freeSlot = some k := freeSlot_eq_some free first
      rw [settle_breaks wide none_] at settles
      have settles : exec .settleWord s = .next (react (commit g e s.fresh)) := settles
      clear_value e
      refine ⟨_, settles, commit_lineAt slot, commit_linesOf slot, ?_, ?_,
        commit_references_of slot rfl rfl rfl rfl, commit_engine slot⟩
      · rw [commit_galley slot]
        rfl
      · rw [commit_galley slot]
        rfl
  · intro s core running
    rw [exec_lookupAnswer running, completeOperation_discards running]
  · intro s core g k running engine free first b e
    have answers := exec_lookupAnswer running
    rw [completeOperation_breaks engine running] at answers
    have answers : exec .lookupAnswer s = .next (react (commit g e (answered g s))) := answers
    clear_value e
    have slot : (answered g s).freeSlot = some k := freeSlot_eq_some (s := s) free first
    refine ⟨_, _, answers, ?_, commit_engine slot, commit_lineAt slot, rfl, rfl, ?_, commit_linesOf slot, rfl,
      commit_references_of slot rfl rfl rfl rfl, ?_⟩
    · exact (commit_recordsOnly slot).dict
    · rw [commit_galley slot]
      rfl
    · rw [commit_galley slot]
      rfl
  · intro s b cs gap width restMarks natural divide cut passes
    have divides : ∀ j, divided s b.word j = divide j := fun j => by
      simp only [divided, divide]
      cases b.word[j - 1]? with
      | none => rfl
      | some g =>
        simp only [isHyphen, beq_iff_eq]
        rfl
    have cuts : ∀ k, prefixGlyphs b.word k = cut k := fun k => by
      simp only [prefixGlyphs, cut]
      cases b.word[k - 1]? <;> rfl
    have fits : ∀ c, candidateFits s b c = true ↔ passes c := fun c => by
      simp only [candidateFits, divides, decide_eq_true_eq]
      exact Iff.rfl
    have fails : ∀ {c}, ¬ passes c → candidateFits s b c = false := fun h =>
      Bool.eq_false_iff.mpr fun e => h ((fits _).mp e)
    refine ⟨?_, fun none_ count => ?_, fun none_ count => ⟨cutPlace b, ?_, ?_⟩⟩
    · rintro front c back rfl pass last
      rw [searchEnd, bestCandidate_eq_some ((fits c).mpr pass) fun d hd => fails (last d hd)]
      simp only [dividedEnd, divides]
      rfl
    · rw [searchEnd, bestCandidate_eq_none fun c hc => fails (none_ c hc)]
      simp only [if_neg count]
      rfl
    · rw [searchEnd, bestCandidate_eq_none fun c hc => fails (none_ c hc)]
      simp only [if_pos count, oversetEnd, cuts]
      rfl
    · have spec := cutPlace_spec b
      simp only [cutFits, cuts] at spec
      exact spec
  · intro x e
    exact ⟨rfl, rfl, rfl, rfl, rfl, rfl, rfl, rfl, fun carried => by simp only [builderAfter, if_neg carried]; rfl⟩
  · intro s b w hyphen hard carries letters ids marked off placeOf rule ruled ascends
    have hards : ∀ {j}, j ∈ hardPlaces s w ↔ hard j := mem_hardPlaces_iff
    have offs : withheld b = true ↔ off := withheld_iff
    have marks : hasMarks b = true ↔ ∃ j, marked j := hasMarks_iff
    have rules : ∀ {c}, c ∈ ruleCandidates s b ↔
        hard c.j ∧ c.source = .hard ∨ ¬ hard c.j ∧ ruled c.j ∧ carries c.j ∧ c.source = .rule := by
      intro c
      rw [mem_ruleCandidates, hards]
      exact Iff.rfl
    refine ⟨candidates_ascends s b, answeredCandidates_ascends s b, fun j id => mem_coreLetters, fun h => ?_,
      fun on some_ => ?_, fun on none_ => ?_, fun positions c => ?_, fun c => ?_, fun c => rules⟩
    · simp only [candidates, lookupCore, offs.mpr h, Bool.true_or, if_true, and_self]
    · have on : withheld b = false := Bool.eq_false_iff.mpr fun h => on (offs.mp h)
      refine ⟨by simp only [lookupCore, on, marks.mpr some_, Bool.false_or, Bool.true_or, if_true], fun c => ?_⟩
      have inside : ∀ j ∈ markPlaces b.word b.marks, j < b.word.length := fun j hj => (mem_markPlaces.mp hj).2.2
      rw [candidates, if_neg (by simp [on]), if_pos (marks.mpr some_), mem_mergeCandidates_iff inside, hards,
        mem_markPlaces]
      exact Iff.rfl
    · have on : withheld b = false := Bool.eq_false_iff.mpr fun h => on (offs.mp h)
      have unmarked : hasMarks b = false := Bool.eq_false_iff.mpr fun h => none_ (marks.mp h)
      refine ⟨fun c => ?_, ?_⟩
      · rw [candidates, if_neg (by simp [on]), if_neg (by simp [unmarked])]
        exact rules
      · simp only [lookupCore, on, unmarked, Bool.false_or]
        cases coreClosed s b.word with
        | true => simp
        | false =>
          simp only [Bool.false_eq_true, if_false, true_and]
          rfl
    · have inside : ∀ j ∈ corePlaces s w positions, j < w.length := fun j hj => by
        obtain ⟨p, -, place⟩ := mem_corePlaces.mp hj
        exact place.lt
      rw [answeredCandidates, mem_mergeCandidates_iff inside, hards, mem_corePlaces]
      exact Iff.rfl
    · rw [answeredCandidates, mem_mergeCandidates_iff (by simp), hards]
      simp

end Sys2Proof.Machine
end

section
/-! SUPPORT. The replies of the queries (10.7): how a reply is laid out, and the taking of a request that is replied to. -/

namespace Sys2Proof.Machine

/-! ### A request that is replied to -/

/-- A request that its owner replies to when it takes it, with an effect `f` that keeps the channels and wakes no
reaction. -/
theorem request_replied {s : State} {ch : ChannelId} {detail : Nat} {bytes : List Byte} {code : Byte} {b : Block}
    (f : State → State) (h : s.readyFor ch) (fits : b.payload.length ≤ 1024) (keep : ∀ t, (f t).channels = t.channels)
    (past : ∀ t, f (t.waits ch { code := code, block := b }) = (f t).waits ch { code := code, block := b })
    (still : ∀ t, (f t).settled = t.settled)
    (e : ∀ t, t = s.fresh.waits ch { code := code, block := b } →
      ownerTakes ch { code := code, block := b } t = reply ch detail bytes (f t)) :
    EventTo (requestEvent code ch b s) s
      ((f s.fresh).posts ch { code := code, block := b } .done (BitVec.ofNat 16 detail) bytes).bumpFree := by
  have k : s.fresh.readyFor ch := (State.readyFor_congr rfl).2 h
  have k' : (f s.fresh).readyFor ch := (State.readyFor_congr (keep _)).2 k
  have w : (f (s.fresh.waits ch { code := code, block := b })).handed ch { code := code, block := b } :=
    (State.handed_congr (by simp only [State.channel, keep])).2 (State.waits_handed _ k)
  refine eventTo_of_settled ?_ ?_
  · rw [requestEvent_ready h _ _ fits, e _ rfl, reply_handed w, past, posts_waits]
  · rw [settled_bumpFree, settled_posts k', still, settled_fresh]

/-! ### Replies take no notice of the channels -/

theorem fontReply_waits (i : FontSlot) (s : State) (ch : ChannelId) (r : Request) :
    fontReply i (s.fresh.waits ch r) = fontReply i s := rfl

theorem galleyReply_waits (g : GalleyId) (s : State) (ch : ChannelId) (r : Request) :
    galleyReply g (s.fresh.waits ch r) = galleyReply g s := rfl

theorem photoReply_waits (s : State) (ch : ChannelId) (r : Request) :
    photoReply (s.fresh.waits ch r) = photoReply s := rfl

theorem exposureReply_waits (s : State) (ch : ChannelId) (r : Request) :
    exposureReply (s.fresh.waits ch r) = exposureReply s := rfl

theorem proofReply_waits (s : State) (ch : ChannelId) (r : Request) :
    proofReply (s.fresh.waits ch r) = proofReply s := rfl

/-! ### Values in a reply -/

theorem reports_byte {r : List Byte} {k v : Nat} {b : Byte} (h : r[k]? = some b) (value : b = byteOf v) :
    Reports r k 1 v := fun i hi => by
  obtain rfl : i = 0 := by omega
  rw [Nat.add_zero, h, value, Nat.pow_zero, Nat.div_one]
  rfl

theorem reports_half {r : List Byte} {k v : Nat} (low : r[k]? = some (byteOf v))
    (high : r[k + 1]? = some (byteOf (v / 256))) : Reports r k 2 v := fun i hi => by
  obtain rfl | rfl : i = 0 ∨ i = 1 := by omega
  · rw [Nat.add_zero, low, Nat.pow_zero, Nat.div_one]
    rfl
  · rw [high]
    rfl

theorem reports_word {r : List Byte} {k v : Nat} (b0 : r[k]? = some (byteOf v))
    (b1 : r[k + 1]? = some (byteOf (v / 256))) (b2 : r[k + 2]? = some (byteOf (v / 65536))) (b3 : r[k + 3]? = some (byteOf (v / 65536 / 256))) :
    Reports r k 4 v := fun i hi => by
  obtain rfl | rfl | rfl | rfl : i = 0 ∨ i = 1 ∨ i = 2 ∨ i = 3 := by omega
  · rw [Nat.add_zero, b0, Nat.pow_zero, Nat.div_one]
    rfl
  · rw [b1]
    rfl
  · rw [b2]
    rfl
  · rw [b3, Nat.div_div_eq_div_mul]
    rfl

/-! ### The layout -/

/-- The first `n` bytes of a part of a reply, written out one by one. -/
def spread (n : Nat) (l : List Byte) : List Byte := (List.range n).map fun k => l.getD k 0

theorem spread_eq {n : Nat} {l : List Byte} (h : l.length = n) : spread n l = l := by
  refine List.ext_getElem (by simp [spread, h]) fun k h1 h2 => ?_
  simp [spread, List.getElem?_eq_getElem h2]

/-- Equal parts one after another: byte `j` of part `n` stands at `m * n + j`. -/
theorem getElem?_flatMap {α : Type} {m : Nat} {f : α → List Byte} (size : ∀ a, (f a).length = m) (l : List α)
    {n j : Nat} (h : j < m) : (l.flatMap f)[m * n + j]? = (l[n]?).bind fun a => (f a)[j]? := by
  induction l generalizing n with
  | nil => rfl
  | cons a rest ih =>
    cases n with
    | zero => simp [List.getElem?_append_left (show j < (f a).length by rw [size]; exact h)]
    | succ n =>
      have place : m * (n + 1) + j - (f a).length = m * n + j := by rw [size, Nat.mul_add]; omega
      rw [List.flatMap_cons, List.getElem?_append_right (by rw [size, Nat.mul_add]; omega), place, ih]
      rfl

theorem length_flatMap_const {α : Type} {m : Nat} {f : α → List Byte} (size : ∀ a, (f a).length = m) (l : List α) :
    (l.flatMap f).length = m * l.length := by
  induction l with
  | nil => rfl
  | cons a rest ih => rw [List.flatMap_cons, List.length_append, ih, size, List.length_cons, Nat.mul_add]; omega

/-! ### QUERY FONT (R19) -/

theorem nameBytes_length {name : List Byte} (h : name.length ≤ 12) (s : State) : (nameBytes s name).length = 13 := by
  simp [nameBytes, unstated]
  omega

theorem placementBytes_length (s : State) (p : Option Placement) : (placementBytes s p).length = 4 := by
  cases p <;> rfl

/-- The 30 bytes before the widths. -/
def fontHead (i : FontSlot) (s : State) : List Byte :=
  let x := s.font i
  let n := nameBytes s x.name
  let p := placementBytes s x.placement
  [byteOf i.val, byteOf x.state.toNat, byteOf x.number, n.getD 0 0, n.getD 1 0, n.getD 2 0, n.getD 3 0, n.getD 4 0,
   n.getD 5 0, n.getD 6 0, n.getD 7 0, n.getD 8 0, n.getD 9 0, n.getD 10 0, n.getD 11 0, n.getD 12 0, byteOf
   x.proofSet.val, p.getD 0 0, p.getD 1 0, p.getD 2 0, p.getD 3 0, byteOf x.verification.toNat, x.revision, byteOf
   x.lineRefs, byteOf x.currentRefs, byteOf x.partialRefs, byteOf ((x.amend.map (·.parts.selection)).getD 0), byteOf
   x.kerning.length, byteOf s.poolFree, byteOf (s.poolFree / 256)]

def kernBytes (k : KernPair) : List Byte := [byteOf k.left, byteOf k.right, signedByte k.adjust]

theorem fontReply_eq {i : FontSlot} {s : State} (h : (s.font i).name.length ≤ 12) :
    fontReply i s = fontHead i s ++ ((s.font i).widths.toList.map byteOf ++ (s.font i).kerning.flatMap kernBytes) := by
  have head : fontHead i s = [byteOf i.val, byteOf (s.font i).state.toNat, byteOf (s.font i).number] ++
      spread 13 (nameBytes s (s.font i).name) ++ [byteOf (s.font i).proofSet.val] ++
      spread 4 (placementBytes s (s.font i).placement) ++
      [byteOf (s.font i).verification.toNat, (s.font i).revision, byteOf (s.font i).lineRefs,
       byteOf (s.font i).currentRefs, byteOf (s.font i).partialRefs,
       byteOf (((s.font i).amend.map (·.parts.selection)).getD 0), byteOf (s.font i).kerning.length] ++
      le16 s.poolFree := rfl
  rw [head, spread_eq (nameBytes_length h s), spread_eq (placementBytes_length s _), ← List.append_assoc]
  rfl

/-! ### QUERY GALLEY (R34) -/

theorem currentFontBytes_length (s : State) (x : Galley) : (currentFontBytes s x).length = 2 := by
  unfold currentFontBytes
  split <;> rfl

/-- The 33 bytes. -/
def galleyBytes (g : GalleyId) (s : State) : List Byte :=
  let x := s.galley g
  let f := currentFontBytes s x
  [byteOf x.state.toNat, byteOf x.mode.toNat, byteOf x.priority, f.getD 0 0, f.getD 1 0, byteOf x.size, byteOf
   (x.size / 256), byteOf x.leading, byteOf (x.leading / 256), byteOf x.pendingReverse, byteOf (x.pendingReverse /
   256), byteOf x.measure, byteOf (x.measure / 256), byteOf x.quad.toNat, byteOf x.spaceMin, byteOf x.spaceOpt,
   byteOf x.spaceMax, signedByte x.track, byteOf (bitByte x.hyphenate 0 + bitByte x.rules 1), byteOf x.ladder,
   byteOf x.minLeft, byteOf x.minRight, byteOf x.buffer.length, byteOf (x.buffer.length / 256), byteOf
   x.waiting.length, byteOf (s.linesOf g).length, byteOf x.seq.toNat, byteOf (x.seq.toNat / 256), positionByte
   (queuePosition g s.store.filmQueue), positionByte (queuePosition g s.store.paperQueue), byteOf (bitByte
   (s.holdsFilm g) 0 + bitByte (s.holdsPaper g) 1), byteOf x.sticky.toNat, byteOf (x.sticky.toNat / 256)]

theorem galleyReply_eq (g : GalleyId) (s : State) : galleyReply g s = galleyBytes g s := by
  rw [galleyReply, ← spread_eq (currentFontBytes_length s (s.galley g))]
  rfl

/-! ### QUERY PHOTO UNIT (R133) -/

theorem turretBytes_length (s : State) : (turretBytes s).length = 2 := by
  unfold turretBytes
  split <;> rfl

theorem lensBytes_length (s : State) : (lensBytes s).length = 2 := by
  unfold lensBytes
  split <;> rfl

theorem carriageBytes_length (s : State) : (carriageBytes s).length = 5 := by
  unfold carriageBytes
  split <;> rfl

theorem flashBytes_length (s : State) : (flashBytes s).length = 5 := by
  unfold flashBytes
  split <;> rfl

def latchedByte (s : State) : Byte := (s.photo.latched.map fun c => byteOf c.toNat).getD (Config.unstatedByte s.free 13)

/-- The 28 bytes. -/
def photoBytes (s : State) : List Byte :=
  let p := s.photo
  let turret := turretBytes s
  let lens := lensBytes s
  let carriage := carriageBytes s
  let flash := flashBytes s
  [byteOf p.disc.toNat, byteOf (bitByte p.disturbed 0 + bitByte (p.turret.isMoving && p.turretExpired) 1 + bitByte
   p.latched.isSome 2 + bitByte p.flash.isSome 3 + bitByte p.delay.isSome 4 + bitByte p.lockWatch.isSome 5 + bitByte
   p.verify.isSome 6), byteOf p.period, byteOf (p.period / 256), byteOf (p.period / 65536), byteOf (p.period / 65536
   / 256), byteOf s.tNom, byteOf (s.tNom / 256), byteOf (s.tNom / 65536), byteOf (s.tNom / 65536 / 256), byteOf
   p.slotCount, turret.getD 0 0, turret.getD 1 0, latchedByte s, lens.getD 0 0, lens.getD 1 0, carriage.getD 0 0,
   carriage.getD 1 0, carriage.getD 2 0, carriage.getD 3 0, carriage.getD 4 0, byteOf p.shutter.val, byteOf (if
   p.lamp = .ready then 0 else 1), flash.getD 0 0, flash.getD 1 0, flash.getD 2 0, flash.getD 3 0, flash.getD 4 0]

theorem photoReply_eq (s : State) : photoReply s = photoBytes s := by
  rw [photoReply, ← spread_eq (turretBytes_length s), ← spread_eq (lensBytes_length s),
    ← spread_eq (carriageBytes_length s), ← spread_eq (flashBytes_length s)]
  dsimp only [photoBytes, latchedByte]
  cases s.photo.latched <;> rfl

/-! ### QUERY EXPOSURE (R152) -/

theorem stepBytes_length (s : State) : (stepBytes s).length = 1 := by
  unfold stepBytes
  split <;> rfl

theorem lineBytes_length (s : State) : (lineBytes s).length = 6 := by
  unfold lineBytes
  split <;> rfl

theorem gapBytes_length (s : State) : (gapBytes s).length = 4 := by
  unfold gapBytes
  split <;> rfl

/-- The 38 bytes. -/
def exposureBytes (s : State) : List Byte :=
  let f := s.film
  let step := stepBytes s
  let line := lineBytes s
  let gap := gapBytes s
  let left := f.length - f.deepest
  [byteOf s.exposure.state.toNat, byteOf s.holdCode, step.getD 0 0, line.getD 0 0, line.getD 1 0, line.getD 2 0,
   line.getD 3 0, line.getD 4 0, line.getD 5 0, byteOf (bitByte s.exposure.work.isCut 0 + bitByte s.exposure.note 1
   + bitByte f.loaded 2 + bitByte s.filmLow 3 + bitByte f.move.isSome 4 + bitByte s.cutterHome 5), byteOf f.length,
   byteOf (f.length / 256), byteOf (f.length / 65536), byteOf (f.length / 65536 / 256), byteOf f.position, byteOf
   (f.position / 256), byteOf (f.position / 65536), byteOf (f.position / 65536 / 256), byteOf f.galleyStart, byteOf
   (f.galleyStart / 256), byteOf (f.galleyStart / 65536), byteOf (f.galleyStart / 65536 / 256), byteOf f.deepest,
   byteOf (f.deepest / 256), byteOf (f.deepest / 65536), byteOf (f.deepest / 65536 / 256), byteOf left, byteOf (left
   / 256), byteOf (left / 65536), byteOf (left / 65536 / 256), gap.getD 0 0, gap.getD 1 0, gap.getD 2 0, gap.getD 3
   0, byteOf s.stepsLeft, byteOf (s.stepsLeft / 256), byteOf (s.stepsLeft / 65536), byteOf (s.stepsLeft / 65536 /
   256)]

theorem exposureReply_eq (s : State) : exposureReply s = exposureBytes s := by
  rw [exposureReply, ← spread_eq (stepBytes_length s), ← spread_eq (lineBytes_length s),
    ← spread_eq (gapBytes_length s)]
  rfl

/-! ### QUERY PROOF (R162) -/

theorem portLeft_length (s : State) : (portLeft s).length = 1 := by
  unfold portLeft
  split <;> rfl

theorem placeBytes_length (s : State) : (placeBytes s).length = 3 := by
  unfold placeBytes
  split <;> rfl

theorem bufferBytes_length (s : State) (i : Fin 2) : (bufferBytes s i).length = 5 := by
  unfold bufferBytes
  split <;> rfl

/-- The 18 bytes before the cell widths. -/
def proofHead (s : State) : List Byte :=
  let port := portLeft s
  let place := placeBytes s
  let b0 := bufferBytes s 0
  let b1 := bufferBytes s 1
  [byteOf s.proof.port.toNat, port.getD 0 0, place.getD 0 0, place.getD 1 0, place.getD 2 0, byteOf s.proof.feeds,
   b0.getD 0 0, b0.getD 1 0, b0.getD 2 0, b0.getD 3 0, b0.getD 4 0, b1.getD 0 0, b1.getD 1 0, b1.getD 2 0, b1.getD 3
   0, b1.getD 4 0, byteOf (bitByte s.paperPresent 0 + bitByte s.printerBusy 1), (s.store.paperHolder.map fun g =>
   byteOf g.val).getD 0xFF]

/-- The widths of the cells of a set. -/
def cellWidths (set : Vector Cell 96) : List Byte := set.toList.map fun c => byteOf c.width

theorem cellWidths_length (set : Vector Cell 96) : (cellWidths set).length = 96 := by
  simp [cellWidths]

theorem proofReply_eq (s : State) : proofReply s = proofHead s ++ s.proof.cells.toList.flatMap cellWidths := by
  rw [proofReply, ← spread_eq (portLeft_length s), ← spread_eq (placeBytes_length s),
    ← spread_eq (bufferBytes_length s 0), ← spread_eq (bufferBytes_length s 1)]
  rfl

end Sys2Proof.Machine
end

section
/-! PROOF. The queries (O16): their taking, and their replies byte by byte. -/

namespace Sys2Proof.Machine

/-! ### The taking -/

theorem takeQueryFont_badArgument {ch : ChannelId} {b : Block} {s : State} (h : parseQueryFont b.payload = none) :
    takeQueryFont ch b s = refuse ch .badArgument s := by
  simp only [takeQueryFont, h]

theorem takeQueryFont_notFound {ch : ChannelId} {b : Block} {s : State} {sel : Option FontSlot}
    (h : parseQueryFont b.payload = some sel) (none_ : s.address sel b.target.toNat = none) :
    takeQueryFont ch b s = refuse ch .notFound s := by
  simp only [takeQueryFont, h, none_]

theorem takeQueryFont_replies {ch : ChannelId} {b : Block} {s : State} {sel : Option FontSlot} {i : FontSlot}
    (h : parseQueryFont b.payload = some sel) (found : s.address sel b.target.toNat = some i) :
    takeQueryFont ch b s = reply ch i.val (fontReply i s) s := by
  simp only [takeQueryFont, h, found]

theorem takeQueryGalley_badArgument {ch : ChannelId} {b : Block} {s : State} (h : galleyOf b.target = none) :
    takeQueryGalley ch b s = refuse ch .badArgument s := by
  simp only [takeQueryGalley, h]

theorem takeQueryGalley_replies {ch : ChannelId} {b : Block} {s : State} {g : GalleyId}
    (h : galleyOf b.target = some g) :
    takeQueryGalley ch b s = reply ch (s.galley g).state.toNat (galleyReply g s)
      (s.modGalley g fun x => { x with sticky := 0 }) := by
  simp only [takeQueryGalley, h]

/-! ### QUERY FONT -/

theorem cells_eq (r : FontRecord) : r.cells = match r.state, r.amend with
    | .empty, _ => 0
    | _, none => r.kerning.length
    | _, some a => r.kerning.length + (a.parts.kerning.getD []).length := by
  cases state : r.state <;> cases amend : r.amend <;> simp [FontRecord.cells, FontRecord.inUse, state, amend]

theorem le16_toNat (v : Half) : le16 v.toNat = [v.setWidth 8, (v >>> 8).setWidth 8] := by
  have high : (v >>> 8).setWidth 8 = BitVec.ofNat 8 (v.toNat / 256) := by
    apply BitVec.eq_of_toNat_eq
    simp [Nat.shiftRight_eq_div_pow]
  rw [high]
  rfl

/-! ### QUERY GALLEY -/

theorem positionByte_of_not_mem {g : GalleyId} {queue : List GalleyId} (out : g ∉ queue) :
    positionByte (queuePosition g queue) = byteOf 0xFF := by
  have none_ : queuePosition g queue = none :=
    List.findIdx?_eq_none_iff.mpr fun h hh => beq_eq_false_iff_ne.mpr fun e => out (e ▸ hh)
  rw [positionByte, none_]
  rfl

theorem positionByte_of_first {g : GalleyId} {queue : List GalleyId} {n : Nat} (hn : queue[n]? = some g)
    (first : ∀ m, m < n → queue[m]? ≠ some g) : positionByte (queuePosition g queue) = byteOf n := by
  obtain ⟨within, at_⟩ := List.getElem?_eq_some_iff.mp hn
  have found : queuePosition g queue = some n := by
    refine List.findIdx?_eq_some_iff_getElem.mpr ⟨within, by simp [at_], fun m hm => ?_⟩
    have other := first m hm
    rw [List.getElem?_eq_getElem (by omega)] at other
    simpa using other
  rw [positionByte, found]
  rfl

/-! ### QUERY PHOTO UNIT -/

theorem carriageBytes_position (s : State) : ∃ b tail, carriageBytes s = b :: (le16 s.photo.position ++ tail) := by
  unfold carriageBytes
  split <;> exact ⟨_, _, rfl⟩

/-! ### QUERY EXPOSURE -/

/-- No step is left where no film move is kept and the line in exposure, if any, does not advance. -/
theorem stepsLeft_of_still {s : State} (move : s.film.move = none)
    (still : ∀ l forward n, s.exposure.work = .line l → l.step ≠ .advance forward n) : s.stepsLeft = 0 := by
  cases work : s.exposure.work with
  | line l =>
    cases step : l.step with
    | advance forward n => exact absurd step (still l forward n work)
    | decision | turret | lens | carriage | shutter | armed => simp only [State.stepsLeft, move, work, step]
  | none | gap | cut | advanceFilm | cutFilm => simp only [State.stepsLeft, move, work]

/-- Settles O16: the taking of each query, and each reply by its layout. -/
theorem queriesReportAndChangeNothingElse : Obligations.QueriesReportAndChangeNothingElse := by
  refine ⟨fun s ch b ready fits => ?_, fun s => ?_⟩
  · refine ⟨fun h => request_refused ready fits fun t _ => takeQueryFont_badArgument h,
      fun sel h none_ => request_refused ready fits fun t ht => takeQueryFont_notFound h (by subst ht; exact none_),
      fun sel i h found => ?_, fun h => request_refused ready fits fun t _ => takeQueryGalley_badArgument h,
      fun g h => ?_, ?_, ?_, ?_⟩
    · refine request_replied id ready fits (fun _ => rfl) (fun _ => rfl) (fun _ => rfl) fun t ht => ?_
      refine (takeQueryFont_replies h (by subst ht; exact found)).trans ?_
      rw [ht, fontReply_waits]
      rfl
    · refine request_replied (State.modGalley g fun x => { x with sticky := 0 }) ready fits (fun _ => rfl)
        (fun _ => rfl) (fun _ => settled_modGalley _ _ _ rfl) fun t ht => ?_
      refine (takeQueryGalley_replies h).trans ?_
      rw [ht, galleyReply_waits]
      rfl
    · refine request_replied id ready fits (fun _ => rfl) (fun _ => rfl) (fun _ => rfl) fun t ht => ?_
      show takeQueryPhoto ch t = _
      rw [takeQueryPhoto, ht, photoReply_waits]
      rfl
    · refine request_replied id ready fits (fun _ => rfl) (fun _ => rfl) (fun _ => rfl) fun t ht => ?_
      show takeQueryExposure ch t = _
      rw [takeQueryExposure, ht, exposureReply_waits]
      rfl
    · refine request_replied id ready fits (fun _ => rfl) (fun _ => rfl) (fun _ => rfl) fun t ht => ?_
      show takeQueryProof ch t = _
      rw [takeQueryProof, ht, proofReply_waits]
      rfl
  intro bit
  refine ⟨fun _ => rfl, fun g => ?_, ?_, ?_, ?_, fun i short => ?_, fun g => ?_, ?_, ?_, ?_⟩
  · rw [galleyReply_eq]
    refine ⟨rfl, ?_⟩
    show le16 (s.galley g).sticky.toNat = _
    rw [le16_toNat]
  · rw [photoReply_eq]
    rfl
  · rw [exposureReply_eq]
    rfl
  · rw [proofReply_eq, List.length_append, length_flatMap_const cellWidths_length, Vector.length_toList]
    rfl
  · intro x r newList inUse
    have layout : r = fontHead i s ++ (x.widths.toList.map byteOf ++ x.kerning.flatMap kernBytes) := fontReply_eq short
    have widths : (x.widths.toList.map byteOf).length = 96 := by simp
    have at_ : ∀ {k : Nat} {b : Byte}, (fontHead i s)[k]? = some b → r[k]? = some b := fun {k b} h => by
      have within : k < (fontHead i s).length := (List.getElem?_eq_some_iff.mp h).1
      rw [layout, List.getElem?_append_left within, h]
    have name : ∃ tail, r = [byteOf i.val, byteOf x.state.toNat, byteOf x.number, byteOf x.name.length] ++
        (x.name ++ tail) := by
      simp only [r, fontReply, nameBytes, List.append_assoc, List.cons_append, List.nil_append]
      exact ⟨_, rfl⟩
    have pool : s.poolFree = 1024 - ((List.finRange 32).map inUse).sum := by
      have each : (fun j => (s.font j).cells) = inUse := funext fun j => (cells_eq _).trans rfl
      rw [State.poolFree, State.cellsUsed, each]
    refine ⟨?_, reports_byte (at_ rfl) rfl, reports_byte (at_ rfl) ?_, reports_byte (at_ rfl) rfl,
      reports_byte (at_ rfl) rfl, fun k hk => ?_, reports_byte (at_ rfl) rfl, ?_, reports_byte (at_ rfl) ?_,
      reports_byte (at_ rfl) ?_, reports_byte (at_ rfl) rfl, reports_byte (at_ rfl) rfl, reports_byte (at_ rfl) rfl,
      reports_byte (at_ rfl) ?_, reports_byte (at_ rfl) rfl, ?_, fun c => ?_, fun n k found => ?_⟩
    · rw [layout, List.length_append, List.length_append, widths, length_flatMap_const (m := 3) fun _ => rfl,
        ← Nat.add_assoc]
      rfl
    · cases x.state <;> rfl
    · obtain ⟨tail, e⟩ := name
      rw [e, List.getElem?_append_right (Nat.le_add_right 4 k), List.getElem?_append_left (by simpa using hk)]
      simp
    · cases placed : x.placement with
      | none => exact reports_byte (at_ rfl) (by rw [placed]; rfl)
      | some p =>
        exact ⟨reports_byte (at_ rfl) (by rw [placed]; rfl), reports_byte (at_ rfl) (by rw [placed]; rfl),
          reports_byte (at_ rfl) (by rw [placed]; rfl), reports_byte (at_ rfl) (by rw [placed]; rfl)⟩
    · cases x.verification <;> rfl
    · rw [byteOf, BitVec.ofNat_toNat, BitVec.setWidth_eq]
    · cases x.amend <;> rfl
    · rw [← pool]
      exact reports_half (at_ rfl) (at_ rfl)
    · refine reports_byte (b := byteOf (vget x.widths c)) ?_ rfl
      rw [layout, List.getElem?_append_right (Nat.le_add_right 30 c.val), show (fontHead i s).length = 30 from rfl,
        Nat.add_sub_cancel_left, List.getElem?_append_left (by rw [widths]; exact c.isLt)]
      simp [vget]
    · have pair : ∀ j, j < 3 → r[126 + (3 * n + j)]? = (kernBytes k)[j]? := fun j hj => by
        have past : (fontHead i s ++ x.widths.toList.map byteOf).length = 126 := by
          rw [List.length_append, widths]
          rfl
        rw [layout, ← List.append_assoc, List.getElem?_append_right (past ▸ Nat.le_add_right ..), past,
          Nat.add_sub_cancel_left, getElem?_flatMap (m := 3) (fun _ => rfl) _ hj, found]
        rfl
      have right : 127 + 3 * n = 126 + (3 * n + 1) := by omega
      have adjust : 128 + 3 * n = 126 + (3 * n + 2) := by omega
      rw [right, adjust]
      exact ⟨reports_byte (pair 0 (by decide)) rfl, reports_byte (pair 1 (by decide)) rfl, pair 2 (by decide)⟩
  · intro x r state placeIn
    have layout : r = galleyBytes g s := galleyReply_eq g s
    have at_ : ∀ {k : Nat} {b : Byte}, (galleyBytes g s)[k]? = some b → r[k]? = some b := fun {k b} h => by
      rw [layout, h]
    have queued : ∀ {k : Nat} {queue : List GalleyId}, r[k]? = some (positionByte (queuePosition g queue)) →
        placeIn k queue := fun h =>
      ⟨fun out => reports_byte h (positionByte_of_not_mem out),
        fun n hn first => reports_byte h (positionByte_of_first hn first)⟩
    have code : x.state.toNat = state := by cases h : x.state <;> simp only [state, h] <;> rfl
    refine ⟨code, reports_byte (at_ rfl) (congrArg byteOf code), reports_byte (at_ rfl) ?_, reports_byte (at_ rfl) rfl, ?_,
      reports_half (at_ rfl) (at_ rfl), reports_half (at_ rfl) (at_ rfl), reports_half (at_ rfl) (at_ rfl),
      reports_half (at_ rfl) (at_ rfl), reports_byte (at_ rfl) ?_, reports_byte (at_ rfl) rfl,
      reports_byte (at_ rfl) rfl, reports_byte (at_ rfl) rfl, at_ rfl, reports_byte (at_ rfl) rfl,
      reports_byte (at_ rfl) rfl, reports_byte (at_ rfl) rfl, reports_byte (at_ rfl) rfl,
      reports_half (at_ rfl) (at_ rfl), reports_byte (at_ rfl) rfl, reports_byte (at_ rfl) rfl,
      reports_half (at_ rfl) (at_ rfl), queued (at_ rfl), queued (at_ rfl), reports_byte (at_ rfl) rfl,
      reports_half (at_ rfl) (at_ rfl)⟩
    · cases x.mode <;> rfl
    · cases font : x.font with
      | none =>
        exact ⟨reports_byte (at_ rfl) (by rw [currentFontBytes, font]; rfl),
          reports_byte (at_ rfl) (by rw [currentFontBytes, font]; rfl)⟩
      | some i =>
        exact ⟨reports_byte (at_ rfl) (by rw [currentFontBytes, font]; rfl),
          reports_byte (at_ rfl) (by rw [currentFontBytes, font]; rfl)⟩
    · cases x.quad <;> rfl
  · intro r p disc expired
    have layout : r = photoBytes s := photoReply_eq s
    have at_ : ∀ {k : Nat} {b : Byte}, (photoBytes s)[k]? = some b → r[k]? = some b := fun {k b} h => by
      rw [layout, h]
    have code : p.disc.toNat = disc := by cases h : p.disc <;> simp only [disc, h] <;> rfl
    have late : (p.turret.isMoving && p.turretExpired) = expired := by
      cases h : p.turret <;> simp only [expired, h, Turret.isMoving] <;> simp
    refine ⟨code, reports_byte (at_ rfl) (congrArg byteOf code), reports_byte (at_ rfl) ?_,
      reports_word (at_ rfl) (at_ rfl) (at_ rfl) (at_ rfl), reports_word (at_ rfl) (at_ rfl) (at_ rfl) (at_ rfl),
      reports_byte (at_ rfl) rfl, ?_, fun code h => ?_, ?_, ?_, ?_, reports_byte (at_ rfl) rfl,
      reports_byte (at_ rfl) ?_, ?_⟩
    · rw [← late]
      rfl
    · cases turret : p.turret with
      | unknown => exact reports_byte (at_ rfl) (by rw [turretBytes, turret]; rfl)
      | standing q =>
        exact ⟨reports_byte (at_ rfl) (by rw [turretBytes, turret]; rfl),
          reports_byte (at_ rfl) (by rw [turretBytes, turret]; rfl)⟩
      | moving target by_ =>
        cases target with
        | none => exact ⟨reports_byte (at_ rfl) (by rw [turretBytes, turret]; rfl), nofun⟩
        | some q =>
          refine ⟨reports_byte (at_ rfl) (by rw [turretBytes, turret]; rfl), fun q' h => ?_⟩
          cases h
          exact reports_byte (at_ rfl) (by rw [turretBytes, turret]; rfl)
    · exact reports_byte (at_ rfl) (by rw [latchedByte, h]; rfl)
    · cases lens : p.lens <;>
        exact ⟨reports_byte (at_ rfl) (by rw [lensBytes, lens]; rfl),
          reports_byte (at_ rfl) (by rw [lensBytes, lens]; rfl)⟩
    · cases carriage : p.carriage with
      | homing phase target =>
        cases target with
        | none => exact ⟨reports_byte (at_ rfl) (by rw [carriageBytes, carriage]; rfl), nofun⟩
        | some x =>
          refine ⟨reports_byte (at_ rfl) (by rw [carriageBytes, carriage]; rfl), fun x' h => ?_⟩
          cases h
          have e : carriageBytes s = 0 :: (le16 p.position ++ le16 x) := by rw [carriageBytes, carriage]
          exact reports_half (at_ (by rw [photoBytes, e]; rfl)) (at_ (by rw [photoBytes, e]; rfl))
      | stepping x =>
        have e : carriageBytes s = 1 :: (le16 p.position ++ le16 x) := by rw [carriageBytes, carriage]
        exact ⟨reports_byte (at_ rfl) (by rw [e]; rfl),
          reports_half (at_ (by rw [photoBytes, e]; rfl)) (at_ (by rw [photoBytes, e]; rfl))⟩
      | settled => exact reports_byte (at_ rfl) (by rw [carriageBytes, carriage]; rfl)
    · obtain ⟨b, tail, e⟩ := carriageBytes_position s
      exact reports_half (at_ (by rw [photoBytes, e]; rfl)) (at_ (by rw [photoBytes, e]; rfl))
    · cases p.lamp <;> rfl
    · cases flash : p.flash with
      | some q =>
        have e : flashBytes s = [byteOf q.code.val, byteOf q.slot.val, byteOf q.lens.val] ++ le16 q.x := by
          rw [flashBytes, flash]
        exact ⟨reports_byte (at_ rfl) (by rw [e]; rfl), reports_byte (at_ rfl) (by rw [e]; rfl),
          reports_byte (at_ rfl) (by rw [e]; rfl),
          reports_half (at_ (by rw [photoBytes, e]; rfl)) (at_ (by rw [photoBytes, e]; rfl))⟩
      | none =>
        exact ⟨reports_byte (at_ rfl) (by rw [flashBytes, flash]; rfl),
          reports_byte (at_ rfl) (by rw [flashBytes, flash]; rfl)⟩
  · intro r e f hold cutting
    have layout : r = exposureBytes s := exposureReply_eq s
    have at_ : ∀ {k : Nat} {b : Byte}, (exposureBytes s)[k]? = some b → r[k]? = some b := fun {k b} h => by
      rw [layout, h]
    have code : s.holdCode = hold := by
      rw [State.holdCode]
      cases h : e.hold with
      | none => simp only [hold, h]; rfl
      | some reason => cases reason <;> simp only [hold, h] <;> rfl
    refine ⟨code, reports_byte (at_ rfl) (congrArg byteOf code), reports_byte (at_ rfl) ?_, ?_,
      reports_byte (at_ rfl) ?_, reports_word (at_ rfl) (at_ rfl) (at_ rfl) (at_ rfl),
      reports_word (at_ rfl) (at_ rfl) (at_ rfl) (at_ rfl), reports_word (at_ rfl) (at_ rfl) (at_ rfl) (at_ rfl),
      reports_word (at_ rfl) (at_ rfl) (at_ rfl) (at_ rfl), reports_word (at_ rfl) (at_ rfl) (at_ rfl) (at_ rfl),
      fun m move => ?_, fun move => ⟨fun l forward n work step => ?_, fun still => ?_⟩⟩
    · show byteOf (Exposure.state e).toNat = _
      unfold Exposure.state
      cases e.hold with
      | some reason => rfl
      | none => cases e.work <;> rfl
    · cases work : e.work with
      | line l =>
        have line : lineBytes s = [byteOf l.slot.val, byteOf l.galley.val] ++ le16 l.seq.toNat ++
            [byteOf l.order.length, byteOf l.next] := by rw [lineBytes, work]
        refine ⟨reports_byte (at_ rfl) ?_, reports_byte (at_ rfl) (by rw [line]; rfl),
          reports_byte (at_ rfl) (by rw [line]; rfl),
          reports_half (at_ (by rw [exposureBytes, line]; rfl)) (at_ (by rw [exposureBytes, line]; rfl)),
          reports_byte (at_ rfl) (by rw [line]; rfl), reports_byte (at_ rfl) (by rw [line]; rfl)⟩
        have step : stepBytes s = [byteOf l.step.code] := by rw [stepBytes, work]
        rw [step]
        show byteOf l.step.code = _
        cases l.step <;> rfl
      | gap target | cut target =>
        have gap : gapBytes s = le32 target := by rw [gapBytes, work]
        exact ⟨reports_byte (at_ rfl) (by rw [stepBytes, work]; rfl),
          reports_byte (at_ rfl) (by rw [lineBytes, work]; rfl),
          reports_byte (at_ rfl) (by rw [lineBytes, work]; rfl),
          reports_word (at_ (by rw [exposureBytes, gap]; rfl)) (at_ (by rw [exposureBytes, gap]; rfl))
            (at_ (by rw [exposureBytes, gap]; rfl)) (at_ (by rw [exposureBytes, gap]; rfl))⟩
      | none | advanceFilm | cutFilm =>
        exact ⟨reports_byte (at_ rfl) (by rw [lineBytes, work]; rfl),
          reports_byte (at_ rfl) (by rw [lineBytes, work]; rfl)⟩
    · have cut : e.work.isCut = cutting := by cases h : e.work <;> simp only [cutting, h] <;> rfl
      rw [← cut]
      rfl
    · have left : s.stepsLeft = m.remaining := by simp only [State.stepsLeft, show s.film.move = some m from move]
      rw [← left]
      exact reports_word (at_ rfl) (at_ rfl) (at_ rfl) (at_ rfl)
    · have left : s.stepsLeft = n := by
        simp only [State.stepsLeft, show s.film.move = none from move, show s.exposure.work = .line l from work, step]
      rw [← left]
      exact reports_word (at_ rfl) (at_ rfl) (at_ rfl) (at_ rfl)
    · have left : s.stepsLeft = 0 := stepsLeft_of_still move still
      rw [← left]
      exact reports_word (at_ rfl) (at_ rfl) (at_ rfl) (at_ rfl)
  · intro r port place band
    have layout : r = proofHead s ++ s.proof.cells.toList.flatMap cellWidths := proofReply_eq s
    have at_ : ∀ {k : Nat} {b : Byte}, (proofHead s)[k]? = some b → r[k]? = some b := fun {k b} h => by
      have within : k < (proofHead s).length := (List.getElem?_eq_some_iff.mp h).1
      rw [layout, List.getElem?_append_left within, h]
    have code : s.proof.port.toNat = port := by cases h : s.proof.port <;> simp only [port, h] <;> rfl
    have banded : ∀ {k : Nat} {i : Fin 2}, (∀ j, j < 5 → r[k + j]? = some ((bufferBytes s i).getD j 0)) →
        band k (vget s.proof.buffers i) := fun {k i} h => by
      cases buffer : vget s.proof.buffers i with
      | empty =>
        exact ⟨reports_byte (h 0 (by decide)) (by rw [bufferBytes, buffer]; rfl),
          reports_byte (h 1 (by decide)) (by rw [bufferBytes, buffer]; rfl),
          reports_byte (h 2 (by decide)) (by rw [bufferBytes, buffer]; rfl)⟩
      | ready b | sending b =>
        exact ⟨reports_byte (h 0 (by decide)) (by rw [bufferBytes, buffer]; rfl),
          reports_byte (h 1 (by decide)) (by rw [bufferBytes, buffer]; rfl),
          reports_byte (h 2 (by decide)) (by rw [bufferBytes, buffer]; rfl),
          reports_half ((h 3 (by decide)).trans (by rw [bufferBytes, buffer]; rfl))
            ((h 4 (by decide)).trans (by rw [bufferBytes, buffer]; rfl))⟩
    refine ⟨code, reports_byte (at_ rfl) (congrArg byteOf code), fun held => ?_, fun held => ?_, fun sends => ?_,
      reports_byte (at_ rfl) rfl, banded fun j hj => ?_, banded fun j hj => ?_, reports_byte (at_ rfl) rfl,
      reports_byte (at_ rfl) ?_, fun set code => ?_⟩
    · exact reports_byte (at_ rfl) (by rw [portLeft, held]; rfl)
    · exact reports_byte (at_ rfl) (by rw [portLeft, held]; rfl)
    · have e : placeBytes s = byteOf s.proof.row :: le16 s.proof.pos := by
        rcases sends with sends | sends <;> rw [placeBytes, sends]
      exact ⟨reports_byte (at_ rfl) (by rw [e]; rfl),
        reports_half (at_ (by rw [proofHead, e]; rfl)) (at_ (by rw [proofHead, e]; rfl))⟩
    · interval_cases j <;> exact at_ rfl
    · interval_cases j <;> exact at_ rfl
    · cases s.store.paperHolder <;> rfl
    · refine reports_byte (b := byteOf (vget (vget s.proof.cells set) code).width) ?_ rfl
      have within : s.proof.cells.toList[set.val]? = some (vget s.proof.cells set) := by simp [vget]
      rw [layout, Nat.add_assoc, List.getElem?_append_right (Nat.le_add_right 18 _),
        show (proofHead s).length = 18 from rfl, Nat.add_sub_cancel_left,
        getElem?_flatMap cellWidths_length _ code.isLt, within]
      simp [cellWidths, vget]

end Sys2Proof.Machine
end

section
/-! PROOF. OPEN GALLEY (O47): its checks, the galley that it sets up, and the nearest lens size (R25 to R27). -/

namespace Sys2Proof.Machine

/-! ### The nearest lens size (R27) -/

/-- R27 takes the size `a` no later than the size `b`: it is nearer to `n`, or as near and not larger. -/
def NoFarther (n a b : Nat) : Prop := distance a n ≤ distance b n ∧ (distance a n = distance b n → a ≤ b)

theorem NoFarther.refl (n a : Nat) : NoFarther n a a := ⟨Nat.le_refl _, fun _ => Nat.le_refl _⟩

theorem NoFarther.trans {n a b c : Nat} (h : NoFarther n a b) (h' : NoFarther n b c) : NoFarther n a c := by
  obtain ⟨near, tie⟩ := h
  obtain ⟨near', tie'⟩ := h'
  exact ⟨near.trans near', fun e => (tie (by omega)).trans (tie' (by omega))⟩

/-- One of the two sizes is taken, and it is no farther than either. -/
theorem nearer_spec (n a b : Nat) :
    (nearer n a b = a ∨ nearer n a b = b) ∧ NoFarther n (nearer n a b) a ∧ NoFarther n (nearer n a b) b := by
  unfold nearer NoFarther
  split
  · omega
  · split
    · rcases Nat.le_total a b with le | le
      · rw [Nat.min_eq_left le]; omega
      · rw [Nat.min_eq_right le]; omega
    · omega

/-- The running choice along a list ends with the size of the list that is no farther than any of them. -/
theorem foldl_nearer_spec (n a : Nat) (rest : List Nat) :
    rest.foldl (nearer n) a ∈ a :: rest ∧ ∀ b ∈ a :: rest, NoFarther n (rest.foldl (nearer n) a) b := by
  induction rest generalizing a with
  | nil => simpa using NoFarther.refl n a
  | cons c rest ih =>
    obtain ⟨taken, first, second⟩ := nearer_spec n a c
    obtain ⟨member, least⟩ := ih (nearer n a c)
    have before := least _ List.mem_cons_self
    rw [List.foldl_cons]
    refine ⟨?_, fun b hb => ?_⟩
    · rcases List.mem_cons.mp member with e | later
      · rw [e]
        rcases taken with t | t <;> simp [t]
      · simp [later]
    · rcases List.mem_cons.mp hb with rfl | hb
      · exact before.trans first
      rcases List.mem_cons.mp hb with rfl | hb
      · exact before.trans second
      · exact least b (List.mem_cons_of_mem _ hb)

theorem mem_lensSizes {s : State} {size : Nat} : size ∈ lensSizes s ↔ (∃ p, s.lensSize p = size) ∧ size ≠ 0 := by
  simp [lensSizes]

theorem nearestLens_eq_none {n : Nat} {s : State} (h : ∀ p, s.lensSize p = 0) : nearestLens n s = none := by
  have empty : lensSizes s = [] := List.eq_nil_iff_forall_not_mem.mpr fun size hit => by
    obtain ⟨⟨p, e⟩, filled⟩ := mem_lensSizes.mp hit
    exact filled (e ▸ h p)
  rw [nearestLens, empty]

theorem nearestLens_spec {n size : Nat} {s : State} (h : nearestLens n s = some size) :
    size ∈ lensSizes s ∧ ∀ b ∈ lensSizes s, NoFarther n size b := by
  rw [nearestLens] at h
  cases sizes : lensSizes s with
  | nil => simp [sizes] at h
  | cons a rest =>
    obtain rfl : rest.foldl (nearer n) a = size := by simpa [sizes] using h
    exact foldl_nearer_spec n a rest

/-! ### The taking (R25) -/

theorem takeOpenGalley_badArgument {ch : ChannelId} {b : Block} {s : State}
    (h : galleyOf b.target = none ∨ parseOpenGalley b.payload = none) :
    takeOpenGalley ch b s = refuse ch .badArgument s := by
  unfold takeOpenGalley
  split
  next hg ha => simp [hg, ha] at h
  next => rfl

section OpenGalley

variable {ch : ChannelId} {b : Block} {s : State} {g : GalleyId} {a : OpenArgs} (target : galleyOf b.target = some g)
  (parsed : parseOpenGalley b.payload = some a)
include target parsed

theorem takeOpenGalley_wrongState (h : (s.galley g).state ≠ .closed) :
    takeOpenGalley ch b s = refuse ch .wrongState s := by
  simp only [takeOpenGalley, target, parsed, if_pos h]

variable (closed : (s.galley g).state = .closed)
include closed

theorem takeOpenGalley_notFound (h : s.resolve a.fontNumber = none) :
    takeOpenGalley ch b s = refuse ch .notFound s := by
  simp only [takeOpenGalley, target, parsed, if_neg (not_not.mpr closed), h]

theorem takeOpenGalley_noLens (found : (s.resolve a.fontNumber).isSome) (h : nearestLens a.size s = none) :
    takeOpenGalley ch b s = refuse ch .wrongState s := by
  obtain ⟨i, slot⟩ := Option.isSome_iff_exists.mp found
  simp only [takeOpenGalley, target, parsed, if_neg (not_not.mpr closed), slot, h]

theorem takeOpenGalley_opens {i : FontSlot} {size : Nat} (slot : s.resolve a.fontNumber = some i)
    (lens : nearestLens a.size s = some size) :
    takeOpenGalley ch b s = finish ch (doneOr (openClamped a || size != a.size)) 0
      (joinQueues g a.mode (raiseCurrent i (s.modGalley g (openedGalley a size i)))) := by
  simp only [takeOpenGalley, target, parsed, if_neg (not_not.mpr closed), slot, lens]

end OpenGalley

/-- The film takes every galley but a PROOF one, and paper every galley but a FILM one (R23, R24). -/
theorem joinQueues_eq (g : GalleyId) (m : OutputMode) (s : State) :
    joinQueues g m s = s.modStore fun t =>
      { t with
        filmQueue := if m = .proof then t.filmQueue else t.filmQueue ++ [g]
        paperQueue := if m = .film then t.paperQueue else t.paperQueue ++ [g] } := by
  cases m <;> rfl

/-- Settles O47: the branches of OPEN GALLEY in the order of its checks, and the choice of the lens size. -/
theorem openGalleySetsUpAClosedGalley : Obligations.OpenGalleySetsUpAClosedGalley := by
  refine ⟨fun s ch b ready fits => ⟨fun h => ?_, fun g a target parsed => ?_⟩, fun s n size h => ?_⟩
  · exact request_refused ready fits fun t _ => takeOpenGalley_badArgument h
  · refine ⟨fun h => ?_, fun closed none_ => ?_, fun closed found empty => ?_, fun i size closed slot lens => ?_⟩
    · exact request_refused ready fits fun t ht => takeOpenGalley_wrongState target parsed (by subst ht; exact h)
    · refine request_refused ready fits fun t ht => ?_
      subst ht
      exact takeOpenGalley_notFound target parsed closed none_
    · refine request_refused ready fits fun t ht => ?_
      subst ht
      exact takeOpenGalley_noLens target parsed closed found (nearestLens_eq_none empty)
    · have completes := request_completed (code := 0x30)
        (fun t => joinQueues g a.mode (raiseCurrent i (t.modGalley g (openedGalley a size i))))
        ready fits (fun _ => rfl) (fun _ => rfl) fun t ht => by
          subst ht
          exact takeOpenGalley_opens (s := s.fresh.waits ch _) target parsed closed slot
            ((nearestLens_congr (by rfl) _).trans lens)
      rw [joinQueues_eq] at completes
      exact completes
  · obtain ⟨member, least⟩ := nearestLens_spec h
    obtain ⟨stands, filled⟩ := mem_lensSizes.mp member
    exact ⟨stands, filled, fun p other => least _ (mem_lensSizes.mpr ⟨⟨p, rfl⟩, other⟩)⟩

end Sys2Proof.Machine
end

section
/-! PROOF. SET TEXT and SET PRIORITY (O48): text that is appended or waits (R29, R30), and the priority replaced (R31). -/

namespace Sys2Proof.Machine

theorem galleyOf_eq_none {n : Byte} : galleyOf n = none ↔ 7 < n.toNat := by
  unfold galleyOf
  split
  · simp only [reduceCtorEq, false_iff]; omega
  · simp only [true_iff]; omega

/-! ### A request that its owner keeps -/

/-- A request that its owner keeps when it takes it, with an effect `f` that keeps the channels and wakes no reaction. -/
theorem request_kept {s : State} {ch : ChannelId} {code : Byte} {b : Block} (f : State → State) (h : s.readyFor ch)
    (fits : b.payload.length ≤ 1024) (keep : ∀ t, (f t).channels = t.channels)
    (past : ∀ t, f (t.waits ch { code := code, block := b }) = (f t).waits ch { code := code, block := b })
    (still : ∀ t, (f t).settled = t.settled)
    (e : ∀ t, t = s.fresh.waits ch { code := code, block := b } →
      ownerTakes ch { code := code, block := b } t = f t) :
    EventTo (requestEvent code ch b s) s ((f s.fresh).waits ch { code := code, block := b }) := by
  have k : (f s.fresh).readyFor ch := (State.readyFor_congr (keep _)).2 ((State.readyFor_congr rfl).2 h)
  refine eventTo_of_settled ?_ (by rw [settled_waits k, still, settled_fresh])
  rw [requestEvent_ready h _ _ fits, e _ rfl, past]

/-! ### The waiting text at the head (R29) -/

/-- A completion is a matter of channels: it goes past a change of a galley. -/
theorem modGalley_finish (g : GalleyId) (f : Galley → Galley) (ch : ChannelId) (c : Completion) (n : Nat) (s : State) :
    (finish ch c n s).modGalley g f = finish ch c n (s.modGalley g f) := by
  have same : (s.modGalley g f).channel ch = s.channel ch := rfl
  simp only [finish, complete, same]
  split_ifs
  · rfl
  · split <;> rfl

/-- Nothing is served while the text at the head does not fit. -/
theorem serveWaiting_of_full {g : GalleyId} {s : State} {w : WaitingText} {ws : List WaitingText}
    (queue : (s.galley g).waiting = w :: ws) (full : 1024 < (s.galley g).buffer.length + w.text.length)
    (fill : (s.galley g).buffer.length ≤ 1024) : serveWaiting g s = s := by
  rw [serveWaiting, queue, serveTexts, if_neg (by rw [Galley.room]; omega)]
  exact modGalley_self (by rw [← queue])

/-- A text that waits alone and fits is appended, and its request completes with its length. -/
theorem serveWaiting_of_fits {g : GalleyId} {s : State} {w : WaitingText} (queue : (s.galley g).waiting = [w])
    (room : (s.galley g).buffer.length + w.text.length ≤ 1024) :
    serveWaiting g s = finish w.channel .done w.text.length
      (s.modGalley g fun y => { y with buffer := y.buffer ++ w.text, waiting := [] }) := by
  rw [serveWaiting, queue, serveTexts, if_pos (by rw [Galley.room]; omega), serveTexts, modGalley_finish,
    modGalley_modGalley]
  rfl

/-! ### SET TEXT (R29) -/

/-- The galley with a text after those that wait. -/
def Galley.queued (w : WaitingText) (y : Galley) : Galley := { y with waiting := y.waiting ++ [w] }

theorem takeSetText_badArgument {ch : ChannelId} {b : Block} {s : State} (h : galleyOf b.target = none) :
    takeSetText ch b s = refuse ch .badArgument s := by
  simp only [takeSetText, h]

section Text

variable {ch : ChannelId} {b : Block} {s : State} {g : GalleyId} (target : galleyOf b.target = some g)
include target

theorem takeSetText_wrongState (h : (s.galley g).state ≠ .opened) : takeSetText ch b s = refuse ch .wrongState s := by
  simp only [takeSetText, target, if_pos h]

variable (opened : (s.galley g).state = .opened)
include opened

theorem takeSetText_serves : takeSetText ch b s =
    serveWaiting g (s.modGalley g (Galley.queued { channel := ch, text := b.payload })) := by
  simp only [takeSetText, target, if_neg (not_not.mpr opened)]
  rfl

theorem takeSetText_appends (none_ : (s.galley g).waiting = [])
    (room : (s.galley g).buffer.length + b.payload.length ≤ 1024) :
    takeSetText ch b s = finish ch .done b.payload.length
      (s.modGalley g fun y => { y with buffer := y.buffer ++ b.payload, waiting := [] }) := by
  rw [takeSetText_serves target opened, serveWaiting_of_fits (w := { channel := ch, text := b.payload }),
    modGalley_modGalley]
  · rfl
  · rw [State.galley_modGalley_self, Galley.queued, none_]; rfl
  · rw [State.galley_modGalley_self]; exact room

/-- The text waits while the first of those that wait, the new one last, does not fit. -/
theorem takeSetText_queues {w : WaitingText} {ws : List WaitingText}
    (queue : (s.galley g).waiting ++ [{ channel := ch, text := b.payload }] = w :: ws)
    (full : 1024 < (s.galley g).buffer.length + w.text.length) (fill : (s.galley g).buffer.length ≤ 1024) :
    takeSetText ch b s = s.modGalley g fun y => { y with waiting := w :: ws } := by
  rw [takeSetText_serves target opened, serveWaiting_of_full (w := w) (ws := ws)]
  · exact modGalley_congr (by rw [Galley.queued, queue])
  · rw [State.galley_modGalley_self]; exact queue
  · rw [State.galley_modGalley_self]; exact full
  · rw [State.galley_modGalley_self]; exact fill

theorem setText_waits {w : WaitingText} {ws : List WaitingText} (ready : s.readyFor ch)
    (fits : b.payload.length ≤ 1024)
    (queue : (s.galley g).waiting ++ [{ channel := ch, text := b.payload }] = w :: ws)
    (full : 1024 < (s.galley g).buffer.length + w.text.length) (fill : (s.galley g).buffer.length ≤ 1024) :
    EventTo (exec (.setText ch b) s) s
      ((s.fresh.modGalley g fun y => { y with waiting := w :: ws }).waits ch { code := 0x31, block := b }) := by
  refine request_kept (State.modGalley g fun y => { y with waiting := w :: ws }) ready fits (fun _ => rfl)
    (fun _ => rfl) (fun t => settled_modGalley t g _ rfl) fun t ht => ?_
  subst ht
  exact takeSetText_queues (s := s.fresh.waits ch _) target opened queue full fill

end Text

/-! ### SET PRIORITY (R31) -/

theorem takeSetPriority_badArgument {ch : ChannelId} {b : Block} {s : State}
    (h : galleyOf b.target = none ∨ b.payload.length ≠ 1 ∨ ∃ p, b.payload = [p] ∧ 3 < p.toNat) :
    takeSetPriority ch b s = refuse ch .badArgument s := by
  unfold takeSetPriority
  split
  next g p target payload =>
    have high : 3 < p.toNat := by simpa [target, payload] using h
    exact if_pos high
  next => rfl

section Priority

variable {ch : ChannelId} {b : Block} {s : State} {g : GalleyId} {p : Byte} (target : galleyOf b.target = some g)
  (payload : b.payload = [p]) (low : p.toNat ≤ 3)
include target payload low

theorem takeSetPriority_wrongState (h : (s.galley g).state = .closed ∨ (s.galley g).state = .cancelling) :
    takeSetPriority ch b s = refuse ch .wrongState s := by
  rcases h with h | h <;> simp only [takeSetPriority, target, payload, if_neg (Nat.not_lt.mpr low), h]

theorem takeSetPriority_replaces (h : (s.galley g).state = .opened ∨ (s.galley g).state = .ending) :
    takeSetPriority ch b s =
      finish ch .done (s.galley g).priority (s.modGalley g fun y => { y with priority := p.toNat }) := by
  rcases h with h | h <;> simp only [takeSetPriority, target, payload, if_neg (Nat.not_lt.mpr low), h]

end Priority

/-- Settles O48: SET TEXT by what waits before its text and the room, SET PRIORITY by its checks. -/
theorem setTextAndSetPriorityServeTheGalley : Obligations.SetTextAndSetPriorityServeTheGalley := by
  refine ⟨fun _ => galleyOf_eq_none, fun s ch b ready fits => ⟨fun none_ => ⟨?_, ?_⟩, fun long => ?_⟩,
    fun s ch b g ready fits target => ?_⟩
  · exact request_refused ready fits fun t _ => takeSetText_badArgument none_
  · exact request_refused ready fits fun t _ => takeSetPriority_badArgument (.inl none_)
  · exact request_refused ready fits fun t _ => takeSetPriority_badArgument (.inr (.inl long))
  refine ⟨fun h => ?_, fun opened none_ room => ?_, fun opened none_ full fill => ?_,
    fun w ws opened queue full fill => ?_, fun p payload high => ?_, fun p payload low h => ?_,
    fun p payload low h => ?_⟩
  · exact request_refused ready fits fun t ht => takeSetText_wrongState target (by subst ht; exact h)
  · refine request_completed (State.modGalley g fun y => { y with buffer := y.buffer ++ b.payload, waiting := [] })
      ready fits (fun _ => rfl) (fun _ => rfl) fun t ht => ?_
    subst ht
    exact takeSetText_appends target opened none_ room
  · exact setText_waits target opened ready fits (by rw [none_]; rfl) full fill
  · exact setText_waits target opened ready fits (by rw [queue]; rfl) full fill
  · exact request_refused ready fits fun t _ => takeSetPriority_badArgument (.inr (.inr ⟨p, payload, high⟩))
  · exact request_refused ready fits fun t ht => takeSetPriority_wrongState target payload low (by subst ht; exact h)
  · refine request_completed (State.modGalley g fun y => { y with priority := p.toNat }) ready fits (fun _ => rfl)
      (fun _ => rfl) fun t ht => ?_
    subst ht
    exact takeSetPriority_replaces target payload low h

end Sys2Proof.Machine
end

section
/-! PROOF. Equal stretch and proportional shrink (O52): each space's share and the sum of the shares (R64, R65). -/

namespace Sys2Proof.Machine

/-! ### Equal stretch (R64) -/

theorem stretch_length (spaces : List BSpace) (slack : Nat) : (stretch spaces slack).length = spaces.length := by
  simp [stretch]

theorem stretch_getElem? {spaces : List BSpace} {i : Nat} (h : i < spaces.length) (slack : Nat) :
    (stretch spaces slack)[i]? = some
      (spaces[i].opt + slack / spaces.length + if i < slack % spaces.length then 1 else 0) := by
  simp [stretch, h]

/-- Among the spaces numbered from `k` on, those with a number below `r` get 1 FU more. -/
theorem zipIdx_grown_sum (spaces : List BSpace) (q r k : Nat) :
    ((spaces.zipIdx k).map fun (p, i) => p.opt + q + if i < r then 1 else 0).sum =
      (spaces.map (·.opt)).sum + q * spaces.length + min (r - k) spaces.length := by
  induction spaces generalizing k with
  | nil => simp
  | cons p rest ih =>
    simp only [List.zipIdx_cons, List.map_cons, List.sum_cons, List.length_cons, ih (k + 1), Nat.mul_succ]
    split_ifs <;> omega

theorem stretch_sum {spaces : List BSpace} (some_ : spaces ≠ []) (slack : Nat) :
    (stretch spaces slack).sum = (spaces.map (·.opt)).sum + slack := by
  have left : slack % spaces.length < spaces.length := Nat.mod_lt _ (List.length_pos_iff.mpr some_)
  have whole : slack / spaces.length * spaces.length + slack % spaces.length = slack := Nat.div_add_mod' ..
  have sum := zipIdx_grown_sum spaces (slack / spaces.length) (slack % spaces.length) 0
  rw [stretch, sum, Nat.sub_zero, Nat.min_eq_left left.le, Nat.add_assoc, whole]

theorem anyAboveMax_iff {spaces : List BSpace} {widths : List Nat} : anyAboveMax spaces widths = true ↔
    ∃ (i : Nat) (h : i < spaces.length) (w : Nat), widths[i]? = some w ∧ spaces[i].max < w := by
  simp only [anyAboveMax, List.any_eq_true, Prod.exists, decide_eq_true_eq]
  constructor
  · rintro ⟨p, w, mem, above⟩
    obtain ⟨i, at_⟩ := List.mem_iff_getElem?.mp mem
    obtain ⟨space, width⟩ := List.getElem?_zip_eq_some.mp at_
    obtain ⟨h, rfl⟩ := List.getElem?_eq_some_iff.mp space
    exact ⟨i, h, w, width, above⟩
  · rintro ⟨i, h, w, width, above⟩
    exact ⟨spaces[i], w, List.mem_iff_getElem?.mpr ⟨i, List.getElem?_zip_eq_some.mpr
      ⟨List.getElem?_eq_getElem h, width⟩⟩, above⟩

/-- Spaces that together exceed their maxima exceed one of them (R64). -/
theorem anyAboveMax_of_sum {spaces : List BSpace} {widths : List Nat} (each : widths.length = spaces.length)
    (exceed : (spaces.map (·.max)).sum < widths.sum) : anyAboveMax spaces widths = true := by
  induction spaces generalizing widths with
  | nil => simp [List.length_eq_zero_iff.mp each] at exceed
  | cons p rest ih =>
    cases widths with
    | nil => simp at exceed
    | cons w ws =>
      have later := ih (widths := ws) (by simpa using each)
      simp only [List.map_cons, List.sum_cons] at exceed
      simp only [anyAboveMax, List.zip_cons_cons, List.any_cons, Bool.or_eq_true, decide_eq_true_eq] at later ⊢
      by_cases h : p.max < w
      · exact .inl h
      · exact .inr (later (by omega))

/-! ### Proportional shrink (R65) -/

/-- The number of spaces with a range. -/
def rangedCount (spaces : List BSpace) : Nat := (spaces.filter fun p => decide (p.min < p.opt)).length

/-- What a space gives up when `left` of the remainder have not been given up by the spaces before it: its first share,
and 1 FU of the remainder (R65 steps 2 and 3). -/
def givenUp (D R left : Nat) (p : BSpace) : Nat := firstShare D R p + if p.min < p.opt ∧ 0 < left then 1 else 0

theorem rangedCount_cons (p : BSpace) (rest : List BSpace) :
    rangedCount (p :: rest) = (if p.min < p.opt then 1 else 0) + rangedCount rest := by
  by_cases h : p.min < p.opt <;> simp [rangedCount, h, Nat.add_comm]

theorem firstShare_of_no_range {p : BSpace} (h : ¬ p.min < p.opt) (D R : Nat) : firstShare D R p = 0 := by
  simp [firstShare, Nat.sub_eq_zero_of_le (Nat.not_lt.mp h)]

theorem firstShare_le {D R : Nat} (le : D ≤ R) (p : BSpace) : firstShare D R p ≤ p.opt - p.min :=
  Nat.div_le_of_le_mul (Nat.mul_le_mul_right _ le)

theorem firstShare_lt {D R : Nat} (lt : D < R) {p : BSpace} (range : p.min < p.opt) :
    firstShare D R p < p.opt - p.min :=
  Nat.div_lt_of_lt_mul (Nat.mul_lt_mul_of_pos_right lt (Nat.sub_pos_of_lt range))

/-- A space never gives up more than its range (R65). -/
theorem givenUp_le {D R left : Nat} (le : D ≤ R) (strict : left = 0 ∨ D < R) (p : BSpace) :
    givenUp D R left p ≤ p.opt - p.min := by
  unfold givenUp
  split_ifs with h
  · obtain ⟨range, pos⟩ := h
    exact firstShare_lt (strict.resolve_left pos.ne') range
  · exact firstShare_le le p

/-- Each space in turn gives up its part, and the rest of the remainder goes to the later ones. -/
theorem shrinkFrom_cons (D R : Nat) (p : BSpace) (rest : List BSpace) (left : Nat) :
    shrinkFrom D R (p :: rest) left =
      (p.opt - givenUp D R left p) :: shrinkFrom D R rest (left - if p.min < p.opt then 1 else 0) := by
  by_cases range : p.min < p.opt
  · by_cases h : left = 0
    · simp [shrinkFrom, givenUp, range, h, Nat.sub_ne_zero_of_lt range]
    · simp [shrinkFrom, givenUp, range, h, Nat.sub_ne_zero_of_lt range, Nat.pos_of_ne_zero h, Nat.sub_sub]
  · simp [shrinkFrom, givenUp, range, firstShare_of_no_range range, Nat.sub_eq_zero_of_le (Nat.not_lt.mp range)]

theorem shrinkFrom_getElem? {D R : Nat} {spaces : List BSpace} {i : Nat} (h : i < spaces.length) (left : Nat) :
    (shrinkFrom D R spaces left)[i]? =
      some (spaces[i].opt - givenUp D R (left - rangedCount (spaces.take i)) spaces[i]) := by
  induction spaces generalizing i left with
  | nil => simp at h
  | cons p rest ih =>
    rw [shrinkFrom_cons]
    cases i with
    | zero => simp [rangedCount]
    | succ i =>
      rw [List.getElem?_cons_succ, ih (by simpa using h), List.take_succ_cons, rangedCount_cons, Nat.sub_sub]
      rfl

/-- The spaces give up their first shares and as much of the remainder as there are spaces with a range for it. -/
theorem shrinkFrom_sum {D R left : Nat} (le : D ≤ R) (strict : left = 0 ∨ D < R) (spaces : List BSpace) :
    (shrinkFrom D R spaces left).sum + ((spaces.map (firstShare D R)).sum + min left (rangedCount spaces)) =
      (spaces.map (·.opt)).sum := by
  induction spaces generalizing left with
  | nil => simp [shrinkFrom, rangedCount]
  | cons p rest ih =>
    have later := ih (left := left - if p.min < p.opt then 1 else 0) (strict.imp_left fun h => by simp [h])
    have most := givenUp_le le strict p
    rw [shrinkFrom_cons, rangedCount_cons]
    simp only [List.map_cons, List.sum_cons]
    unfold givenUp at most ⊢
    split_ifs at * <;> omega

/-! ### The remainder (R65 step 3) -/

/-- What is left of `D` after the first shares. -/
def remainder (spaces : List BSpace) (D : Nat) : Nat :=
  D - (spaces.map (firstShare D (totalRange spaces))).sum

/-- The first shares fall short of `D` by less than 1 FU for each space with a range. -/
theorem firstShares_sum {R : Nat} (pos : 0 < R) (D : Nat) (spaces : List BSpace) :
    R * (spaces.map (firstShare D R)).sum ≤ D * totalRange spaces ∧
    D * totalRange spaces + rangedCount spaces ≤ R * (spaces.map (firstShare D R)).sum + R * rangedCount spaces := by
  induction spaces with
  | nil => simp [totalRange, rangedCount]
  | cons p rest ih =>
    have division : R * firstShare D R p + D * (p.opt - p.min) % R = D * (p.opt - p.min) := Nat.div_add_mod ..
    have small : D * (p.opt - p.min) % R < R := Nat.mod_lt _ pos
    have total : totalRange (p :: rest) = (p.opt - p.min) + totalRange rest := rfl
    rw [rangedCount_cons, total]
    simp only [List.map_cons, List.sum_cons, Nat.mul_add]
    split_ifs with h
    · omega
    · simp only [Nat.sub_eq_zero_of_le (Nat.not_lt.mp h), firstShare_of_no_range h] at division ⊢
      omega

theorem firstShares_le (spaces : List BSpace) (D : Nat) :
    (spaces.map (firstShare D (totalRange spaces))).sum ≤ D := by
  rcases Nat.eq_zero_or_pos (totalRange spaces) with none_ | pos
  · have zero : ∀ p ∈ spaces, firstShare D 0 p = 0 := fun p _ => Nat.div_zero _
    simp [none_, List.map_congr_left zero]
  · obtain ⟨most, -⟩ := firstShares_sum pos D spaces
    exact Nat.le_of_mul_le_mul_left (by rwa [Nat.mul_comm D] at most) pos

theorem remainder_lt {spaces : List BSpace} {D : Nat} (le : D ≤ totalRange spaces) :
    remainder spaces D = 0 ∨ remainder spaces D < rangedCount spaces := by
  rcases Nat.eq_zero_or_pos (totalRange spaces) with none_ | pos
  · exact .inl (by rw [remainder, show D = 0 by omega, Nat.zero_sub])
  · obtain ⟨-, least⟩ := firstShares_sum pos D spaces
    have parts : remainder spaces D + (spaces.map (firstShare D (totalRange spaces))).sum = D :=
      Nat.sub_add_cancel (firstShares_le spaces D)
    generalize (spaces.map (firstShare D (totalRange spaces))).sum = S at least parts
    have short : totalRange spaces * remainder spaces D + rangedCount spaces ≤
        totalRange spaces * rangedCount spaces := by
      rw [Nat.mul_comm D, ← parts, Nat.mul_add] at least
      omega
    have most : remainder spaces D ≤ rangedCount spaces := Nat.le_of_mul_le_mul_left (by omega) pos
    refine most.lt_or_eq.symm.imp_left fun all => ?_
    rw [all] at short ⊢
    omega

/-- A shrink by all the ranges leaves no remainder. -/
theorem remainder_eq_zero_or_lt {spaces : List BSpace} {D : Nat} (le : D ≤ totalRange spaces) :
    remainder spaces D = 0 ∨ D < totalRange spaces := by
  refine le.lt_or_eq.symm.imp_left fun all => ?_
  rcases Nat.eq_zero_or_pos (totalRange spaces) with none_ | pos
  · rw [remainder, all, none_, Nat.zero_sub]
  · have share : ∀ p ∈ spaces, firstShare (totalRange spaces) (totalRange spaces) p = p.opt - p.min :=
      fun p _ => Nat.mul_div_cancel_left _ pos
    rw [remainder, all, List.map_congr_left share]
    exact Nat.sub_self _

theorem shrink_length (spaces : List BSpace) (D : Nat) : (shrink spaces D).length = spaces.length :=
  shrinkFrom_length ..

theorem shrink_getElem? {spaces : List BSpace} {i : Nat} (h : i < spaces.length) (D : Nat) :
    (shrink spaces D)[i]? = some (spaces[i].opt -
      givenUp D (totalRange spaces) (remainder spaces D - rangedCount (spaces.take i)) spaces[i]) :=
  shrinkFrom_getElem? h _

/-- The shrink removes exactly `D` (R65). -/
theorem shrink_sum {spaces : List BSpace} {D : Nat} (le : D ≤ totalRange spaces) :
    (shrink spaces D).sum + D = (spaces.map (·.opt)).sum := by
  have sum := shrinkFrom_sum le (remainder_eq_zero_or_lt le) spaces
  have parts : remainder spaces D + (spaces.map (firstShare D (totalRange spaces))).sum = D :=
    Nat.sub_add_cancel (firstShares_le spaces D)
  have all : min (remainder spaces D) (rangedCount spaces) = remainder spaces D := by
    have := remainder_lt le
    omega
  rw [all, Nat.add_comm _ (remainder spaces D), parts] at sum
  exact sum

/-- No space ends below its min (R65). -/
theorem shrink_ge_min {spaces : List BSpace} {D : Nat} (le : D ≤ totalRange spaces) {i : Nat} (h : i < spaces.length) :
    givenUp D (totalRange spaces) (remainder spaces D - rangedCount (spaces.take i)) spaces[i] ≤
      spaces[i].opt - spaces[i].min :=
  givenUp_le le ((remainder_eq_zero_or_lt le).imp_left fun none_ => by rw [none_, Nat.zero_sub]) _

/-! ### The cases of the table (R63) -/

theorem spacing_stretches {spaces : List BSpace} (some_ : spaces ≠ []) {M N : Nat} (fits : N ≤ M) :
    spacing .justify true spaces M N =
      { widths := stretch spaces (M - N), offset := 0, loose := anyAboveMax spaces (stretch spaces (M - N)) } := by
  simp [spacing, fits, some_]

theorem spacing_shrinks (quad : QuadMode) (byBreak : Bool) {spaces : List BSpace} {M N : Nat} (wide : M < N)
    (le : N - M ≤ totalRange spaces) :
    spacing quad byBreak spaces M N = { widths := shrink spaces (N - M), offset := 0, loose := false } := by
  simp [spacing, Nat.not_le.mpr wide, le]

/-- Settles O52: the share of each space, and the sum of the shares. -/
theorem stretchAndShrinkAreExact : Obligations.StretchAndShrinkAreExact := by
  refine ⟨fun spaces S some_ => ⟨stretch_length .., stretch_sum some_ S, fun i h => stretch_getElem? h S⟩,
    fun spaces M N some_ fits => ?_, fun spaces D ranges => ?_⟩
  · rw [spacing_stretches some_ fits]
    refine ⟨rfl, rfl, anyAboveMax_iff, fun crowded => anyAboveMax_of_sum (stretch_length ..) ?_⟩
    rwa [stretch_sum some_]
  · intro R first left ranged le
    refine ⟨shrink_length .., shrink_sum le, remainder_lt le, fun i h => ⟨_, shrink_getElem? h D, ?_, ?_⟩,
      fun quad byBreak M N wide short => ⟨?_, fun spaced => ?_⟩⟩
    · have most := shrink_ge_min le h
      have range := ranges _ (List.getElem_mem h)
      omega
    · have most := shrink_ge_min le h
      have given : givenUp D R (left - ranged (spaces.take i)) spaces[i] = first spaces[i] +
          if spaces[i].min < spaces[i].opt ∧ ranged (spaces.take i) < left then 1 else 0 := by
        simp only [givenUp, Nat.sub_pos_iff_lt]; rfl
      change givenUp D R (left - ranged (spaces.take i)) spaces[i] ≤ _ at most
      change spaces[i].opt - givenUp D R (left - ranged (spaces.take i)) spaces[i] + _ + _ = _
      omega
    · subst short; exact spacing_shrinks quad byBreak wide le
    · have sum := shrink_sum le
      omega

end Sys2Proof.Machine
end

section
/-! PROOF. Set lines and flash positions (O53): the table of R63, the width of a set line, the rounding (R66) and the
record's glyph list (R67). -/

namespace Sys2Proof.Machine

/-! ### The table (R63) -/

theorem spacing_left (byBreak : Bool) (spaces : List BSpace) {M N : Nat} (fits : N ≤ M) :
    spacing .left byBreak spaces M N = { widths := spaces.map (·.opt), offset := 0, loose := false } := by
  simp [spacing, fits]

theorem spacing_right (byBreak : Bool) (spaces : List BSpace) {M N : Nat} (fits : N ≤ M) :
    spacing .right byBreak spaces M N = { widths := spaces.map (·.opt), offset := M - N, loose := false } := by
  simp [spacing, fits]

theorem spacing_centre (byBreak : Bool) (spaces : List BSpace) {M N : Nat} (fits : N ≤ M) :
    spacing .centre byBreak spaces M N = { widths := spaces.map (·.opt), offset := (M - N) / 2, loose := false } := by
  simp [spacing, fits]

theorem spacing_paragraph (spaces : List BSpace) {M N : Nat} (fits : N ≤ M) :
    spacing .justify false spaces M N = { widths := spaces.map (·.opt), offset := 0, loose := false } := by
  simp [spacing, fits]

theorem spacing_nothing_to_stretch {M N : Nat} (fits : N ≤ M) :
    spacing .justify true [] M N = { widths := [], offset := 0, loose := true } := by
  simp [spacing, fits]

theorem spacing_overset (quad : QuadMode) (byBreak : Bool) {spaces : List BSpace} {M N : Nat}
    (wide : M + totalRange spaces < N) :
    spacing quad byBreak spaces M N = { widths := spaces.map (·.min), offset := 0, loose := false } := by
  have long : ¬ N ≤ M := by omega
  have much : ¬ N - M ≤ totalRange spaces := by omega
  simp [spacing, long, much]

/-- A line that need not shrink is justified, or its spaces keep their opt widths and its offset is at most the slack
(R63). -/
theorem spacing_of_fits (quad : QuadMode) (byBreak : Bool) (spaces : List BSpace) {M N : Nat} (fits : N ≤ M) :
    (quad = .justify ∧ byBreak = true) ∨ ∃ offset ≤ M - N,
      spacing quad byBreak spaces M N = { widths := spaces.map (·.opt), offset := offset, loose := false } := by
  cases quad with
  | left => exact .inr ⟨_, Nat.zero_le _, spacing_left byBreak spaces fits⟩
  | right => exact .inr ⟨_, Nat.le_refl _, spacing_right byBreak spaces fits⟩
  | centre => exact .inr ⟨_, Nat.div_le_self .., spacing_centre byBreak spaces fits⟩
  | justify =>
    cases byBreak with
    | false => exact .inr ⟨_, Nat.zero_le _, spacing_paragraph spaces fits⟩
    | true => exact .inl ⟨rfl, rfl⟩

/-! ### The width of a set line (R63) -/

/-- The spaces' final widths are at or above their minima. -/
def AtLeastMin (spaces : List BSpace) (widths : List Nat) : Prop :=
  ∀ (i : Nat) (h : i < spaces.length), ∃ w, widths[i]? = some w ∧ spaces[i].min ≤ w

/-- A line of natural width `N` set so ends at or before its measure, and where it is justified and has an interword
space, at its measure (R63). -/
structure EndsInMeasure (quad : QuadMode) (byBreak : Bool) (spaces : List BSpace) (M N : Nat) (sp : Spacing) :
    Prop where
  fits : sp.offset + (N - (spaces.map (·.opt)).sum) + sp.widths.sum ≤ M
  justified : quad = .justify → byBreak = true → spaces ≠ [] → N - (spaces.map (·.opt)).sum + sp.widths.sum = M
  bare : quad = .justify → byBreak = true → spaces = [] → sp.loose = true
  atLeastMin : AtLeastMin spaces sp.widths

theorem atLeastMin_opt {spaces : List BSpace} (ranges : ∀ p ∈ spaces, p.min ≤ p.opt) :
    AtLeastMin spaces (spaces.map (·.opt)) := fun i h =>
  ⟨_, by rw [List.getElem?_map, List.getElem?_eq_getElem h]; rfl, ranges _ (List.getElem_mem h)⟩

theorem atLeastMin_stretch {spaces : List BSpace} (ranges : ∀ p ∈ spaces, p.min ≤ p.opt) (slack : Nat) :
    AtLeastMin spaces (stretch spaces slack) := fun _ h =>
  ⟨_, stretch_getElem? h slack,
    (ranges _ (List.getElem_mem h)).trans ((Nat.le_add_right ..).trans (Nat.le_add_right ..))⟩

theorem atLeastMin_shrink {spaces : List BSpace} {D : Nat} (ranges : ∀ p ∈ spaces, p.min ≤ p.opt)
    (le : D ≤ totalRange spaces) : AtLeastMin spaces (shrink spaces D) := fun i h =>
  ⟨_, shrink_getElem? h D, by have := ranges _ (List.getElem_mem h); have := shrink_ge_min le h; omega⟩

/-- A line with slack: its spaces keep their opt widths, or take up the slack (R63, R64). -/
theorem endsInMeasure_of_fits (quad : QuadMode) (byBreak : Bool) {spaces : List BSpace} {M N : Nat}
    (ranges : ∀ p ∈ spaces, p.min ≤ p.opt) (spaced : (spaces.map (·.opt)).sum ≤ N) (fits : N ≤ M) :
    EndsInMeasure quad byBreak spaces M N (spacing quad byBreak spaces M N) := by
  by_cases stretched : quad = .justify ∧ byBreak = true
  · obtain ⟨rfl, rfl⟩ := stretched
    by_cases none_ : spaces = []
    · subst none_
      rw [spacing_nothing_to_stretch fits]
      exact ⟨by simpa using fits, fun _ _ some_ => absurd rfl some_, fun _ _ _ => rfl, atLeastMin_opt ranges⟩
    · have sum := stretch_sum none_ (M - N)
      rw [spacing_stretches none_ fits]
      exact ⟨by dsimp only; omega, fun _ _ _ => by dsimp only; omega, fun _ _ h => absurd h none_,
        atLeastMin_stretch ranges _⟩
  · obtain ⟨offset, le, eq⟩ := (spacing_of_fits quad byBreak spaces fits).resolve_left stretched
    rw [eq]
    exact ⟨by dsimp only; omega, fun q b _ => absurd ⟨q, b⟩ stretched, fun q b _ => absurd ⟨q, b⟩ stretched,
      atLeastMin_opt ranges⟩

/-- A line that shrinks within its ranges has the width of its measure (R63, R65). -/
theorem endsInMeasure_of_shrinks (quad : QuadMode) (byBreak : Bool) {spaces : List BSpace} {M N : Nat}
    (ranges : ∀ p ∈ spaces, p.min ≤ p.opt) (spaced : (spaces.map (·.opt)).sum ≤ N) (wide : M < N)
    (le : N - M ≤ totalRange spaces) :
    EndsInMeasure quad byBreak spaces M N (spacing quad byBreak spaces M N) := by
  have sum := shrink_sum le
  have some_ : spaces ≠ [] := fun none_ => by
    subst none_
    exact absurd le (Nat.not_le.mpr (Nat.sub_pos_of_lt wide))
  rw [spacing_shrinks quad byBreak wide le]
  exact ⟨by dsimp only; omega, fun _ _ _ => by dsimp only; omega, fun _ _ none_ => absurd none_ some_,
    atLeastMin_shrink ranges le⟩

/-! ### Flash positions (R66) -/

theorem flashPosition_truncated (p : Nat) : flashPosition true p = p / 16 := rfl

/-- The nearest integer to `p / 16`, of two as near the even one. -/
theorem flashPosition_nearest (p : Nat) : 16 * flashPosition false p ≤ p + 8 ∧ p ≤ 16 * flashPosition false p + 8 ∧
    (p % 16 = 8 → flashPosition false p % 2 = 0) := by
  simp only [flashPosition, Bool.false_eq_true, if_false]
  split_ifs <;> omega

theorem flashPosition_truncated_add (p k : Nat) : flashPosition true (p + 16 * k) = flashPosition true p + k := by
  simp only [flashPosition_truncated]
  omega

/-- Rounding to even repeats every 32 FU: 16 FU on, the even neighbour is the other one. -/
theorem flashPosition_nearest_add (p k : Nat) :
    flashPosition false (p + 32 * k) = flashPosition false p + 2 * k := by
  have quotient : (p + 32 * k) / 16 = p / 16 + 2 * k := by omega
  have rest : (p + 32 * k) % 16 = p % 16 := by omega
  have parity : (p / 16 + 2 * k) % 2 = p / 16 % 2 := by omega
  simp only [flashPosition, Bool.false_eq_true, if_false, quotient, rest, parity]
  split_ifs <;> omega

theorem flashPosition_le {p : Nat} (h : p ≤ 230400) (t : Bool) : flashPosition t p ≤ 14400 := by
  cases t with
  | true => rw [flashPosition_truncated]; omega
  | false => have := flashPosition_nearest p; omega

/-! ### The line record (R67) -/

/-- The interword spaces, said by what is taken of a glyph and of a space. -/
theorem filterMap_eq_interwords {f : LineItem → Option BSpace} (glyph : ∀ b, f (.glyph b) = none)
    (space : ∀ p, f (.space p) = if p.kind = .interword then some p else none) (items : List LineItem) :
    items.filterMap f = interwords items := by
  refine List.filterMap_congr fun i _ => ?_
  cases i with
  | glyph b => exact glyph b
  | space p => simp [space, BSpace.isInterword]

/-- The fixed widths, said by what a glyph and a space take. -/
theorem sum_map_eq_fixedWidth {f : LineItem → Nat} (glyph : ∀ b, f (.glyph b) = b.advance)
    (space : ∀ p, f (.space p) = if p.kind = .interword then 0 else p.opt) (items : List LineItem) :
    (items.map f).sum = fixedWidth items := by
  refine congrArg List.sum (List.map_congr_left fun i _ => ?_)
  cases i with
  | glyph b => exact glyph b
  | space p => simp [space, BSpace.isInterword]

theorem lineSpacing_length (x : Galley) (e : LineEnd) :
    (lineSpacing x e).widths.length = (interwords e.items).length := spacing_length ..

theorem lineGlyphs_length (truncate : Bool) (x : Galley) (e : LineEnd) :
    (lineGlyphs truncate x e).length = (glyphsOf e.items).length := placeItems_length ..

/-- A glyph of the line stands at the flash position of the offset and what stands before it. -/
theorem lineGlyphs_glyph (truncate : Bool) (x : Galley) {e : LineEnd} {before after : List LineItem} {b : BGlyph}
    (items : e.items = before ++ .glyph b :: after) :
    (lineGlyphs truncate x e)[(glyphsOf before).length]? = some
      { code := b.code, slot := b.slot, size := b.size, absent := b.absent
        x := flashPosition truncate ((lineSpacing x e).offset + fixedWidth before +
          ((lineSpacing x e).widths.take (interwords before).length).sum) } := by
  have enough : (interwords before).length ≤ (lineSpacing x e).widths.length := by
    rw [lineSpacing_length, items, interwords, interwords, List.filterMap_append, List.length_append]
    exact Nat.le_add_right ..
  have glyph := placeItems_glyph truncate before b after (lineSpacing x e).widths (lineSpacing x e).offset enough
  rwa [lineGlyphs, items]

/-- Settles O53: the record's glyphs, the table of R63 with the width of the line, and the rounding. -/
theorem setLinesFitAndPositionsRoundOnce : Obligations.SetLinesFitAndPositionsRoundOnce := by
  refine ⟨?record, fun byBreak spaces M N fits => ⟨spacing_left byBreak spaces fits, spacing_right byBreak spaces fits,
    spacing_centre byBreak spaces fits, spacing_paragraph spaces fits⟩,
    fun quad byBreak spaces M N wide => spacing_overset quad byBreak wide, ?width, flashPosition_truncated, ?nearest,
    flashPosition_truncated_add, flashPosition_nearest_add, fun p t h => flashPosition_le h t⟩
  case record =>
    intro truncate g x e glyphs spaces natural fixed sp r
    have interword : ∀ l, spaces l = interwords l := filterMap_eq_interwords (fun _ => rfl) fun _ => rfl
    have setting : sp = lineSpacing x e := by simp only [sp, interword]; rfl
    refine ⟨lineGlyphs_length .., fun before b after items => ?_, by rw [setting]; rfl⟩
    have other : fixed before = fixedWidth before := sum_map_eq_fixedWidth (fun _ => rfl) (fun _ => rfl) before
    rw [setting, other, interword]
    exact lineGlyphs_glyph truncate x items
  case width =>
    intro quad byBreak spaces M N ranges spaced within sp
    have ends : EndsInMeasure quad byBreak spaces M N sp := by
      rcases le_or_gt N M with fits | wide
      · exact endsInMeasure_of_fits quad byBreak ranges spaced fits
      · exact endsInMeasure_of_shrinks quad byBreak ranges spaced wide (Nat.sub_le_iff_le_add'.mpr within)
    exact ⟨spacing_length .., ends.fits, ends.justified, ends.bare, ends.atLeastMin⟩
  case nearest =>
    intro p
    obtain ⟨low, high, tie⟩ := flashPosition_nearest p
    exact ⟨by omega, by omega, tie⟩

end Sys2Proof.Machine
end

section
/-! PROOF. The arbitration (O54): the priority and the round (R45), the eligible galleys (R44, R103), and the galley
served last. -/

namespace Sys2Proof.Machine

/-! ### The round (R45) -/

/-- The place of a galley in the round after the galley served last, counted from 0. -/
def roundPlace (last g : GalleyId) : Nat := (g.val + 7 - last.val) % 8

theorem mem_roundFrom (last g : GalleyId) : g ∈ roundFrom last := by
  revert last g; decide

/-- The round lists the galleys in the order of their places. -/
theorem roundFrom_ascends (last : GalleyId) : (roundFrom last).Pairwise (roundPlace last · < roundPlace last ·) := by
  revert last; decide

/-- The eligible galleys in the order of the round. -/
def State.candidatesInRound (s : State) : List GalleyId :=
  (roundFrom s.engine.lastServed).filter fun g => s.eligible g

theorem mem_candidatesInRound {s : State} {g : GalleyId} : g ∈ s.candidatesInRound ↔ s.eligible g = true := by
  simp [State.candidatesInRound, mem_roundFrom]

/-! ### The highest priority (R45) -/

/-- The highest priority of the eligible galleys. -/
def State.topPriority (s : State) : Nat := s.candidatesInRound.foldl (fun m g => max m (s.galley g).priority) 0

theorem arbitration_eq (s : State) :
    s.arbitration = s.candidatesInRound.find? fun g => (s.galley g).priority == s.topPriority := rfl

/-- The running maximum ends at or above its start and every member, and is one of them. -/
theorem foldl_max_spec {α : Type} (f : α → Nat) (l : List α) (m : Nat) :
    let top := l.foldl (fun m a => max m (f a)) m
    (m ≤ top ∧ ∀ a ∈ l, f a ≤ top) ∧ (top = m ∨ ∃ a ∈ l, f a = top) := by
  induction l generalizing m with
  | nil => simp
  | cons a rest ih =>
    obtain ⟨⟨start, later⟩, reached⟩ := ih (max m (f a))
    refine ⟨⟨(Nat.le_max_left ..).trans start, List.forall_mem_cons.mpr ⟨(Nat.le_max_right ..).trans start, later⟩⟩, ?_⟩
    rcases reached with eq | ⟨b, mem, eq⟩
    · rw [List.foldl_cons, eq]
      exact (max_choice m (f a)).imp_right fun h => ⟨a, List.mem_cons_self, h.symm⟩
    · exact .inr ⟨b, List.mem_cons_of_mem _ mem, eq⟩

theorem priority_le_top {s : State} {g : GalleyId} (h : s.eligible g = true) :
    (s.galley g).priority ≤ s.topPriority := by
  obtain ⟨⟨-, most⟩, -⟩ := foldl_max_spec (fun g => (s.galley g).priority) s.candidatesInRound 0
  exact most g (mem_candidatesInRound.mpr h)

/-- Where a galley is eligible, one of them has the highest priority. -/
theorem exists_top {s : State} {g : GalleyId} (h : s.eligible g = true) :
    ∃ k ∈ s.candidatesInRound, (s.galley k).priority = s.topPriority := by
  obtain ⟨-, zero | reached⟩ := foldl_max_spec (fun g => (s.galley g).priority) s.candidatesInRound 0
  · have most := priority_le_top h
    exact ⟨g, mem_candidatesInRound.mpr h, Nat.le_antisymm most (by rw [State.topPriority, zero]; exact Nat.zero_le _)⟩
  · exact reached

/-! ### The choice (R45) -/

/-- The first of an ascending list that meets a test comes no later than any other that meets it. -/
theorem find?_first {α : Type} {f : α → Nat} {p : α → Bool} {l : List α} (ascends : l.Pairwise (f · < f ·)) {a b : α}
    (found : l.find? p = some a) (mem : b ∈ l) (meets : p b = true) : f a ≤ f b := by
  obtain ⟨-, before, after, rfl, none_⟩ := List.find?_eq_some_iff_append.mp found
  obtain ⟨-, tail, -⟩ := List.pairwise_append.mp ascends
  obtain ⟨first, -⟩ := List.pairwise_cons.mp tail
  rcases List.mem_append.mp mem with h | h
  · exact absurd meets (by simpa using none_ b h)
  · rcases List.mem_cons.mp h with rfl | h
    · exact Nat.le_refl _
    · exact (first b h).le

theorem arbitration_first {s : State} {g : GalleyId} (chosen : s.arbitration = some g) :
    s.eligible g = true ∧ ∀ h, s.eligible h = true →
      (s.galley h).priority < (s.galley g).priority ∨
      (s.galley h).priority = (s.galley g).priority ∧
        roundPlace s.engine.lastServed g ≤ roundPlace s.engine.lastServed h := by
  rw [arbitration_eq] at chosen
  have top : (s.galley g).priority = s.topPriority := by simpa using List.find?_some chosen
  refine ⟨mem_candidatesInRound.mp (List.mem_of_find?_eq_some chosen), fun h eligible => ?_⟩
  rw [top]
  refine (priority_le_top eligible).lt_or_eq.imp_right fun equal => ⟨equal, ?_⟩
  exact find?_first ((roundFrom_ascends _).filter _) chosen (mem_candidatesInRound.mpr eligible) (by simpa using equal)

theorem arbitration_eq_none {s : State} : s.arbitration = none ↔ ∀ g, s.eligible g = false := by
  rw [arbitration_eq, List.find?_eq_none]
  constructor
  · intro none_ g
    refine Bool.eq_false_iff.mpr fun eligible => ?_
    obtain ⟨k, mem, top⟩ := exists_top eligible
    exact none_ k mem (by simpa using top)
  · intro none_ g mem
    exact absurd (mem_candidatesInRound.mp mem) (by simp [none_])

theorem eligible_iff {s : State} {g : GalleyId} : s.eligible g = true ↔
    (s.galley g).state = .opened ∧ (headItem (s.galley g).buffer).isSome ∧ 1 ≤ (s.galley g).priority ∧
    (5 ≤ s.freeCount ∨ 1 ≤ s.freeCount ∧ (s.store.filmHolder = some g ∨ s.store.paperHolder = some g)) := by
  have holder : (s.holdsFilm g || s.holdsPaper g) = true ↔
      s.store.filmHolder = some g ∨ s.store.paperHolder = some g := by simp [State.holdsFilm, State.holdsPaper]
  have room : s.mayCommit g = true ↔
      5 ≤ s.freeCount ∨ 1 ≤ s.freeCount ∧ (s.store.filmHolder = some g ∨ s.store.paperHolder = some g) := by
    unfold State.mayCommit
    split_ifs with holds
    · simp only [holder.mp holds, and_true, decide_eq_true_eq]
      omega
    · simp only [mt holder.mpr holds, and_false, or_false, decide_eq_true_eq]
  simp only [State.eligible, Bool.and_eq_true, room, beq_iff_eq, decide_eq_true_eq, and_assoc]

/-! ### The galley served last (R45) -/

theorem closeGalley_engine (g : GalleyId) (s : State) : (closeGalley g s).engine = s.engine :=
  (recordsOnly_closeGalley g s).engine

theorem discardLine_engine (i : LineSlot) (s : State) : (discardLine i s).1.engine = s.engine := by
  obtain ⟨discarded, -⟩ := linesDiscarded_discardLine i s
  rw [discarded.only]

theorem discardLines_engine (is : List LineSlot) (s : State) : (discardLines is s).1.engine = s.engine := by
  induction is generalizing s with
  | nil => rfl
  | cons i rest ih => exact (ih _).trans (discardLine_engine i s)

theorem stopServing_lastServed (g : GalleyId) (s : State) :
    (stopServing g s).engine.lastServed = s.engine.lastServed := by
  unfold stopServing
  (repeat' split) <;> rfl

theorem cancelGalley_lastServed (g : GalleyId) (s : State) :
    (cancelGalley g s).1.engine.lastServed = s.engine.lastServed := by
  obtain ⟨y, c, start⟩ := cancelStart_only g s
  have lines := discardLines_engine ((cancelStart g s).linesOf g) (cancelStart g s)
  calc (cancelGalley g s).1.engine.lastServed
      = (discardLines ((cancelStart g s).linesOf g) (cancelStart g s)).1.engine.lastServed := rfl
    _ = (stopServing g s).engine.lastServed := by rw [lines, start]
    _ = s.engine.lastServed := stopServing_lastServed g s

theorem compositionReset_engine (s : State) : (compositionReset s).engine = Engine.powerOn := by
  obtain ⟨x, f, only⟩ := compositionReset_only s
  rw [only]

/-- Settles O54: the choice by priority and round, the eligible galleys, and the galley served last. -/
theorem arbitrationChoosesByPriorityThenRound : Obligations.ArbitrationChoosesByPriorityThenRound :=
  ⟨fun _ _ => arbitration_first, fun _ => arbitration_eq_none, fun _ => rfl,
    fun s g => ⟨by rw [closeGalley_engine], cancelGalley_lastServed g s⟩, fun _ _ => eligible_iff, rfl,
    fun s => by rw [compositionReset_engine]; rfl⟩

end Sys2Proof.Machine
end

section
/-! SUPPORT. What the dictionary's invariant reads (R70 to R72): every operation but those of the dictionary itself and the
writes of the configuration space keeps it, by one lemma each. -/

namespace Sys2Proof.Machine

/-- The channel request that an operation works on, with the write protect and the code map as they stood at its taking. -/
def DictJob.taken : DictJob → Option (ChannelId × Request × Bool × Vector Byte 96)
  | .request ch r prot m => some (ch, r, prot, m)
  | .lookup _ _ | .bucket => none

/-- The entries, the code map, and the channel request that the dictionary works on. -/
def State.dictCore (s : State) :
    Vector (List Entry) 512 × Vector Byte 96 × Option (ChannelId × Request × Bool × Vector Byte 96) :=
  (s.dict.chains, s.codeMap, s.dict.running.bind DictJob.taken)

theorem dictCore_congr {s t : State} (dict : t.dict = s.dict) (config : t.config = s.config) :
    t.dictCore = s.dictCore := by
  simp only [State.dictCore, State.codeMap, State.entry, dict, config]

@[simp] theorem dictCore_modFont (s : State) (i : FontSlot) (f : FontRecord → FontRecord) :
    (s.modFont i f).dictCore = s.dictCore := rfl
@[simp] theorem dictCore_modGalley (s : State) (g : GalleyId) (f : Galley → Galley) :
    (s.modGalley g f).dictCore = s.dictCore := rfl
@[simp] theorem dictCore_modBuilder (s : State) (g : GalleyId) (f : Builder → Builder) :
    (s.modBuilder g f).dictCore = s.dictCore := rfl
@[simp] theorem dictCore_modChannel (s : State) (c : ChannelId) (f : Channel → Channel) :
    (s.modChannel c f).dictCore = s.dictCore := rfl
@[simp] theorem dictCore_modEngine (s : State) (f : Engine → Engine) : (s.modEngine f).dictCore = s.dictCore := rfl
@[simp] theorem dictCore_modStore (s : State) (f : Store → Store) : (s.modStore f).dictCore = s.dictCore := rfl
@[simp] theorem dictCore_modPhoto (s : State) (f : Photo → Photo) : (s.modPhoto f).dictCore = s.dictCore := rfl
@[simp] theorem dictCore_modExposure (s : State) (f : Exposure → Exposure) :
    (s.modExposure f).dictCore = s.dictCore := rfl
@[simp] theorem dictCore_modFilm (s : State) (f : Film → Film) : (s.modFilm f).dictCore = s.dictCore := rfl
@[simp] theorem dictCore_modProof (s : State) (f : ProofGen → ProofGen) : (s.modProof f).dictCore = s.dictCore := rfl
@[simp] theorem dictCore_modSensors (s : State) (f : Sensors → Sensors) : (s.modSensors f).dictCore = s.dictCore := rfl
@[simp] theorem dictCore_modDrives (s : State) (f : Drives → Drives) : (s.modDrives f).dictCore = s.dictCore := rfl
@[simp] theorem dictCore_bumpFree (s : State) : s.bumpFree.dictCore = s.dictCore := rfl
@[simp] theorem dictCore_addSticky (s : State) (g : GalleyId) (f : Half) :
    (s.addSticky g f).dictCore = s.dictCore := rfl
@[simp] theorem dictCore_pulse (s : State) (p : Pulse) : (s.pulse p).dictCore = s.dictCore := rfl
@[simp] theorem dictCore_raise (s : State) (a : Attn) : (s.raise a).dictCore = s.dictCore := rfl
@[simp] theorem dictCore_verifyAt (q : Station) (code : BitVec 4) (s : State) :
    (verifyAt q code s).dictCore = s.dictCore := by
  apply dictCore_congr <;> simp only [verifyAt]
@[simp] theorem dictCore_unverifyAll (s : State) : (unverifyAll s).dictCore = s.dictCore := by
  apply dictCore_congr <;> simp only [unverifyAll]

/-- An update of the dictionary's other fields. -/
@[simp] theorem dictCore_modDict {s : State} {f : Dictionary → Dictionary} (chains : (f s.dict).chains = s.dict.chains)
    (taken : (f s.dict).running.bind DictJob.taken = s.dict.running.bind DictJob.taken) :
    (s.modDict f).dictCore = s.dictCore := by
  rw [State.dictCore, State.modDict_dict, chains, taken]; rfl

/-- A run of operations that each keep the core. -/
theorem dictCore_foldl {α : Type} {f : State → α → State} (keep : ∀ s a, (f s a).dictCore = s.dictCore)
    (l : List α) (s : State) : (l.foldl f s).dictCore = s.dictCore := by
  induction l generalizing s with
  | nil => rfl
  | cons a l ih => rw [List.foldl_cons, ih, keep]

/-- Reports touch records and channels only. -/
theorem RecordsOnly.dictCore {s t : State} (h : RecordsOnly s t) : t.dictCore = s.dictCore :=
  dictCore_congr h.dict h.config

/-! #### Ops -/

@[simp] theorem dictCore_setConditioned (bit : Nat) (level : Bool) (s : State) :
    (State.setConditioned bit level s).dictCore = s.dictCore := by
  simp [State.setConditioned]

@[simp] theorem dictCore_complete (ch : ChannelId) (c : Completion) (detail : Half) (reply : List Byte) (s : State) :
    (complete ch c detail reply s).dictCore = s.dictCore := by
  unfold complete; (repeat' split) <;> simp

@[simp] theorem dictCore_completeUnstated (ch : ChannelId) (c : Completion) (s : State) :
    (completeUnstated ch c s).dictCore = s.dictCore := by
  simp [completeUnstated]

@[simp] theorem dictCore_refuse (ch : ChannelId) (c : Completion) (s : State) :
    (refuse ch c s).dictCore = s.dictCore := by
  simp [refuse]

@[simp] theorem dictCore_finish (ch : ChannelId) (c : Completion) (detail : Nat) (s : State) :
    (finish ch c detail s).dictCore = s.dictCore := by
  simp [finish]

@[simp] theorem dictCore_reply (ch : ChannelId) (detail : Nat) (bytes : List Byte) (s : State) :
    (reply ch detail bytes s).dictCore = s.dictCore := by
  simp [reply]

/-! #### Catalogue -/

@[simp] theorem dictCore_applyAmend (i : FontSlot) (p : AmendParts) (clamped : Bool) (ch : ChannelId) (s : State) :
    (applyAmend i p clamped ch s).dictCore = s.dictCore := by
  simp [applyAmend]

@[simp] theorem dictCore_raisePartial (i : FontSlot) (s : State) : (raisePartial i s).dictCore = s.dictCore := by
  simp [raisePartial]

@[simp] theorem dictCore_raiseCurrent (i : FontSlot) (s : State) : (raiseCurrent i s).dictCore = s.dictCore := by
  simp [raiseCurrent]

@[simp] theorem dictCore_commitReport (lines leaving : List FontSlot) (s : State) :
    (commitReport lines leaving s).dictCore = s.dictCore := (recordsOnly_commitReport lines leaving s).dictCore

@[simp] theorem dictCore_lineGone (lines : List FontSlot) (s : State) : (lineGone lines s).dictCore = s.dictCore :=
  (recordsOnly_lineGone lines s).dictCore

@[simp] theorem dictCore_partialGone (slots : List FontSlot) (s : State) :
    (partialGone slots s).dictCore = s.dictCore := (recordsOnly_partialGone slots s).dictCore

@[simp] theorem dictCore_currentGone (i : FontSlot) (s : State) : (currentGone i s).dictCore = s.dictCore :=
  (recordsOnly_currentGone i s).dictCore

@[simp] theorem dictCore_takeLoadFont (ch : ChannelId) (b : Block) (s : State) :
    (takeLoadFont ch b s).dictCore = s.dictCore := by
  unfold takeLoadFont; dsimp only; (repeat' split) <;> simp

@[simp] theorem dictCore_takeAmendFont (ch : ChannelId) (b : Block) (s : State) :
    (takeAmendFont ch b s).dictCore = s.dictCore := by
  unfold takeAmendFont; dsimp only; (repeat' split) <;> simp

@[simp] theorem dictCore_takePlaceFont (ch : ChannelId) (b : Block) (s : State) :
    (takePlaceFont ch b s).1.dictCore = s.dictCore := by
  unfold takePlaceFont; (repeat' split) <;> simp

@[simp] theorem dictCore_takeRetireFont (ch : ChannelId) (b : Block) (s : State) :
    (takeRetireFont ch b s).dictCore = s.dictCore := by
  unfold takeRetireFont; dsimp only; (repeat' split) <;> simp

@[simp] theorem dictCore_takeQueryFont (ch : ChannelId) (b : Block) (s : State) :
    (takeQueryFont ch b s).dictCore = s.dictCore := by
  unfold takeQueryFont; (repeat' split) <;> simp

@[simp] theorem dictCore_catalogueReset (s : State) : (catalogueReset s).dictCore = s.dictCore :=
  (recordsOnly_catalogueReset s).dictCore

/-! #### Store -/

@[simp] theorem dictCore_putLine (i : LineSlot) (r : LineRecord) (s : State) :
    (putLine i r s).dictCore = s.dictCore := by
  simp [putLine]

@[simp] theorem dictCore_modLine (i : LineSlot) (f : LineRecord → LineRecord) (s : State) :
    (modLine i f s).dictCore = s.dictCore := by
  simp [modLine]

@[simp] theorem dictCore_dropLine (i : LineSlot) (g : GalleyId) (s : State) :
    (dropLine i g s).dictCore = s.dictCore := by
  simp [dropLine]

@[simp] theorem dictCore_joinQueues (g : GalleyId) (m : OutputMode) (s : State) :
    (joinQueues g m s).dictCore = s.dictCore := by
  simp [joinQueues]

@[simp] theorem dictCore_setFilmFigures (s : State) : (setFilmFigures s).dictCore = s.dictCore := by
  simp [setFilmFigures]

@[simp] theorem dictCore_assignFilm (g : GalleyId) (s : State) : (assignFilm g s).dictCore = s.dictCore := by
  unfold assignFilm; dsimp only; (repeat' split) <;> simp

@[simp] theorem dictCore_assignPaper (g : GalleyId) (s : State) : (assignPaper g s).dictCore = s.dictCore := by
  simp [assignPaper]

theorem dictCore_tryAssign {s t : State} (h : tryAssign s = some t) : t.dictCore = s.dictCore := by
  unfold tryAssign at h
  split at h
  · cases h; split <;> simp
  · obtain ⟨g, -, rfl⟩ := Option.map_eq_some_iff.1 h; simp

@[simp] theorem dictCore_freeIfDone (i : LineSlot) (s : State) : (freeIfDone i s).dictCore = s.dictCore := by
  unfold freeIfDone; (repeat' split) <;> simp

@[simp] theorem dictCore_filmDone (i : LineSlot) (s : State) : (filmDone i s).dictCore = s.dictCore := by
  simp [filmDone]

@[simp] theorem dictCore_proofDone (i : LineSlot) (s : State) : (proofDone i s).dictCore = s.dictCore := by
  simp [proofDone]

@[simp] theorem dictCore_discardLine (i : LineSlot) (s : State) : (discardLine i s).1.dictCore = s.dictCore := by
  unfold discardLine; dsimp only; (repeat' split) <;> simp

@[simp] theorem dictCore_discardLines (is : List LineSlot) (s : State) :
    (discardLines is s).1.dictCore = s.dictCore := by
  induction is generalizing s with
  | nil => rfl
  | cons i is ih => simp [discardLines, ih]

@[simp] theorem dictCore_leaveQueues (g : GalleyId) (s : State) : (leaveQueues g s).dictCore = s.dictCore := by
  simp [leaveQueues]

@[simp] theorem dictCore_releaseResources (g : GalleyId) (s : State) :
    (releaseResources g s).dictCore = s.dictCore := by
  simp [releaseResources]

@[simp] theorem dictCore_giveUpFont (g : GalleyId) (s : State) : (giveUpFont g s).dictCore = s.dictCore := by
  unfold giveUpFont; (repeat' split) <;> simp

@[simp] theorem dictCore_closeGalley (g : GalleyId) (s : State) : (closeGalley g s).dictCore = s.dictCore := by
  simp [closeGalley]

theorem dictCore_tryClose {s t : State} (h : tryClose s = some t) : t.dictCore = s.dictCore := by
  unfold tryClose at h
  obtain ⟨g, -, rfl⟩ := Option.map_eq_some_iff.1 h; simp

@[simp] theorem dictCore_storeReset (s : State) : (storeReset s).dictCore = s.dictCore := by simp [storeReset]

/-! #### Photo -/

@[simp] theorem dictCore_advanceCount (n : Nat) (s : State) : (advanceCount n s).dictCore = s.dictCore := by
  simp [advanceCount]

@[simp] theorem dictCore_startLockWatch (s : State) : (startLockWatch s).dictCore = s.dictCore := by
  simp [startLockWatch]

@[simp] theorem dictCore_loseLock (s : State) : (loseLock s).dictCore = s.dictCore := by
  unfold loseLock; (repeat' split) <;> simp

@[simp] theorem dictCore_lockTest (clean : Bool) (s : State) : (lockTest clean s).dictCore = s.dictCore := by
  unfold lockTest; (repeat' split) <;> simp

@[simp] theorem dictCore_indexPulse (s : State) : (indexPulse s).dictCore = s.dictCore := by simp [indexPulse]
@[simp] theorem dictCore_turretMoveStart (s : State) : (turretMoveStart s).dictCore = s.dictCore := by
  simp [turretMoveStart]

@[simp] theorem dictCore_slotArrival (g : Nat) (s : State) : (slotArrival g s).dictCore = s.dictCore := by
  unfold slotArrival; (repeat' split) <;> simp

@[simp] theorem dictCore_slotPulse (s : State) : (slotPulse s).dictCore = s.dictCore := by
  unfold slotPulse; dsimp only; (repeat' split) <;> simp

@[simp] theorem dictCore_withdrawFlash (s : State) : (withdrawFlash s).dictCore = s.dictCore := by
  simp [withdrawFlash]

@[simp] theorem dictCore_armFlash (q : FlashRequest) (s : State) : (armFlash q s).dictCore = s.dictCore := by
  simp [armFlash]

@[simp] theorem dictCore_driveTurret (q : Station) (r : Requester) (s : State) :
    (driveTurret q r s).dictCore = s.dictCore := by
  simp [driveTurret]

@[simp] theorem dictCore_latchHere (q : Station) (s : State) : (latchHere q s).dictCore = s.dictCore := by
  simp [latchHere]

@[simp] theorem dictCore_turretArrives (q : Station) (code : BitVec 4) (s : State) :
    (turretArrives q code s).dictCore = s.dictCore := by
  simp [turretArrives]

@[simp] theorem dictCore_driveLens (p : LensPos) (s : State) : (driveLens p s).dictCore = s.dictCore := by
  simp [driveLens]

@[simp] theorem dictCore_commandCarriage (x : Nat) (s : State) : (commandCarriage x s).dictCore = s.dictCore := by
  unfold commandCarriage; dsimp only; (repeat' split) <;> simp

@[simp] theorem dictCore_endHoming (target : Option Nat) (s : State) :
    (endHoming target s).dictCore = s.dictCore := by
  unfold endHoming; (repeat' split) <;> simp

@[simp] theorem dictCore_pulseCarriage (forward : Bool) (s : State) :
    (pulseCarriage forward s).dictCore = s.dictCore := by
  simp [pulseCarriage]

@[simp] theorem dictCore_stepCarriage (s : State) : (stepCarriage s).dictCore = s.dictCore := by
  unfold stepCarriage; dsimp only; (repeat' split) <;> simp

@[simp] theorem dictCore_setShutter (t : Track) (s : State) : (setShutter t s).dictCore = s.dictCore := by
  simp [setShutter]

@[simp] theorem dictCore_setVerify (v : Option VerifyRun) (s : State) : (setVerify v s).dictCore = s.dictCore := by
  simp [setVerify]

@[simp] theorem dictCore_visit (ch : ChannelId) (qs : List Station) (m n : BitVec 4) (s : State) :
    (visit ch qs m n s).dictCore = s.dictCore := by
  induction qs generalizing m n s with
  | nil => simp [visit]
  | cons q qs ih => unfold visit; split <;> simp [ih]

@[simp] theorem dictCore_visitEnds (reached : Bool) (s : State) : (visitEnds reached s).dictCore = s.dictCore := by
  unfold visitEnds; (repeat' split) <;> simp

@[simp] theorem dictCore_takeQueryPhoto (ch : ChannelId) (s : State) :
    (takeQueryPhoto ch s).dictCore = s.dictCore := by
  simp [takeQueryPhoto]

@[simp] theorem dictCore_photoReset (s : State) : (photoReset s).dictCore = s.dictCore := by simp [photoReset]

/-! #### Exposure -/

@[simp] theorem dictCore_setWork (w : ExposureWork) (s : State) : (setWork w s).dictCore = s.dictCore := by
  simp [setWork]

@[simp] theorem dictCore_setStep (l : LineWork) (st : LineStep) (s : State) :
    (setStep l st s).dictCore = s.dictCore := by
  simp [setStep]

@[simp] theorem dictCore_stopFilm (s : State) : (stopFilm s).dictCore = s.dictCore := by simp [stopFilm]
@[simp] theorem dictCore_takeHold (r : HoldReason) (s : State) : (takeHold r s).dictCore = s.dictCore := by
  unfold takeHold; (repeat' split) <;> simp

@[simp] theorem dictCore_judgeLow (s : State) : (judgeLow s).dictCore = s.dictCore := by
  unfold judgeLow; (repeat' split) <;> simp

@[simp] theorem dictCore_startFilm (forward : Bool) (n : Nat) (s : State) :
    (startFilm forward n s).dictCore = s.dictCore := by
  simp [startFilm]

@[simp] theorem dictCore_moveFilm (m : FilmMove) (s : State) : (moveFilm m s).dictCore = s.dictCore := by
  unfold moveFilm; dsimp only; (repeat' split) <;> simp

@[simp] theorem dictCore_lineDone (l : LineWork) (s : State) : (lineDone l s).dictCore = s.dictCore := by
  simp [lineDone]

@[simp] theorem dictCore_shutterStep (l : LineWork) (g : SetGlyph) (s : State) :
    (shutterStep l g s).dictCore = s.dictCore := by
  unfold shutterStep; (repeat' split) <;> simp

@[simp] theorem dictCore_carriageStep (l : LineWork) (g : SetGlyph) (s : State) :
    (carriageStep l g s).dictCore = s.dictCore := by
  unfold carriageStep; dsimp only; (repeat' split) <;> simp

@[simp] theorem dictCore_lensStep (l : LineWork) (g : SetGlyph) (s : State) :
    (lensStep l g s).dictCore = s.dictCore := by
  unfold lensStep; dsimp only; (repeat' split) <;> simp

@[simp] theorem dictCore_turretStep (l : LineWork) (g : SetGlyph) (p : Placement) (s : State) :
    (turretStep l g p s).dictCore = s.dictCore := by
  unfold turretStep; dsimp only; (repeat' split) <;> simp

@[simp] theorem dictCore_decidePlaced (l : LineWork) (g : SetGlyph) (p : Placement) (s : State) :
    (decidePlaced l g p s).dictCore = s.dictCore := by
  unfold decidePlaced; (repeat' split) <;> simp

@[simp] theorem dictCore_glyphDecision (l : LineWork) (g : SetGlyph) (s : State) :
    (glyphDecision l g s).dictCore = s.dictCore := by
  unfold glyphDecision; dsimp only; (repeat' split) <;> simp

@[simp] theorem dictCore_nextGlyph (l : LineWork) (s : State) : (nextGlyph l s).dictCore = s.dictCore := by
  unfold nextGlyph; (repeat' split) <;> simp

@[simp] theorem dictCore_beginAdvance (l : LineWork) (forward : Bool) (n : Nat) (s : State) :
    (beginAdvance l forward n s).dictCore = s.dictCore := by
  unfold beginAdvance; dsimp only; (repeat' split) <;> simp

@[simp] theorem dictCore_takeLine (i : LineSlot) (r : LineRecord) (s : State) :
    (takeLine i r s).dictCore = s.dictCore := by
  simp [takeLine]

theorem dictCore_tryTakeLine {s t : State} (h : tryTakeLine s = some t) : t.dictCore = s.dictCore := by
  unfold tryTakeLine at h
  split at h
  · obtain ⟨i, -, h⟩ := Option.bind_eq_some_iff.1 h
    obtain ⟨r, -, rfl⟩ := Option.map_eq_some_iff.1 h; simp
  · cases h

@[simp] theorem dictCore_applyDeferred (s : State) : (applyDeferred s).dictCore = s.dictCore := by
  unfold applyDeferred; dsimp only; (repeat' split) <;> simp

@[simp] theorem dictCore_startCut (work : CutPhase → ExposureWork) (s : State) :
    (startCut work s).dictCore = s.dictCore := by
  unfold startCut; (repeat' split) <;> simp

@[simp] theorem dictCore_beginGap (target : Nat) (s : State) : (beginGap target s).dictCore = s.dictCore := by
  unfold beginGap; dsimp only; (repeat' split) <;> simp

theorem dictCore_tryFilmEnd {s t : State} (h : tryFilmEnd s = some t) : t.dictCore = s.dictCore := by
  unfold tryFilmEnd at h
  split at h
  · obtain ⟨g, -, rfl⟩ := Option.map_eq_some_iff.1 h; simp
  · cases h

@[simp] theorem dictCore_endFreeMove (ch : ChannelId) (c : Completion) (detail : Nat) (s : State) :
    (endFreeMove ch c detail s).dictCore = s.dictCore := by
  simp [endFreeMove]

@[simp] theorem dictCore_filmMoveDone (s : State) : (filmMoveDone s).dictCore = s.dictCore := by
  unfold filmMoveDone; (repeat' split) <;> simp

@[simp] theorem dictCore_noteRemaining (m : FilmMove) (s : State) : (noteRemaining m s).dictCore = s.dictCore := by
  unfold noteRemaining; (repeat' split) <;> simp

@[simp] theorem dictCore_stepFilm (s : State) : (stepFilm s).dictCore = s.dictCore := by
  unfold stepFilm; (repeat' split) <;> simp

@[simp] theorem dictCore_cutterFell (s : State) : (cutterFell s).dictCore = s.dictCore := by
  unfold cutterFell; (repeat' split) <;> simp

@[simp] theorem dictCore_setGalleyStart (s : State) : (setGalleyStart s).dictCore = s.dictCore := by
  simp [setGalleyStart]

@[simp] theorem dictCore_cutterRose (s : State) : (cutterRose s).dictCore = s.dictCore := by
  unfold cutterRose; (repeat' split) <;> simp

@[simp] theorem dictCore_cutTimedOut (s : State) : (cutTimedOut s).dictCore = s.dictCore := by
  unfold cutTimedOut; dsimp only; (repeat' split) <;> simp

@[simp] theorem dictCore_turretReached (l : LineWork) (g : SetGlyph) (s : State) :
    (turretReached l g s).dictCore = s.dictCore := by
  unfold turretReached; (repeat' split) <;> simp

@[simp] theorem dictCore_turretReport (correct : Bool) (s : State) :
    (turretReport correct s).dictCore = s.dictCore := by
  unfold turretReport; (repeat' split) <;> simp

@[simp] theorem dictCore_lensReport (arrived : Bool) (s : State) :
    (lensReport arrived s).dictCore = s.dictCore := by
  unfold lensReport; (repeat' split) <;> simp

@[simp] theorem dictCore_carriageReport (s : State) : (carriageReport s).dictCore = s.dictCore := by
  unfold carriageReport; (repeat' split) <;> simp

@[simp] theorem dictCore_stationLost (s : State) : (stationLost s).dictCore = s.dictCore := by
  unfold stationLost; (repeat' split) <;> simp

@[simp] theorem dictCore_lensLost (s : State) : (lensLost s).dictCore = s.dictCore := by
  unfold lensLost; (repeat' split) <;> simp

@[simp] theorem dictCore_discFault (s : State) : (discFault s).dictCore = s.dictCore := by
  unfold discFault; (repeat' split) <;> simp

@[simp] theorem dictCore_placementChanged (i : FontSlot) (s : State) :
    (placementChanged i s).dictCore = s.dictCore := by
  unfold placementChanged; (repeat' split) <;> simp

@[simp] theorem dictCore_flashReport (s : State) : (flashReport s).dictCore = s.dictCore := by
  unfold flashReport; dsimp only; (repeat' split) <;> simp

@[simp] theorem dictCore_lidFell (s : State) : (lidFell s).dictCore = s.dictCore := by
  unfold lidFell; dsimp only; (repeat' split) <;> simp

@[simp] theorem dictCore_cassetteFell (s : State) : (cassetteFell s).dictCore = s.dictCore := by
  unfold cassetteFell; dsimp only; (repeat' split) <;> simp

@[simp] theorem dictCore_loadCassette (inches : Nat) (s : State) :
    (loadCassette inches s).dictCore = s.dictCore := by
  unfold loadCassette; dsimp only; (repeat' split) <;> simp

@[simp] theorem dictCore_takeLoadCassette (ch : ChannelId) (b : Block) (s : State) :
    (takeLoadCassette ch b s).dictCore = s.dictCore := by
  unfold takeLoadCassette; (repeat' split) <;> simp

@[simp] theorem dictCore_retryTurret (l : LineWork) (g : SetGlyph) (s : State) :
    (retryTurret l g s).dictCore = s.dictCore := by
  unfold retryTurret; (repeat' split) <;> simp

@[simp] theorem dictCore_retryLens (l : LineWork) (g : SetGlyph) (s : State) :
    (retryLens l g s).dictCore = s.dictCore := by
  unfold retryLens; (repeat' split) <;> simp

/-- The checks of a retry keep what the retry itself keeps. -/
theorem dictCore_retryPositioning {k : State → State} (keep : ∀ s, (k s).dictCore = s.dictCore) (s : State) :
    (retryPositioning k s).dictCore = s.dictCore := by
  unfold retryPositioning; (repeat' split) <;> simp [keep]

@[simp] theorem dictCore_retryStep (s : State) : (retryStep s).dictCore = s.dictCore := by
  unfold retryStep; (repeat' split) <;> simp [dictCore_retryPositioning]

@[simp] theorem dictCore_retry (r : HoldReason) (s : State) : (retry r s).dictCore = s.dictCore := by
  unfold retry; (repeat' split) <;> simp

@[simp] theorem dictCore_takeResume (ch : ChannelId) (s : State) : (takeResume ch s).dictCore = s.dictCore := by
  unfold takeResume; (repeat' split) <;> simp

@[simp] theorem dictCore_takeAdvanceFilm (ch : ChannelId) (b : Block) (s : State) :
    (takeAdvanceFilm ch b s).dictCore = s.dictCore := by
  unfold takeAdvanceFilm; dsimp only; (repeat' split) <;> simp

@[simp] theorem dictCore_takeCutFilm (ch : ChannelId) (s : State) : (takeCutFilm ch s).dictCore = s.dictCore := by
  unfold takeCutFilm; (repeat' split) <;> simp

@[simp] theorem dictCore_takeQueryExposure (ch : ChannelId) (s : State) :
    (takeQueryExposure ch s).dictCore = s.dictCore := by
  simp [takeQueryExposure]

@[simp] theorem dictCore_takeVerify (ch : ChannelId) (s : State) : (takeVerify ch s).dictCore = s.dictCore := by
  unfold takeVerify; (repeat' split) <;> simp

@[simp] theorem dictCore_resetFreeMove (s : State) : (resetFreeMove s).dictCore = s.dictCore := by
  unfold resetFreeMove; (repeat' split) <;> simp

@[simp] theorem dictCore_exposureReset (s : State) : (exposureReset s).dictCore = s.dictCore := by
  simp [exposureReset]

/-! #### Proof -/

@[simp] theorem dictCore_setBuffer (i : Fin 2) (b : BandBuffer) (s : State) :
    (setBuffer i b s).dictCore = s.dictCore := by
  simp [setBuffer]

theorem dictCore_tryTakeProofLine {s t : State} (h : tryTakeProofLine s = some t) : t.dictCore = s.dictCore := by
  unfold tryTakeProofLine at h
  split at h
  · cases h
  · obtain ⟨b, -, h⟩ := Option.bind_eq_some_iff.1 h
    obtain ⟨i, -, h⟩ := Option.bind_eq_some_iff.1 h
    obtain ⟨r, -, rfl⟩ := Option.map_eq_some_iff.1 h; simp

@[simp] theorem dictCore_startPort (w : PortWork) (s : State) : (startPort w s).dictCore = s.dictCore := by
  unfold startPort; (repeat' split) <;> simp

theorem dictCore_tryStartBand {s t : State} (h : tryStartBand s = some t) : t.dictCore = s.dictCore := by
  unfold tryStartBand at h
  split at h
  · obtain ⟨i, -, h⟩ := Option.bind_eq_some_iff.1 h
    obtain ⟨b, -, rfl⟩ := Option.map_eq_some_iff.1 h; simp
  · cases h

theorem dictCore_tryPaperEnd {s t : State} (h : tryPaperEnd s = some t) : t.dictCore = s.dictCore := by
  unfold tryPaperEnd at h
  split at h
  · obtain ⟨g, -, rfl⟩ := Option.map_eq_some_iff.1 h; simp
  · cases h

@[simp] theorem dictCore_strobe (data : Byte) (s : State) : (strobe data s).dictCore = s.dictCore := by
  simp [strobe]

@[simp] theorem dictCore_bandEnd (i : Fin 2) (b : Band) (s : State) : (bandEnd i b s).dictCore = s.dictCore := by
  simp [bandEnd]

@[simp] theorem dictCore_sendTransfer (i : Fin 2) (b : Band) (s : State) :
    (sendTransfer i b s).dictCore = s.dictCore := by
  unfold sendTransfer; dsimp only; (repeat' split) <;> simp

@[simp] theorem dictCore_feedTransfer (s : State) : (feedTransfer s).dictCore = s.dictCore := by
  unfold feedTransfer; (repeat' split) <;> simp

@[simp] theorem dictCore_transfer (s : State) : (transfer s).dictCore = s.dictCore := by
  unfold transfer; (repeat' split) <;> simp

@[simp] theorem dictCore_paperFell (s : State) : (paperFell s).dictCore = s.dictCore := by
  unfold paperFell; (repeat' split) <;> simp

@[simp] theorem dictCore_paperRose (s : State) : (paperRose s).dictCore = s.dictCore := by
  unfold paperRose; (repeat' split) <;> simp

@[simp] theorem dictCore_replaceCells (set : Fin 4) (first : Nat) (cells : List Cell) (s : State) :
    (replaceCells set first cells s).dictCore = s.dictCore := by
  simp [replaceCells]

@[simp] theorem dictCore_takeLoadCells (ch : ChannelId) (b : Block) (s : State) :
    (takeLoadCells ch b s).dictCore = s.dictCore := by
  unfold takeLoadCells; (repeat' split) <;> simp

@[simp] theorem dictCore_takeQueryProof (ch : ChannelId) (s : State) :
    (takeQueryProof ch s).dictCore = s.dictCore := by
  simp [takeQueryProof]

@[simp] theorem dictCore_proofReset (s : State) : (proofReset s).dictCore = s.dictCore := by simp [proofReset]

/-! #### Compose -/

@[simp] theorem dictCore_engineIdle (s : State) : (engineIdle s).dictCore = s.dictCore := by simp [engineIdle]
@[simp] theorem dictCore_commit (g : GalleyId) (e : LineEnd) (s : State) :
    (commit g e s).dictCore = s.dictCore := by
  unfold commit; (repeat' split) <;> simp

@[simp] theorem dictCore_breakSearch (g : GalleyId) (cs : List Candidate) (s : State) :
    (breakSearch g cs s).dictCore = s.dictCore := by
  simp [breakSearch]

@[simp] theorem dictCore_presentLookup (g : GalleyId) (core : List Nat) (s : State) :
    (presentLookup g core s).dictCore = s.dictCore := by
  simp [presentLookup]

@[simp] theorem dictCore_settle (g : GalleyId) (s : State) : (settle g s).dictCore = s.dictCore := by
  unfold settle; dsimp only; (repeat' split) <;> simp

theorem dictCore_tryArbitrate {s t : State} (h : tryArbitrate s = some t) : t.dictCore = s.dictCore := by
  unfold tryArbitrate at h
  split at h
  · obtain ⟨g, -, rfl⟩ := Option.map_eq_some_iff.1 h; simp
  · cases h

theorem dictCore_tryEndService {s t : State} (h : tryEndService s = some t) : t.dictCore = s.dictCore := by
  unfold tryEndService at h
  (repeat' split at h) <;> cases h
  simp

@[simp] theorem dictCore_emptyBuilder (g : GalleyId) (s : State) : (emptyBuilder g s).dictCore = s.dictCore := by
  simp [emptyBuilder]

@[simp] theorem dictCore_engineReset (s : State) : (engineReset s).dictCore = s.dictCore := by simp [engineReset]

/-! #### Galleys -/

@[simp] theorem dictCore_serveTexts (g : GalleyId) (ts : List WaitingText) (s : State) :
    (serveTexts g ts s).dictCore = s.dictCore := by
  induction ts generalizing s with
  | nil => simp [serveTexts]
  | cons t ts ih => unfold serveTexts; split <;> simp [ih]

@[simp] theorem dictCore_serveWaiting (g : GalleyId) (s : State) : (serveWaiting g s).dictCore = s.dictCore := by
  simp [serveWaiting]

@[simp] theorem dictCore_refuseTexts (ts : List WaitingText) (s : State) :
    (refuseTexts ts s).dictCore = s.dictCore := by
  unfold refuseTexts; induction ts generalizing s with
  | nil => rfl
  | cons i is ih => simp [ih]

@[simp] theorem dictCore_resetTexts (ts : List WaitingText) (s : State) :
    (resetTexts ts s).dictCore = s.dictCore := by
  unfold resetTexts; induction ts generalizing s with
  | nil => rfl
  | cons i is ih => simp [ih]

@[simp] theorem dictCore_refuseWaiting (g : GalleyId) (s : State) : (refuseWaiting g s).dictCore = s.dictCore := by
  simp [refuseWaiting]

@[simp] theorem dictCore_takeGlyph (g : GalleyId) (c : GlyphCode) (s : State) :
    (takeGlyph g c s).dictCore = s.dictCore := by
  unfold takeGlyph; dsimp only; (repeat' split) <;> simp

@[simp] theorem dictCore_galleyEnding (g : GalleyId) (s : State) : (galleyEnding g s).dictCore = s.dictCore := by
  unfold galleyEnding; (repeat' split) <;> simp

@[simp] theorem dictCore_takeEndGalley (g : GalleyId) (s : State) : (takeEndGalley g s).dictCore = s.dictCore := by
  unfold takeEndGalley; dsimp only; (repeat' split) <;> simp

@[simp] theorem dictCore_takeFontSelect (g : GalleyId) (n : Nat) (s : State) :
    (takeFontSelect g n s).dictCore = s.dictCore := by
  unfold takeFontSelect; (repeat' split) <;> simp

@[simp] theorem dictCore_takeSize (g : GalleyId) (n : Nat) (s : State) :
    (takeSize g n s).dictCore = s.dictCore := by
  unfold takeSize; (repeat' split) <;> simp

@[simp] theorem dictCore_setParameter (g : GalleyId) (clamped : Bool) (f : Galley → Galley) (s : State) :
    (setParameter g clamped f s).dictCore = s.dictCore := by
  unfold setParameter; (repeat' split) <;> simp

@[simp] theorem dictCore_takeReverse (g : GalleyId) (n : Nat) (s : State) :
    (takeReverse g n s).dictCore = s.dictCore := by
  simp [takeReverse]

@[simp] theorem dictCore_takeQuad (g : GalleyId) (v : Nat) (s : State) :
    (takeQuad g v s).dictCore = s.dictCore := by
  unfold takeQuad; (repeat' split) <;> simp

@[simp] theorem dictCore_takeSpaces (g : GalleyId) (a b c : Nat) (s : State) :
    (takeSpaces g a b c s).dictCore = s.dictCore := by
  simp [takeSpaces]

@[simp] theorem dictCore_applyItem (g : GalleyId) (i : Item) (s : State) :
    (applyItem g i s).dictCore = s.dictCore := by
  unfold applyItem; (repeat' split) <;> simp

@[simp] theorem dictCore_takeItem (g : GalleyId) (i : Item) (rest : List Byte) (s : State) :
    (takeItem g i rest s).dictCore = s.dictCore := by
  simp [takeItem]

@[simp] theorem dictCore_takeOpenGalley (ch : ChannelId) (b : Block) (s : State) :
    (takeOpenGalley ch b s).dictCore = s.dictCore := by
  unfold takeOpenGalley; (repeat' split) <;> simp

@[simp] theorem dictCore_takeSetText (ch : ChannelId) (b : Block) (s : State) :
    (takeSetText ch b s).dictCore = s.dictCore := by
  unfold takeSetText; (repeat' split) <;> simp

@[simp] theorem dictCore_takeSetPriority (ch : ChannelId) (b : Block) (s : State) :
    (takeSetPriority ch b s).dictCore = s.dictCore := by
  unfold takeSetPriority; (repeat' split) <;> simp

@[simp] theorem dictCore_stopServing (g : GalleyId) (s : State) : (stopServing g s).dictCore = s.dictCore := by
  unfold stopServing
  split
  · split <;> simp
  · split
    · refine (dictCore_modDict rfl ?_).trans (dictCore_engineIdle s)
      rcases (engineIdle s).dict.running with _ | _ | _ | _ <;> rfl
    · rfl
  · rfl

@[simp] theorem dictCore_cancelGalley (g : GalleyId) (s : State) : (cancelGalley g s).1.dictCore = s.dictCore := by
  simp [cancelGalley]

@[simp] theorem dictCore_closeAtOnce (g : GalleyId) (s : State) : (closeAtOnce g s).dictCore = s.dictCore := by
  unfold closeAtOnce; (repeat' split) <;> simp

@[simp] theorem dictCore_takeCancelGalley (ch : ChannelId) (b : Block) (s : State) :
    (takeCancelGalley ch b s).dictCore = s.dictCore := by
  unfold takeCancelGalley; dsimp only; (repeat' split) <;> simp

@[simp] theorem dictCore_takeQueryGalley (ch : ChannelId) (b : Block) (s : State) :
    (takeQueryGalley ch b s).dictCore = s.dictCore := by
  unfold takeQueryGalley; (repeat' split) <;> simp

@[simp] theorem dictCore_resetGalley (s : State) (g : GalleyId) : (resetGalley s g).dictCore = s.dictCore := by
  simp [resetGalley]

@[simp] theorem dictCore_galleysReset (s : State) : (galleysReset s).dictCore = s.dictCore := by
  unfold galleysReset; generalize List.finRange 8 = l; induction l generalizing s with
  | nil => rfl
  | cons i is ih => simp [ih]

/-! #### Dictionary -/

@[simp] theorem dictCore_present (ch : ChannelId) (r : Request) (s : State) :
    (present ch r s).dictCore = s.dictCore := by
  simp [present]

@[simp] theorem dictCore_completeLookUpWord (ch : ChannelId) (b : Block) (m : Vector Byte 96) (s : State) :
    (completeLookUpWord ch b m s).dictCore = s.dictCore := by
  unfold completeLookUpWord; dsimp only; (repeat' split) <;> simp

@[simp] theorem dictCore_completeRefusedPurge (ch : ChannelId) (prot : Bool) (s : State) :
    (completeRefusedPurge ch prot s).dictCore = s.dictCore := by
  unfold completeRefusedPurge; (repeat' split) <;> simp

@[simp] theorem dictCore_deliverAnswer (core : List Nat) (s : State) :
    (deliverAnswer core s).dictCore = s.dictCore := by
  unfold deliverAnswer; (repeat' split) <;> simp

@[simp] theorem dictCore_dictionaryReset (s : State) : (dictionaryReset s).dictCore = s.dictCore := by
  refine dictCore_modDict rfl ?_
  rcases s.dict.running with _ | _ | _ | _ <;> rfl

/-! #### Channels -/

@[simp] theorem dictCore_terminate (ch : ChannelId) (code : BitVec 3) (s : State) :
    (terminate ch code s).dictCore = s.dictCore := by
  simp [terminate]

@[simp] theorem dictCore_placeFontReported (ch : ChannelId) (b : Block) (s : State) :
    (placeFontReported ch b s).dictCore = s.dictCore := by
  have e := dictCore_takePlaceFont ch b s
  unfold placeFontReported
  split <;> simp_all

@[simp] theorem dictCore_ownerTakes (ch : ChannelId) (r : Request) (s : State) :
    (ownerTakes ch r s).dictCore = s.dictCore := by
  unfold ownerTakes; (repeat' split) <;> simp

@[simp] theorem dictCore_handOver (ch : ChannelId) (r : Request) (s : State) :
    (handOver ch r s).dictCore = s.dictCore := by
  simp [handOver]

@[simp] theorem dictCore_blockArrives (ch : ChannelId) (r : Request) (s : State) :
    (blockArrives ch r s).dictCore = s.dictCore := by
  unfold blockArrives; (repeat' split) <;> simp

@[simp] theorem dictCore_requestArrives (ch : ChannelId) (r : Request) (s : State) :
    (requestArrives ch r s).dictCore = s.dictCore := by
  unfold requestArrives; (repeat' split) <;> simp

@[simp] theorem dictCore_fetchArrives (ch : ChannelId) (f : Fetched) (s : State) :
    (fetchArrives ch f s).dictCore = s.dictCore := by
  unfold fetchArrives
  split
  · simp
  · split <;> simp

theorem dictCore_tryHandOver (ch : ChannelId) {s t : State} (h : tryHandOver ch s = some t) :
    t.dictCore = s.dictCore := by
  unfold tryHandOver at h
  dsimp only at h
  split at h
  · obtain ⟨r, -, rfl⟩ := Option.map_eq_some_iff.1 h; simp
  · cases h

@[simp] theorem dictCore_chainNext (ch : ChannelId) (b : Block) (s : State) :
    (chainNext ch b s).dictCore = s.dictCore := by
  unfold chainNext; (repeat' split) <;> simp

@[simp] theorem dictCore_startChannel (ch : ChannelId) (stopBit : Bool) (s : State) :
    (startChannel ch stopBit s).dictCore = s.dictCore := by
  unfold startChannel; dsimp only; (repeat' split) <;> simp

@[simp] theorem dictCore_stopChannel (ch : ChannelId) (s : State) : (stopChannel ch s).dictCore = s.dictCore := by
  unfold stopChannel; (repeat' split) <;> simp

@[simp] theorem dictCore_detach (ch : ChannelId) (s : State) : (detach ch s).dictCore = s.dictCore := by
  unfold detach; (repeat' split) <;> simp

/-! #### Lines -/

@[simp] theorem dictCore_reportToRequester (r : Requester) (correct : Bool) (s : State) :
    (reportToRequester r correct s).dictCore = s.dictCore := by
  unfold reportToRequester; (repeat' split) <;> simp

@[simp] theorem dictCore_turretRises (s : State) : (turretRises s).dictCore = s.dictCore := by
  unfold turretRises; (repeat' split) <;> simp

@[simp] theorem dictCore_turretFalls (s : State) : (turretFalls s).dictCore = s.dictCore := by
  unfold turretFalls; (repeat' split) <;> simp

@[simp] theorem dictCore_turretTimesOut (s : State) : (turretTimesOut s).dictCore = s.dictCore := by
  unfold turretTimesOut; (repeat' split) <;> simp

@[simp] theorem dictCore_lensRises (s : State) : (lensRises s).dictCore = s.dictCore := by
  unfold lensRises; (repeat' split) <;> simp

@[simp] theorem dictCore_lensFalls (s : State) : (lensFalls s).dictCore = s.dictCore := by
  unfold lensFalls; (repeat' split) <;> simp

@[simp] theorem dictCore_lensTimesOut (s : State) : (lensTimesOut s).dictCore = s.dictCore := by
  unfold lensTimesOut; (repeat' split) <;> simp

@[simp] theorem dictCore_setEncoder (l : EncoderLine) (f : LineFilter) (s : State) :
    (setEncoder l f s).dictCore = s.dictCore := by
  unfold setEncoder; (repeat' split) <;> simp

@[simp] theorem dictCore_acceptEncoder (l : EncoderLine) (level : Bool) (s : State) :
    (acceptEncoder l level s).dictCore = s.dictCore := by
  unfold acceptEncoder; (repeat' split) <;> simp

@[simp] theorem dictCore_encoderChanged (l : EncoderLine) (s : State) :
    (encoderChanged l s).dictCore = s.dictCore := by
  unfold encoderChanged encoderEdge acceptHeldEncoder; dsimp only; (repeat' split) <;> simp

@[simp] theorem dictCore_setDebouncer (l : DebouncedLine) (f : LineFilter) (s : State) :
    (setDebouncer l f s).dictCore = s.dictCore := by
  unfold setDebouncer; (repeat' split) <;> simp

@[simp] theorem dictCore_reportDebounced (l : DebouncedLine) (level : Bool) (s : State) :
    (reportDebounced l level s).dictCore = s.dictCore := by
  unfold reportDebounced; (repeat' split) <;> simp

@[simp] theorem dictCore_acceptDebounced (l : DebouncedLine) (level : Bool) (s : State) :
    (acceptDebounced l level s).dictCore = s.dictCore := by
  simp [acceptDebounced]

@[simp] theorem dictCore_debouncedChanged (l : DebouncedLine) (s : State) :
    (debouncedChanged l s).dictCore = s.dictCore := by
  unfold debouncedChanged debouncedEdge acceptHeldDebounced; dsimp only; (repeat' split) <;> simp

@[simp] theorem dictCore_sensorChanged (l : SensorLine) (s : State) :
    (sensorChanged l s).dictCore = s.dictCore := by
  unfold sensorChanged; (repeat' split) <;> simp

@[simp] theorem dictCore_setTurretLines (q : Station) (code : BitVec 4) (s : State) :
    (setTurretLines q code s).dictCore = s.dictCore := by
  unfold setTurretLines; generalize List.finRange 2 = l; generalize List.finRange 4 = k
  have h : ∀ (l : List (Fin 2)) (s : State),
      (l.foldl (fun s b => s.setConditioned (sensorBit (.turretPos b)) (q.val.testBit b.val)) s).dictCore = s.dictCore := by
    intro l; induction l with
    | nil => intro s; rfl
    | cons i is ih => intro s; simp [ih]
  have h2 : ∀ (l : List (Fin 4)) (s : State),
      (l.foldl (fun s b => s.setConditioned (sensorBit (.discCode b)) (code.getLsbD b.val)) s).dictCore = s.dictCore := by
    intro l; induction l with
    | nil => intro s; rfl
    | cons i is ih => intro s; rw [List.foldl_cons, ih, dictCore_setConditioned]
  rw [h2, h]

/-! #### Configuration -/

@[simp] theorem dictCore_acceptUndebounced (l : DebouncedLine) (s : State) :
    (acceptUndebounced l s).dictCore = s.dictCore := by
  unfold acceptUndebounced; (repeat' split) <;> simp

@[simp] theorem dictCore_compositionReset (s : State) : (compositionReset s).dictCore = s.dictCore := by
  simp [compositionReset]

/-! #### Timing -/

@[simp] theorem dictCore_advanceTime (n : Nat) (s : State) : (advanceTime n s).dictCore = s.dictCore := by
  simp [advanceTime]

/-! #### Optics -/

@[simp] theorem dictCore_pulseAccepted (l : EncoderLine) (s : State) :
    (pulseAccepted l s).dictCore = s.dictCore := by
  simp [pulseAccepted]

@[simp] theorem dictCore_acceptAfter (l : EncoderLine) (k : Nat) (s : State) :
    (acceptAfter l k s).dictCore = s.dictCore := by
  simp [acceptAfter]

@[simp] theorem dictCore_timeBefore (l : EncoderLine) (n : Nat) (s : State) :
    (timeBefore l n s).dictCore = s.dictCore := by
  unfold timeBefore; split <;> simp

@[simp] theorem dictCore_rechargeEnds (s : State) : (rechargeEnds s).dictCore = s.dictCore := by
  unfold rechargeEnds; (repeat' split) <;> simp

@[simp] theorem dictCore_turretArrival (q : Station) (code : BitVec 4) (s : State) :
    (turretArrival q code s).dictCore = s.dictCore := by
  simp [turretArrival]

/-! #### Posting, reset, refused writes, the lamp and time -/

@[simp] theorem dictCore_postingEnds (ch : ChannelId) (p : Posting) (fault : Option Nat) (s : State) :
    (postingEnds ch p fault s).dictCore = s.dictCore := by
  unfold postingEnds recordPosting; dsimp only; (repeat' split) <;> simp

@[simp] theorem dictCore_resetChannel (ch : ChannelId) (s : State) : (resetChannel ch s).dictCore = s.dictCore := by
  unfold resetChannel abandonPosting; split <;> simp

@[simp] theorem dictCore_refuseWrite (code : BitVec 7) (s : State) :
    (refuseWrite code s).dictCore = s.dictCore := rfl

@[simp] theorem dictCore_delayExpires (s : State) : (delayExpires s).dictCore = s.dictCore := by
  unfold delayExpires fireFlash fireLamp; dsimp only; (repeat' split) <;> simp

@[simp] theorem dictCore_tick (s : State) : (tick s).dictCore = s.dictCore := by
  unfold tick
  split
  · simp
  · rfl

end Sys2Proof.Machine
end

section
/-! SUPPORT. The lexicon (R70 to R72): what makes the entries and their chains legal, and which changes keep them so. -/

namespace Sys2Proof.Machine

/-- Every entry is legal and stands in the chain of its word's bucket, no word has two, and there are at most 2,048. -/
def LexiconLegal (c : Vector (List Entry) 512) : Prop :=
  (∀ b : Fin 512, ∀ e ∈ vget c b, EntryLegal e ∧ bucketOf e.word = b) ∧
  (∀ b : Fin 512, ((vget c b).map (·.word)).Nodup) ∧ entryCount c ≤ 2048

/-- The letter IDs of a code map are at most 40 (R71, R178). -/
def LettersLegal (m : Vector Byte 96) : Prop := ∀ i : Fin 96, (vget m i).toNat ≤ 40

/-! ### Entries as they are read from a payload (R71, R78) -/

theorem ascending_pairwise : ∀ {l : List Nat}, ascending l = true → l.Pairwise (· < ·)
  | [], _ => .nil
  | [_], _ => List.pairwise_singleton ..
  | a :: b :: rest, h => by
    obtain ⟨ab, tail⟩ : a < b ∧ ascending (b :: rest) = true := by simpa [ascending] using h
    have sorted := ascending_pairwise tail
    refine List.pairwise_cons.mpr ⟨fun x hx => ?_, sorted⟩
    rcases List.mem_cons.mp hx with rfl | hx
    · exact ab
    · exact ab.trans ((List.pairwise_cons.mp sorted).1 x hx)

theorem letterId_le {m : Vector Byte 96} (h : LettersLegal m) (c : Nat) : letterId m c ≤ 40 := by
  unfold letterId
  split
  · next lt => exact h ⟨c, lt⟩
  · omega

/-- A well-formed word has 2 to 32 letters of 1 to 40. -/
theorem foldWord_legal {m : Vector Byte 96} (h : LettersLegal m) {w : List Byte} {ids : List Nat}
    (e : foldWord m w = some ids) :
    2 ≤ ids.length ∧ ids.length ≤ 32 ∧ ∀ l ∈ ids, 1 ≤ l ∧ l ≤ 40 := by
  unfold foldWord at e
  dsimp only at e
  split at e
  · next ok =>
    obtain ⟨two, most, letters⟩ := ok
    cases e
    refine ⟨by simpa using two, by simpa using most, fun l hl => ⟨?_, ?_⟩⟩
    · have := List.all_eq_true.mp letters l hl
      simp only [bne_iff_ne] at this
      omega
    · obtain ⟨c, -, rfl⟩ := List.mem_map.mp hl
      exact letterId_le h _
  · cases e

/-- The positions that a kind may have. -/
theorem kindOf_legal {k : Byte} {ps : List Nat} {l : Nat} {kind : EntryKind} (e : kindOf k ps l = some kind) :
    (kind = .allow → 1 ≤ ps.length ∧ ps.length ≤ 15 ∧ ps.Pairwise (· < ·) ∧ ∀ p ∈ ps, 1 ≤ p ∧ p < l) ∧
    (kind = .never → ps = []) := by
  unfold kindOf at e
  split at e
  · split at e
    · next ok =>
      obtain ⟨one, most, sorted, inside⟩ := ok
      cases e
      refine ⟨fun _ => ⟨one, most, ascending_pairwise sorted, fun p hp => ?_⟩, nofun⟩
      have := of_decide_eq_true (List.all_eq_true.mp inside p hp)
      omega
    · cases e
  · split at e
    · next none => cases e; exact ⟨nofun, fun _ => none⟩
    · cases e
  · cases e

/-- An entry that is read from a payload is legal. -/
theorem takeEntry_legal {m : Vector Byte 96} {tag : Nat} {p rest : List Byte} {e : Entry} (letters : LettersLegal m)
    (desk : tag ≤ 15) (h : takeEntry m tag p = some (e, rest)) : EntryLegal e := by
  unfold takeEntry at h
  obtain ⟨⟨w, p1⟩, -, h⟩ := Option.bind_eq_some_iff.1 h
  obtain ⟨⟨k, p2⟩, -, h⟩ := Option.bind_eq_some_iff.1 h
  obtain ⟨⟨ps, p3⟩, -, h⟩ := Option.bind_eq_some_iff.1 h
  obtain ⟨ids, folded, h⟩ := Option.bind_eq_some_iff.1 h
  obtain ⟨kind, kinds, h⟩ := Option.map_eq_some_iff.1 h
  cases h
  obtain ⟨two, most, inRange⟩ := foldWord_legal letters folded
  obtain ⟨allow, never⟩ := kindOf_legal kinds
  refine ⟨two, most, inRange, desk, ?_⟩
  cases kind
  · exact allow rfl
  · exact never rfl

/-! ### Changes of a chain -/

/-- Replacing a chain changes the number of entries by the difference of the lengths. -/
theorem entryCount_vset (c : Vector (List Entry) 512) (b : Fin 512) (l : List Entry) :
    entryCount (vset c b l) + (vget c b).length = entryCount c + l.length := by
  have lt : b.val < (c.toList.map (·.length)).length := by simp
  have split := List.sum_take_add_sum_drop (c.toList.map (·.length)) b.val
  rw [List.drop_eq_getElem_cons lt, List.sum_cons] at split
  have here : (c.toList.map (·.length))[b.val] = (vget c b).length := by simp [vget]
  rw [entryCount, entryCount, vset, Vector.toList_set, List.map_set, List.sum_set, if_pos lt]
  omega

/-- A chain may be replaced by a legal one that leaves at most 2,048 entries. -/
theorem LexiconLegal.put {c : Vector (List Entry) 512} (h : LexiconLegal c) {b : Fin 512} {l : List Entry}
    (legal : ∀ e ∈ l, EntryLegal e ∧ bucketOf e.word = b) (once : (l.map (·.word)).Nodup)
    (room : entryCount c + l.length ≤ 2048 + (vget c b).length) : LexiconLegal (vset c b l) := by
  obtain ⟨legals, onces, -⟩ := h
  have count := entryCount_vset c b l
  refine ⟨fun k => ?_, fun k => ?_, by omega⟩
  · rw [vget_vset]
    split
    · next e => exact e ▸ legal
    · exact legals k
  · rw [vget_vset]
    split
    · exact once
    · exact onces k

/-- Entries may be taken out of a chain (R80, R82). -/
theorem LexiconLegal.filter {c : Vector (List Entry) 512} (h : LexiconLegal c) (b : Fin 512) (keep : Entry → Bool) :
    LexiconLegal (vset c b ((vget c b).filter keep)) := by
  obtain ⟨legals, onces, most⟩ := h
  have shorter := List.length_filter_le keep (vget c b)
  exact LexiconLegal.put ⟨legals, onces, most⟩ (fun e he => legals b e (List.mem_of_mem_filter he))
    ((onces b).sublist (List.filter_sublist.map _)) (by omega)

theorem findEntry_eq_none {w : List Nat} {c : Vector (List Entry) 512} :
    findEntry w c = none ↔ ∀ e ∈ vget c (bucketOf w), e.word ≠ w := by
  simp [findEntry, chainOf, List.find?_eq_none]

/-- A new word may be added where there is room (R72, R78). -/
theorem LexiconLegal.insertEntry {c : Vector (List Entry) 512} (h : LexiconLegal c) {e : Entry} (legal : EntryLegal e)
    (new : findEntry e.word c = none) (room : entryCount c < 2048) : LexiconLegal (insertEntry e c) := by
  obtain ⟨legals, onces, -⟩ := id h
  refine h.put (fun x hx => ?_) ?_ (by simp only [List.length_cons, chainOf]; omega)
  · rcases List.mem_cons.mp hx with rfl | hx
    · exact ⟨legal, rfl⟩
    · exact legals _ x hx
  · refine List.nodup_cons.mpr ⟨fun hx => ?_, onces _⟩
    obtain ⟨x, hx, same⟩ := List.mem_map.mp hx
    exact findEntry_eq_none.mp new x hx same

/-- The entry of a word may be replaced by another of that word (R79). -/
theorem LexiconLegal.replaceEntry {c : Vector (List Entry) 512} (h : LexiconLegal c) {e : Entry}
    (legal : EntryLegal e) : LexiconLegal (replaceEntry e c) := by
  obtain ⟨legals, onces, most⟩ := id h
  have words : ((chainOf e.word c).map fun x => if x.word = e.word then e else x).map (·.word) =
      (chainOf e.word c).map (·.word) := by
    rw [List.map_map]
    refine List.map_congr_left fun x _ => ?_
    dsimp only [Function.comp]
    split
    · next same => exact same.symm
    · rfl
  refine h.put (fun x hx => ?_) (words ▸ onces _) (by simp only [List.length_map, chainOf]; omega)
  obtain ⟨y, hy, rfl⟩ := List.mem_map.mp hx
  split
  · exact ⟨legal, rfl⟩
  · exact legals _ y hy

/-- The entries of ADD WORDS keep the lexicon legal, whatever ends their list (R78). -/
theorem LexiconLegal.addEntries {m : Vector Byte 96} {tag : Nat} (letters : LettersLegal m) (desk : tag ≤ 15) (n k : Nat)
    (p : List Byte) {c : Vector (List Entry) 512} (h : LexiconLegal c) :
    LexiconLegal (addEntries m tag n k p c).2.2 := by
  induction n generalizing k p c with
  | zero => exact h
  | succ n ih =>
    unfold Machine.addEntries
    split
    · exact h
    · next e rest taken =>
      split_ifs with present full
      · exact h
      · exact h
      · exact ih _ _ (h.insertEntry (takeEntry_legal letters desk taken) (by simpa using present) (by omega))

end Sys2Proof.Machine
end

section
/-! PROOF. Every step keeps the dictionary legal (O7): the operations of the dictionary, the writes of the code map, and
the taking of a request, which keeps the code map as it stands then (R71). -/

namespace Sys2Proof.Machine

/-! ### The invariant, with the code map that a taking will keep -/

/-- The lexicon is legal, and so are the code map and the one that a running request read at its taking. -/
structure DictSound (s : State) : Prop where
  lexicon : LexiconLegal s.dict.chains
  letters : LettersLegal s.codeMap
  taken : ∀ ch r prot m, s.dict.running.bind DictJob.taken = some (ch, r, prot, m) → LettersLegal m

theorem taken_eq_some {j : Option DictJob} {ch : ChannelId} {r : Request} {prot : Bool} {m : Vector Byte 96} :
    j.bind DictJob.taken = some (ch, r, prot, m) ↔ j = some (.request ch r prot m) := by
  rcases j with _ | _ | _ | _ <;> simp [DictJob.taken]

theorem dictSound_iff {s : State} : DictSound s ↔ LettersLegal s.codeMap ∧ DictionaryLegal s := by
  constructor
  · rintro ⟨⟨legals, onces, most⟩, letters, taken⟩
    exact ⟨letters, legals, onces, most, fun ch r prot m h => taken ch r prot m (taken_eq_some.mpr h)⟩
  · rintro ⟨letters, legals, onces, most, taken⟩
    exact ⟨⟨legals, onces, most⟩, letters, fun ch r prot m h => taken ch r prot m (taken_eq_some.mp h)⟩

/-- An operation that keeps what the invariant reads keeps the invariant. -/
theorem DictSound.of_dictCore {s t : State} (h : DictSound s) (e : t.dictCore = s.dictCore) : DictSound t := by
  obtain ⟨lexicon, letters, taken⟩ := h
  simp only [State.dictCore, Prod.mk.injEq] at e
  obtain ⟨chains, map, running⟩ := e
  constructor
  · rwa [chains]
  · rwa [map]
  · rwa [running]

theorem DictSound.fresh {s : State} (h : DictSound s) : DictSound s.fresh := h.of_dictCore rfl

/-! ### The end of an operation (R77 to R82) -/

theorem DictSound.setChains {s : State} (h : DictSound s) {c : Vector (List Entry) 512} (legal : LexiconLegal c) :
    DictSound (setChains c s) := ⟨legal, h.letters, h.taken⟩

/-- A request is taken with a code map whose letters are legal. -/
theorem DictSound.setRunning {s : State} (h : DictSound s) {j : Option DictJob}
    (letters : ∀ ch r prot m, j = some (.request ch r prot m) → LettersLegal m) : DictSound (setRunning j s) :=
  ⟨h.lexicon, h.letters, fun ch r prot m e => letters ch r prot m (taken_eq_some.mp e)⟩

section Completion

variable {s : State} {m : Vector Byte 96} (h : DictSound s) (letters : LettersLegal m) (ch : ChannelId) (b : Block)
  (prot : Bool)

include h letters

theorem dictSound_completeAddWords : DictSound (completeAddWords ch b prot m s) := by
  unfold completeAddWords
  split_ifs with _ refused
  · exact h.of_dictCore (by simp)
  · exact h.of_dictCore (by simp)
  · have desk : b.target.toNat ≤ 15 := by omega
    have added := h.lexicon.addEntries letters desk (u16 b.payload 0) 0 (b.payload.drop 2)
    exact (h.setChains added).of_dictCore (dictCore_finish ..)

theorem dictSound_completeAmendWord : DictSound (completeAmendWord ch b prot m s) := by
  unfold completeAmendWord
  split_ifs with _ refused
  · exact h.of_dictCore (by simp)
  · exact h.of_dictCore (by simp)
  · split
    · next e taken =>
      have legal : EntryLegal e := takeEntry_legal letters (by omega) taken
      split
      · exact (h.setChains (h.lexicon.replaceEntry legal)).of_dictCore (dictCore_finish ..)
      · exact h.of_dictCore (by simp)
    · exact h.of_dictCore (by simp)

omit letters in
theorem dictSound_completeDeleteWord : DictSound (completeDeleteWord ch b prot m s) := by
  unfold completeDeleteWord
  split_ifs
  · exact h.of_dictCore (by simp)
  · split
    · exact h.of_dictCore (by simp)
    · split
      · exact (h.setChains (h.lexicon.filter ..)).of_dictCore (dictCore_finish ..)
      · exact h.of_dictCore (by simp)

theorem dictSound_completeRequest (r : Request) : DictSound (completeRequest ch r prot m s) := by
  unfold completeRequest
  split
  · exact dictSound_completeAddWords h letters ch r.block prot
  · exact dictSound_completeAmendWord h letters ch r.block prot
  · exact dictSound_completeDeleteWord h ch r.block prot
  · exact h.of_dictCore (by simp)
  · exact h.of_dictCore (by simp)

end Completion

theorem dictSound_completeBucket (p : Purge) {s : State} (h : DictSound s) : DictSound (completeBucket p s) := by
  have kept := h.setChains (h.lexicon.filter p.bucket fun e => e.tag != p.tag)
  unfold completeBucket
  dsimp only
  split
  · exact kept.of_dictCore ((dictCore_finish ..).trans (dictCore_modDict rfl rfl))
  · exact kept.of_dictCore (dictCore_modDict rfl rfl)

theorem dictSound_completeOperation {s : State} (h : DictSound s) : DictSound (completeOperation s) := by
  have freed : DictSound (setRunning none s) := h.setRunning nofun
  unfold completeOperation
  dsimp only
  split
  · exact h
  · split
    · exact freed.of_dictCore (dictCore_deliverAnswer ..)
    · exact freed
  · next ch r prot m running =>
    exact dictSound_completeRequest freed (h.taken ch r prot m (taken_eq_some.mpr running)) ch prot r
  · split
    · exact dictSound_completeBucket _ freed
    · exact freed

/-! ### The arbiter (R73, R74) -/

theorem dictSound_beginRequest (ch : ChannelId) (r : Request) {s : State} (h : DictSound s) :
    DictSound (beginRequest ch r s) := by
  unfold beginRequest
  split
  · exact ⟨h.lexicon, h.letters, nofun⟩
  · refine h.setRunning fun _ _ _ m e => ?_
    cases e
    exact h.letters

theorem dictSound_grantChannel (ch : ChannelId) {s : State} (h : DictSound s) : DictSound (grantChannel ch s) := by
  unfold grantChannel
  split
  · exact dictSound_beginRequest ch _ (h.of_dictCore (dictCore_modDict rfl rfl))
  · exact h

theorem dictSound_channelGrant {s t : State} (h : DictSound s) (e : channelGrant s = some t) : DictSound t := by
  unfold channelGrant at e
  dsimp only at e
  split at e
  · cases e
    exact ⟨h.lexicon, h.letters, nofun⟩
  · split_ifs at e <;> cases e <;> exact dictSound_grantChannel _ h

theorem dictSound_tryGrant {s t : State} (h : DictSound s) (e : tryGrant s = some t) : DictSound t := by
  have lookup : ∀ l, DictSound (grantLookup l s) := fun l => ⟨h.lexicon, h.letters, nofun⟩
  unfold tryGrant at e
  split at e
  · cases e
  · exact dictSound_channelGrant h e
  · split at e
    · cases e; exact lookup _
    · cases g : channelGrant s with
      | none => rw [g] at e; cases e; exact lookup _
      | some u => rw [g] at e; cases e; exact dictSound_channelGrant h g

/-! ### The writes of the code map (R178) -/

theorem codeMap_legal_iff {s : State} :
    LettersLegal s.codeMap ↔ ∀ i : Fin 201, 0x20 ≤ i.val → i.val ≤ 0x7F → (vget s.config.entries i).toNat ≤ 40 := by
  have read : ∀ i : Fin 96, vget s.codeMap i = vget s.config.entries ⟨0x20 + i.val, by omega⟩ := fun i => by
    simp only [State.codeMap, vget, Vector.getElem_ofFn, State.entry, dif_pos (show 0x20 + i.val < 201 by omega)]
  constructor
  · intro h i low high
    have := h ⟨i.val - 0x20, by omega⟩
    rw [read] at this
    simpa only [show 0x20 + (i.val - 0x20) = i.val by omega] using this
  · intro h i
    rw [read]
    exact h _ (by simp) (by simp only; omega)

/-- A byte may be stored in any entry, but one above 40 not in the code map. -/
theorem DictSound.storeEntry {s : State} (h : DictSound s) {i : Nat} {v : Byte}
    (fits : 0x20 ≤ i → i ≤ 0x7F → v.toNat ≤ 40) : DictSound (storeEntry i v s) := by
  refine ⟨h.lexicon, codeMap_legal_iff.mpr fun k low high => ?_, h.taken⟩
  have old := codeMap_legal_iff.mp h.letters k low high
  simp only [Machine.storeEntry, State.modConfig_config, vget, Vector.getElem_ofFn] at old ⊢
  split
  · next e => exact fits (e ▸ low) (e ▸ high)
  · exact old

theorem DictSound.acceptWrite {s : State} (h : DictSound s) {v : Byte}
    (fits : 0x20 ≤ s.cfgIndex → s.cfgIndex ≤ 0x7F → v.toNat ≤ 40) : DictSound (acceptWrite v s) := by
  refine h.storeEntry fun low high => ?_
  have masked : (v &&& definedBits s.cfgIndex).toNat ≤ v.toNat := by
    rw [BitVec.toNat_and]; exact Nat.and_le_left
  exact masked.trans (fits low high)

theorem dictSound_writeQuiescent (v : Byte) {s : State} (h : DictSound s) : DictSound (writeQuiescent v s) := by
  unfold writeQuiescent
  split
  · next ok =>
    refine h.acceptWrite fun low high => ?_
    have value : quiescentValue s.cfgIndex v = true := (Bool.and_eq_true_iff.mp ok).2
    rw [quiescentValue, if_neg (by omega), if_pos ⟨low, high⟩] at value
    exact of_decide_eq_true value
  · exact h.of_dictCore (dictCore_refuseWrite ..)

theorem dictSound_writeTNomHigh (v : Byte) {s : State} (h : DictSound s) : DictSound (writeTNomHigh v s) := by
  have pending : DictSound (s.modConfig fun c => { c with tNomPending := none }) := h.of_dictCore rfl
  unfold writeTNomHigh
  dsimp only
  split
  · exact (pending.storeEntry fun low => by omega).storeEntry fun low => by omega
  · exact pending.of_dictCore (dictCore_refuseWrite ..)

theorem dictSound_writeStationMap (v : Byte) {s : State} (h : DictSound s) : DictSound (writeStationMap v s) := by
  unfold writeStationMap
  split
  · exact (h.storeEntry fun low => by omega).of_dictCore (dictCore_unverifyAll _)
  · exact h.of_dictCore (dictCore_refuseWrite ..)

/-- 13H and 14H are no entries of the code map. -/
theorem dictSound_writeInversion (v : Byte) {s : State} (h : DictSound s)
    (index : s.cfgIndex = 0x13 ∨ s.cfgIndex = 0x14) : DictSound (writeInversion v s) := by
  have written : DictSound (acceptWrite v s) := h.acceptWrite fun low => by omega
  refine written.of_dictCore ?_
  unfold writeInversion
  dsimp only
  rw [dictCore_foldl fun _ _ => dictCore_sensorChanged _ _, dictCore_foldl fun _ _ => dictCore_encoderChanged _ _]

/-- Nor is 15H. -/
theorem dictSound_writeDebounce (v : Byte) {s : State} (h : DictSound s) (index : s.cfgIndex = 0x15) :
    DictSound (writeDebounce v s) := by
  have written : DictSound (acceptWrite v s) := h.acceptWrite fun low => by omega
  exact written.of_dictCore (by simp [writeDebounce])

/-! ### The reactions, the events and the commands -/

theorem dictSound_reactOnce {s t : State} (h : DictSound s) (e : reactOnce s = some t) : DictSound t := by
  rcases reactOnce_cases e with e | e | e | e | e | e | e | e | e | e | e | e
  · exact h.of_dictCore (dictCore_tryClose e)
  · exact h.of_dictCore (dictCore_tryAssign e)
  · exact h.of_dictCore (dictCore_tryFilmEnd e)
  · exact h.of_dictCore (dictCore_tryPaperEnd e)
  · exact h.of_dictCore (dictCore_tryTakeLine e)
  · exact h.of_dictCore (dictCore_tryStartBand e)
  · exact h.of_dictCore (dictCore_tryTakeProofLine e)
  · exact h.of_dictCore (dictCore_tryEndService e)
  · exact h.of_dictCore (dictCore_tryArbitrate e)
  · exact dictSound_tryGrant h e
  · exact h.of_dictCore (dictCore_tryHandOver 0 e)
  · exact h.of_dictCore (dictCore_tryHandOver 1 e)

theorem dictSound_event {arises : Bool} {f : State → State} {s t : State} (h : DictSound s)
    (keep : arises = true → DictSound (f s.fresh)) (e : event arises f s = .next t) : DictSound t := by
  cases arises with
  | false => cases e; exact h
  | true => cases e; exact keep rfl

theorem dictSound_eventReact {arises : Bool} {f : State → State} {s t : State} (h : DictSound s)
    (keep : arises = true → DictSound (f s.fresh)) (e : eventReact arises f s = .next t) : DictSound t :=
  dictSound_event h (f := fun u => react (f u)) (fun on => react_keeps (fun _ _ => dictSound_reactOnce) (keep on)) e

/-- An event that leaves alone what the invariant reads. -/
theorem dictSound_quietEvent {arises : Bool} {f : State → State} {s t : State} (h : DictSound s)
    (keep : ∀ u, (f u).dictCore = u.dictCore) (e : event arises f s = .next t) : DictSound t :=
  dictSound_event h (fun _ => h.fresh.of_dictCore (keep _)) e

theorem dictSound_quietReact {arises : Bool} {f : State → State} {s t : State} (h : DictSound s)
    (keep : ∀ u, (f u).dictCore = u.dictCore) (e : eventReact arises f s = .next t) : DictSound t :=
  dictSound_eventReact h (fun _ => h.fresh.of_dictCore (keep _)) e

theorem dictSound_powerOn (inputs : BitVec 15) (pending : List Instr) (free : Nat) :
    DictSound (State.powerOn inputs pending free) := by
  have reset : DictSound State.reset :=
    dictSound_iff.mpr ⟨by unfold LettersLegal; decide +kernel, dictionaryLegal_reset⟩
  exact reset.of_dictCore rfl

/-- Each command keeps the invariant. -/
theorem dictSound_exec (i : Instr) {s t : State} (h : DictSound s) (e : exec i s = .next t) : DictSound t := by
  cases i
  case powerOnReset => cases e; exact dictSound_powerOn ..
  case lookupAnswer | dictionaryOperationComplete =>
    exact dictSound_eventReact h (fun _ => dictSound_completeOperation h.fresh) e
  case quiescentConfigWrite v => exact dictSound_event h (fun _ => dictSound_writeQuiescent v h.fresh) e
  case tNomHighWrite v => exact dictSound_event h (fun _ => dictSound_writeTNomHigh v h.fresh) e
  case stationMapWrite v => exact dictSound_event h (fun _ => dictSound_writeStationMap v h.fresh) e
  case sensorInversionWrite v =>
    have index : ∀ {n : Nat}, (n == 0x13 || n == 0x14) = true → n = 0x13 ∨ n = 0x14 := by simp
    exact dictSound_eventReact h (fun on => dictSound_writeInversion v h.fresh (index on)) e
  case debounceEnableWrite v =>
    exact dictSound_eventReact h (fun on => dictSound_writeDebounce v h.fresh (beq_iff_eq.mp on)) e
  case configWrite v =>
    simp only [exec, execConfigWrite] at e
    split at e
    · exact dictSound_quietReact h (by simp) e
    · refine dictSound_event h (fun plain => h.fresh.acceptWrite fun low high => ?_) e
      have index : s.fresh.cfgIndex = s.cfgIndex := rfl
      simp only [plainEntry, Bool.or_eq_true, Bool.and_eq_true, decide_eq_true_eq] at plain
      omega
  case loadFont | amendFont | placeFont | retireFont | queryFont | openGalley | setText | setPriority | cancelGalley |
      queryGalley | addWords | amendWord | deleteWord | lookUpWord | purgeDesk | verifyStations | queryPhotoUnit |
      loadCassette | resumeExposure | advanceFilm | cutFilm | queryExposure | loadProofCells | queryProof =>
    exact dictSound_quietReact h (fun _ => dictCore_requestArrives ..) e
  case takeItem =>
    simp only [exec, execTakeItem] at e
    split at e
    · exact dictSound_quietReact h (by simp) e
    · cases e; exact h
  case settleWord =>
    simp only [exec, execSettleWord] at e
    split at e
    · exact dictSound_quietReact h (by simp) e
    · cases e; exact h
  case postingComplete =>
    simp only [exec, execPostingComplete] at e
    split at e
    · exact dictSound_quietEvent h (by simp) e
    · cases e; exact h
  case start =>
    simp only [exec, execStart] at e
    refine dictSound_quietEvent h (fun u => ?_) e
    split <;> simp
  case fetchComplete | compositionReset | flashDelayExpiry | flashComplete | turretArrival | turretTimeout | filmStep |
      cutComplete | cutTimeout | portTransfer | detachedMarkClear | sensorLevelChange =>
    simp only [exec, execFetchComplete, execCompositionReset, execFlashDelayExpiry, execFlashComplete,
      execTurretArrival, execTurretTimeout, execFilmStep, execCutComplete, execCutTimeout, execPortTransfer,
      execDetachedMarkClear, execSensorLevelChange] at e
    exact dictSound_quietReact h (by simp) e
  case lidClosedFall | cassettePresentFall | paperPresentFall | paperPresentRise | sensorChangeAccepted =>
    simp only [exec, execLidClosedFall, execCassettePresentFall, execPaperPresentFall, execPaperPresentRise,
      execSensorChangeAccepted, acceptanceEvent] at e
    exact dictSound_quietReact h (by simp [acceptance]) e
  case terminationStatusRead | attnWrite | attnEnWrite | sensorEventStatusRead | cfgIndexWrite | tNomLowWrite =>
    simp only [exec, execTerminationStatusRead, execAttnWrite, execAttnEnWrite, execSensorEventStatusRead,
      execCfgIndexWrite, execTNomLowWrite] at e
    refine dictSound_quietEvent h (fun _ => ?_) e
    rfl
  all_goals
    simp only [exec, execIndexPulse, execSlotPulse, execIndexTimeout, execTurretReadyFall, execLockWatchExpiry,
      execLensArrival, execLensReadyFall, execLensTimeout, execCarriageStep, execPrinterBusyChange, execStop,
      execChannelReset, execChainRegisterWrite, execCutterHomeFall, execEncoderLevelChange,
      execFalseLevelAccepted, execReadOnlyEntryWrite] at e
    exact dictSound_quietEvent h (by simp) e

/-- Settles O7: the entries change at the end of an operation only, and the code maps that entries are read with have
letters of at most 40. -/
theorem everyStepKeepsTheDictionaryLegal : Obligations.EveryStepKeepsTheDictionaryLegal := by
  intro s t ⟨_, _, _, letters, _⟩ legal e
  have h : DictSound s := dictSound_iff.mpr ⟨codeMap_legal_iff.mpr letters, legal⟩
  suffices DictSound t from (dictSound_iff.mp this).2
  unfold step at e
  split at e
  · next c rest _ => exact dictSound_exec c (h.of_dictCore (t := { s with pending := rest }) rfl) e
  · cases e
    exact h.of_dictCore (dictCore_tick s)

end Sys2Proof.Machine
end

section
/-! SUPPORT. The reactions and the dictionary: none but the grant reads it, so that in a settled state with another
dictionary the grant alone may apply. -/

namespace Sys2Proof.Machine

section OtherReactions

variable {s : State} (f : Dictionary → Dictionary)

theorem tryClose_modDict (h : tryClose s = none) : tryClose (s.modDict f) = none := by
  have closable : ∀ g, (s.modDict f).closable g = s.closable g := fun _ => rfl
  simpa only [tryClose_eq_none, closable] using h

theorem tryAssign_modDict (h : tryAssign s = none) : tryAssign (s.modDict f) = none := by
  have film : (s.modDict f).filmAssignee = s.filmAssignee := rfl
  have paper : (s.modDict f).paperAssignee = s.paperAssignee := rfl
  cases assignee : s.filmAssignee with
  | some g => simp [tryAssign, assignee] at h
  | none => simpa [tryAssign, film, paper, assignee] using h

theorem tryFilmEnd_modDict (h : tryFilmEnd s = none) : tryFilmEnd (s.modDict f) = none := by
  have finished : (s.modDict f).filmFinished = s.filmFinished := rfl
  have idle : (s.modDict f).exposureIdle = s.exposureIdle := rfl
  simpa [tryFilmEnd, finished, idle] using h

theorem tryPaperEnd_modDict (h : tryPaperEnd s = none) : tryPaperEnd (s.modDict f) = none := by
  have finished : (s.modDict f).paperFinished = s.paperFinished := rfl
  simpa [tryPaperEnd, finished] using h

theorem tryTakeLine_modDict (h : tryTakeLine s = none) : tryTakeLine (s.modDict f) = none := by
  have next : (s.modDict f).nextFilmLine = s.nextFilmLine := rfl
  have idle : (s.modDict f).exposureIdle = s.exposureIdle := rfl
  have line : ∀ k, (s.modDict f).lineAt k = s.lineAt k := fun _ => rfl
  simpa [tryTakeLine, next, idle, line] using h

theorem tryStartBand_modDict (h : tryStartBand s = none) : tryStartBand (s.modDict f) = none := by
  have buffer : ∀ p, (s.modDict f).bufferIn p = s.bufferIn p := fun _ => rfl
  simpa [tryStartBand, buffer] using h

theorem tryTakeProofLine_modDict (h : tryTakeProofLine s = none) : tryTakeProofLine (s.modDict f) = none := by
  have buffer : ∀ p, (s.modDict f).bufferIn p = s.bufferIn p := fun _ => rfl
  have next : (s.modDict f).nextProofLine = s.nextProofLine := rfl
  have line : ∀ k, (s.modDict f).lineAt k = s.lineAt k := fun _ => rfl
  simpa [tryTakeProofLine, buffer, next, line] using h

theorem tryEndService_modDict (h : tryEndService s = none) : tryEndService (s.modDict f) = none := by
  have galley : ∀ g, (s.modDict f).galley g = s.galley g := fun _ => rfl
  cases engine : s.engine.state with
  | serving g => simpa [tryEndService, engine, galley] using h
  | idle | lookup => simp [tryEndService, engine]

theorem tryArbitrate_modDict (h : tryArbitrate s = none) : tryArbitrate (s.modDict f) = none := by
  have chosen : (s.modDict f).arbitration = s.arbitration := rfl
  simpa [tryArbitrate, chosen] using h

theorem tryHandOver_modDict {ch : ChannelId} (h : tryHandOver ch s = none) : tryHandOver ch (s.modDict f) = none := by
  have same := tryHandOver_congr (show (s.modDict f).channel ch = s.channel ch from rfl)
  rwa [h, Option.isNone_none, Option.isNone_iff_eq_none] at same

end OtherReactions

theorem firstOf_of_last_none {a b : State → Option State} {s : State} (h : b s = none) : firstOf a b s = a s := by
  rw [firstOf, h]
  cases a s <;> rfl

theorem reactOnce_modDict {s : State} (h : s.settled) (f : Dictionary → Dictionary) :
    reactOnce (s.modDict f) = tryGrant (s.modDict f) := by
  simp only [settled_eq, Bool.and_eq_true, Option.isNone_iff_eq_none] at h
  obtain ⟨close, assign, filmEnd, paperEnd, line, band, proofLine, service, arbitrate, -, first, second⟩ := h
  have noHandOver : firstOf (tryHandOver 0) (tryHandOver 1) (s.modDict f) = none := by
    rw [firstOf_of_none (tryHandOver_modDict f first), tryHandOver_modDict f second]
  rw [reactOnce, firstOf_of_none (tryClose_modDict f close), firstOf_of_none (tryAssign_modDict f assign),
    firstOf_of_none (tryFilmEnd_modDict f filmEnd), firstOf_of_none (tryPaperEnd_modDict f paperEnd),
    firstOf_of_none (tryTakeLine_modDict f line), firstOf_of_none (tryStartBand_modDict f band),
    firstOf_of_none (tryTakeProofLine_modDict f proofLine), firstOf_of_none (tryEndService_modDict f service),
    firstOf_of_none (tryArbitrate_modDict f arbitrate), firstOf_of_last_none noHandOver]

/-- While an operation runs nothing is granted (R74). -/
theorem tryGrant_of_running {s : State} (h : s.dict.running.isSome) : tryGrant s = none := by
  obtain ⟨j, running⟩ := Option.isSome_iff_exists.mp h
  simp [tryGrant, running]

/-- A settled state stays settled when the dictionary begins an operation. -/
theorem settled_modDict_of_running {s : State} (h : s.settled) {f : Dictionary → Dictionary}
    (running : (f s.dict).running.isSome) : (s.modDict f).settled := by
  rw [State.settled, reactOnce_modDict h, tryGrant_of_running (s := s.modDict f) running]
  rfl

/-- One reaction, after which the state is settled. -/
theorem react_once {s t : State} (h : reactOnce s = some t) (settled : t.settled) : react s = t := by
  rw [react, reactBound, reactN, h]
  exact reactN_of_settled _ settled

end Sys2Proof.Machine
end

section
/-! PROOF. The arbiter of the dictionary (O55): what it grants of the work that waits (R74), and a request that is taken in the
event of its presentation (R73, R77). -/

namespace Sys2Proof.Machine

/-! ### What is granted (R74, R82) -/

theorem otherChannel_of_ne {c ch : ChannelId} (h : c ≠ ch) : otherChannel c = ch := by
  revert c ch; decide

theorem otherChannel_ne (c : ChannelId) : otherChannel c ≠ c := by
  revert c; decide

theorem channelGrant_purge {s : State} {p : Purge} (h : s.dict.purge = some p) :
    channelGrant s = some (grantBucket p s) := by
  simp [channelGrant, h]

theorem channelGrant_eq_none {s : State} :
    channelGrant s = none ↔ s.dict.purge = none ∧ ∀ ch, vget s.dict.presented ch = none := by
  cases purge : s.dict.purge with
  | some p => simp [channelGrant, purge]
  | none =>
    have both : (∀ ch, vget s.dict.presented ch = none) ↔
        vget s.dict.presented (otherChannel s.dict.lastChannel) = none ∧
          vget s.dict.presented s.dict.lastChannel = none := by
      refine ⟨fun h => ⟨h _, h _⟩, fun ⟨other, last⟩ ch => ?_⟩
      by_cases e : s.dict.lastChannel = ch
      · exact e ▸ last
      · exact otherChannel_of_ne e ▸ other
    rw [both]
    simp only [channelGrant, purge, true_and]
    split_ifs with other last
    · exact iff_of_false nofun fun ⟨h, _⟩ => by simp [h] at other
    · exact iff_of_false nofun fun ⟨_, h⟩ => by simp [h] at last
    · exact iff_of_true rfl ⟨by simpa using other, by simpa using last⟩

/-- Of two channels that wait the one not granted last is granted. -/
theorem channelGrant_request {s : State} {ch : ChannelId} {r : Request} (purge : s.dict.purge = none)
    (shown : vget s.dict.presented ch = some r)
    (turn : s.dict.lastChannel ≠ ch ∨ ∀ c, c ≠ ch → vget s.dict.presented c = none) :
    channelGrant s = some (grantChannel ch s) := by
  by_cases last : s.dict.lastChannel = ch
  · have other : vget s.dict.presented (otherChannel ch) = none :=
      turn.elim (absurd last) fun alone => alone _ (otherChannel_ne ch)
    simp [channelGrant, purge, last, other, shown]
  · simp [channelGrant, purge, otherChannel_of_ne last, shown]

/-- A channel request is granted when no lookup waits or the lookups were granted last. -/
theorem tryGrant_channel {s t : State} (running : s.dict.running = none) (h : channelGrant s = some t)
    (turn : s.dict.presentedLookup = none ∨ s.dict.lastKind = .composition) : tryGrant s = some t := by
  cases lookup : s.dict.presentedLookup with
  | none => simpa [tryGrant, running, lookup] using h
  | some l => simp [tryGrant, running, lookup, turn.resolve_left (by simp [lookup]), h]

/-- A lookup is granted when no channel work waits or it was granted last. -/
theorem tryGrant_lookup {s : State} {l : Lookup} (running : s.dict.running = none)
    (lookup : s.dict.presentedLookup = some l) (turn : s.dict.lastKind = .channel ∨ channelGrant s = none) :
    tryGrant s = some (grantLookup l s) := by
  cases kind : s.dict.lastKind with
  | channel => simp [tryGrant, running, lookup, kind]
  | composition => simp [tryGrant, running, lookup, kind, turn.resolve_left (by simp [kind])]

/-- Where nothing is granted and nothing runs, no work waits. -/
theorem nothing_waits {s : State} (settled : s.settled) (running : s.dict.running = none) :
    s.dict.presentedLookup = none ∧ s.dict.purge = none ∧ ∀ ch, vget s.dict.presented ch = none := by
  simp only [settled_eq, Bool.and_eq_true, Option.isNone_iff_eq_none] at settled
  obtain ⟨-, -, -, -, -, -, -, -, -, grant, -⟩ := settled
  cases lookup : s.dict.presentedLookup with
  | none => exact ⟨rfl, channelGrant_eq_none.mp (by simpa [tryGrant, running, lookup] using grant)⟩
  | some l =>
    cases kind : s.dict.lastKind with
    | channel => simp [tryGrant, running, lookup, kind] at grant
    | composition => cases work : channelGrant s <;> simp [tryGrant, running, lookup, kind, work] at grant

/-! ### The request that is granted (R77, R82) -/

theorem beginRequest_eq {ch : ChannelId} {r : Request} {s : State} (h : r.code ≠ 0x24 ∨ purgeAllowed r s = false) :
    beginRequest ch r s = setRunning (some (.request ch r s.writeProtect s.codeMap)) s := by
  rw [beginRequest, if_neg]
  rintro ⟨code, allowed⟩
  rcases h with h | h
  · exact h code
  · simp [h] at allowed

theorem grantChannel_eq {ch : ChannelId} {r : Request} {s : State} (h : vget s.dict.presented ch = some r) :
    grantChannel ch s = beginRequest ch r (s.modDict fun d =>
      { d with presented := vset d.presented ch none, lastKind := .channel, lastChannel := ch }) := by
  simp only [grantChannel, h]

/-! ### A request that is taken as it is presented (R73) -/

/-- An operation begins: the state stays settled. -/
theorem settled_beginRequest (ch : ChannelId) (r : Request) {s : State} (h : s.settled) (f : Dictionary → Dictionary) :
    (beginRequest ch r (s.modDict f)).settled := by
  have begun : ∀ g : Dictionary → Dictionary, (g (f s.dict)).running.isSome → ((s.modDict f).modDict g).settled :=
    fun g running => settled_modDict_of_running (f := g ∘ f) h running
  unfold beginRequest
  split
  · exact begun _ rfl
  · exact begun _ rfl

/-- The only work that waits is granted. -/
theorem react_present {s : State} (ch : ChannelId) (r : Request) (settled : s.settled)
    (running : s.dict.running = none) :
    react (present ch r s) =
      beginRequest ch r (s.modDict fun d => { d with lastKind := .channel, lastChannel := ch }) := by
  obtain ⟨lookup, purge, quiet⟩ := nothing_waits settled running
  have shown : vget (present ch r s).dict.presented ch = some r := vget_vset_self ..
  have alone : ∀ c, c ≠ ch → vget (present ch r s).dict.presented c = none := fun c ne =>
    (vget_vset_ne _ _ _ _ ne.symm).trans (quiet c)
  have withdrawn : vset (vset s.dict.presented ch (some r)) ch none = s.dict.presented := by
    rw [vset_vset, ← quiet ch, vset_vget_self]
  have granted : tryGrant (present ch r s) =
      some (beginRequest ch r (s.modDict fun d => { d with lastKind := .channel, lastChannel := ch })) := by
    rw [tryGrant_channel (s := present ch r s) running (channelGrant_request purge shown (.inr alone)) (.inl lookup),
      grantChannel_eq shown]
    simp only [present, State.modDict, withdrawn]
  exact react_once ((reactOnce_modDict settled _).trans granted) (settled_beginRequest ch r settled _)

/-- The dictionary's requests are presented, whatever their code. -/
theorem requestEvent_presented {s : State} {ch : ChannelId} (b : Block) (ready : s.readyFor ch)
    (fits : b.payload.length ≤ 1024) {code : Byte}
    (dictionary : ∀ t, ownerTakes ch { code := code, block := b } t = present ch { code := code, block := b } t) :
    requestEvent code ch b s =
      .next (react (present ch { code := code, block := b } (s.fresh.waits ch { code := code, block := b }))) := by
  rw [requestEvent_ready ready code b fits, dictionary]

/-- From a settled state with no operation running a request is taken as it is presented. -/
theorem requestEvent_taken {s : State} {ch : ChannelId} (b : Block) (ready : s.readyFor ch)
    (fits : b.payload.length ≤ 1024) {code : Byte}
    (dictionary : ∀ t, ownerTakes ch { code := code, block := b } t = present ch { code := code, block := b } t)
    (settled : s.settled) (running : s.dict.running = none) :
    requestEvent code ch b s = .next (beginRequest ch { code := code, block := b }
      ((s.fresh.waits ch { code := code, block := b }).modDict fun d =>
        { d with lastKind := .channel, lastChannel := ch })) := by
  have freshReady : s.fresh.readyFor ch := (State.readyFor_congr rfl).2 ready
  have waiting : (s.fresh.waits ch { code := code, block := b }).settled := by
    rwa [settled_waits freshReady, settled_fresh]
  rw [requestEvent_presented b ready fits dictionary, react_present ch _ waiting running]

/-- Settles O55: each request is presented by its channel; when nothing else waits the arbiter grants it in the same event,
and otherwise it grants by turns. -/
theorem dictionaryWorkIsPresentedAndGranted : Obligations.DictionaryWorkIsPresentedAndGranted := by
  refine ⟨fun s ch b ready fits => ?_, fun s => ?_⟩
  · intro shown taken
    refine ⟨requestEvent_presented b ready fits fun _ => rfl, requestEvent_presented b ready fits fun _ => rfl,
      requestEvent_presented b ready fits fun _ => rfl, requestEvent_presented b ready fits fun _ => rfl,
      requestEvent_presented b ready fits fun _ => rfl, fun settled running => ?_⟩
    have begun : ∀ {code : Byte},
        (∀ t, ownerTakes ch { code := code, block := b } t = present ch { code := code, block := b } t) →
        (code ≠ 0x24 ∨ s.writeProtect = true ∨ 15 < b.target.toNat) →
        requestEvent code ch b s = .next (taken code) := by
      intro code dictionary refused
      have notPurge : code ≠ 0x24 ∨ purgeAllowed { code := code, block := b } s = false := by
        refine refused.imp_right fun refused => ?_
        rcases refused with guarded | desk
        · simp [purgeAllowed, guarded]
        · simp [purgeAllowed, desk]
      rw [requestEvent_taken b ready fits dictionary settled running, beginRequest_eq notPurge]
      rfl
    refine ⟨begun (fun _ => rfl) (.inl (by decide)), begun (fun _ => rfl) (.inl (by decide)),
      begun (fun _ => rfl) (.inl (by decide)), begun (fun _ => rfl) (.inl (by decide)),
      fun refused => begun (fun _ => rfl) (.inr refused), fun unprotected desk => ?_⟩
    have allowed : purgeAllowed { code := 0x24, block := b } s = true := by simp [purgeAllowed, unprotected, desk]
    refine (requestEvent_taken b ready fits (code := 0x24) (fun _ => rfl) settled running).trans ?_
    rw [beginRequest, if_pos ⟨rfl, allowed⟩]
    rfl
  · intro lookup
    refine ⟨tryGrant_of_running, fun l running waits kind => tryGrant_lookup running waits (.inl kind),
      fun l running waits purge quiet => tryGrant_lookup running waits (.inr (channelGrant_eq_none.mpr ⟨purge, quiet⟩)),
      fun p running purge turn => tryGrant_channel running (channelGrant_purge purge) turn,
      fun ch r running purge shown code turn kind => ?_⟩
    rw [tryGrant_channel running (channelGrant_request purge shown turn) kind, grantChannel_eq shown,
      beginRequest_eq (.inl code)]
    rfl

end Sys2Proof.Machine
end

section
/-! PROOF. The operations of the dictionary (O56): what the end of each does to the entries, and with what it completes its
request (R77 to R82). -/

namespace Sys2Proof.Machine

/-! ### The end of a request's operation -/

/-- The operation that runs ends with a completion, and leaves these entries. -/
def EndsDone (s : State) (ch : ChannelId) (r : Request) (c : Completion) (detail : Half)
    (chains : Vector (List Entry) 512) : Prop :=
  exec .dictionaryOperationComplete s = .next (react
    ((s.fresh.modDict fun d => { d with running := none, chains := chains }).posts ch r c detail []))

/-- The operation that runs ends with a refusal, and changes no entry. -/
def EndsRefused (s : State) (ch : ChannelId) (r : Request) (c : Completion) : Prop :=
  exec .dictionaryOperationComplete s = .next (react
    ((s.fresh.modDict fun d => { d with running := none }).refuses ch r c))

theorem exec_operationComplete {s : State} {j : DictJob} (running : s.dict.running = some j) :
    exec .dictionaryOperationComplete s = .next (react (completeOperation s.fresh)) := by
  simp only [exec, execDictionaryOperationComplete, running]
  rfl

section Request

variable {s : State} {ch : ChannelId} {r : Request} {prot : Bool} {m : Vector Byte 96}
  (running : s.dict.running = some (.request ch r prot m)) (handed : s.handed ch r)

include running in
theorem exec_requestComplete :
    exec .dictionaryOperationComplete s = .next (react (completeRequest ch r prot m (setRunning none s.fresh))) := by
  have running' : s.fresh.dict.running = some (.request ch r prot m) := running
  rw [exec_operationComplete running]
  simp only [completeOperation, running']

include running handed

/-- The owner's completion is posted. -/
theorem exec_requestComplete_complete {u : State} {c : Completion} {detail : Half} {bytes : List Byte}
    (channels : u.channels = s.channels)
    (e : completeRequest ch r prot m (setRunning none s.fresh) = complete ch c detail bytes u) :
    exec .dictionaryOperationComplete s = .next (react (u.posts ch r c detail bytes)) := by
  have waits : u.handed ch r := (State.handed_congr (by rw [State.channel, channels, State.channel])).2 handed
  rw [exec_requestComplete running, e, complete_handed waits]

theorem endsDone_of_finish {c : Completion} {n : Nat} {chains : Vector (List Entry) 512}
    (e : completeRequest ch r prot m (setRunning none s.fresh) =
      finish ch c n (setChains chains (setRunning none s.fresh))) : EndsDone s ch r c (BitVec.ofNat 16 n) chains :=
  exec_requestComplete_complete running handed rfl e

/-- A completion that changes no entry. -/
theorem endsDone_of_finish_same {c : Completion} {n : Nat}
    (e : completeRequest ch r prot m (setRunning none s.fresh) = finish ch c n (setRunning none s.fresh)) :
    EndsDone s ch r c (BitVec.ofNat 16 n) s.dict.chains :=
  exec_requestComplete_complete running handed (u := setRunning none s.fresh) rfl e

theorem endsRefused_of_refuse {c : Completion}
    (e : completeRequest ch r prot m (setRunning none s.fresh) = refuse ch c (setRunning none s.fresh)) :
    EndsRefused s ch r c := by
  have waits : (setRunning none s.fresh).handed ch r := (State.handed_congr rfl).2 handed
  rw [EndsRefused, exec_requestComplete running, e, refuse_handed waits]
  rfl

end Request

/-! ### The operation of each code -/

theorem completeRequest_addWords {ch : ChannelId} {r : Request} (code : r.code = 0x20) (prot : Bool)
    (m : Vector Byte 96) (s : State) : completeRequest ch r prot m s = completeAddWords ch r.block prot m s := by
  rw [completeRequest, code]; rfl

theorem completeRequest_amendWord {ch : ChannelId} {r : Request} (code : r.code = 0x21) (prot : Bool)
    (m : Vector Byte 96) (s : State) : completeRequest ch r prot m s = completeAmendWord ch r.block prot m s := by
  rw [completeRequest, code]; rfl

theorem completeRequest_deleteWord {ch : ChannelId} {r : Request} (code : r.code = 0x22) (prot : Bool)
    (m : Vector Byte 96) (s : State) : completeRequest ch r prot m s = completeDeleteWord ch r.block prot m s := by
  rw [completeRequest, code]; rfl

theorem completeRequest_lookUpWord {ch : ChannelId} {r : Request} (code : r.code = 0x23) (prot : Bool)
    (m : Vector Byte 96) (s : State) : completeRequest ch r prot m s = completeLookUpWord ch r.block m s := by
  rw [completeRequest, code]; rfl

theorem completeRequest_purgeDesk {ch : ChannelId} {r : Request} (code : r.code = 0x24) (prot : Bool)
    (m : Vector Byte 96) (s : State) : completeRequest ch r prot m s = completeRefusedPurge ch prot s := by
  rw [completeRequest, code]; rfl

/-- A protected request is refused, whatever it asks (R77). -/
theorem completeRequest_protected {ch : ChannelId} {r : Request} (m : Vector Byte 96) (s : State)
    (code : r.code = 0x20 ∨ r.code = 0x21 ∨ r.code = 0x22 ∨ r.code = 0x24) :
    completeRequest ch r true m s = finish ch .isProtected 0 s := by
  rcases code with code | code | code | code
  · rw [completeRequest_addWords code]; rfl
  · rw [completeRequest_amendWord code]; rfl
  · rw [completeRequest_deleteWord code]; rfl
  · rw [completeRequest_purgeDesk code]; rfl

/-! ### ADD WORDS (R78) -/

section Entries

variable {m : Vector Byte 96} {tag n : Nat} {es : List Entry} {p q : List Byte} {chains left : Vector (List Entry) 512}
  (added : EntriesAdded m tag es p chains q left)

include added

theorem addEntries_all (all : es.length = n) : addEntries m tag n 0 p chains = (.done, es.length, left) := by
  have turn := addEntries_added added 0 0
  simpa only [Nat.zero_add, all, addEntries] using turn

/-- After its first entries a list goes on with the next. -/
theorem addEntries_next (more : es.length < n) :
    ∃ k, addEntries m tag n 0 p chains = addEntries m tag (k + 1) es.length q left := by
  refine ⟨n - es.length - 1, ?_⟩
  have turn := addEntries_added added (n - es.length - 1 + 1) 0
  rwa [show n - es.length - 1 + 1 + es.length = n by omega, Nat.zero_add] at turn

theorem addEntries_malformed (more : es.length < n) (bad : takeEntry m tag q = none) :
    addEntries m tag n 0 p chains = (.badArgument, es.length, left) := by
  obtain ⟨k, next⟩ := addEntries_next added more
  rw [next, addEntries, bad]

theorem addEntries_present {e : Entry} {rest : List Byte} (more : es.length < n)
    (entry : takeEntry m tag q = some (e, rest)) (present : (findEntry e.word left).isSome) :
    addEntries m tag n 0 p chains = (.alreadyExists, es.length, left) := by
  obtain ⟨k, next⟩ := addEntries_next added more
  rw [next, addEntries, entry]
  simp only [present, if_true]

theorem addEntries_full {e : Entry} {rest : List Byte} (more : es.length < n)
    (entry : takeEntry m tag q = some (e, rest)) (new : findEntry e.word left = none) (full : 2048 ≤ entryCount left) :
    addEntries m tag n 0 p chains = (.full, es.length, left) := by
  obtain ⟨k, next⟩ := addEntries_next added more
  rw [next, addEntries, entry]
  simp [new, full]

end Entries

theorem completeAddWords_eq {ch : ChannelId} {b : Block} {m : Vector Byte 96} {s : State} {c : Completion} {n : Nat}
    {left : Vector (List Entry) 512} (desk : b.target.toNat ≤ 15) (count : 2 ≤ b.payload.length)
    (entries : addEntries m b.target.toNat (u16 b.payload 0) 0 (b.payload.drop 2) s.dict.chains = (c, n, left)) :
    completeAddWords ch b false m s = finish ch c n (setChains left s) := by
  rw [completeAddWords, if_neg (by simp), if_neg (by omega)]
  simp only [entries]

theorem completeAddWords_bad {ch : ChannelId} {b : Block} (m : Vector Byte 96) (s : State)
    (bad : 15 < b.target.toNat ∨ b.payload.length < 2) :
    completeAddWords ch b false m s = finish ch .badArgument 0 s := by
  rw [completeAddWords, if_neg (by simp), if_pos bad]

/-! ### AMEND WORD and DELETE WORD (R79, R80) -/

section Words

variable {ch : ChannelId} {b : Block} {m : Vector Byte 96} {s : State}

theorem completeAmendWord_found {e old : Entry} (desk : b.target.toNat ≤ 15)
    (entry : takeEntry m b.target.toNat b.payload = some (e, [])) (found : findEntry e.word s.dict.chains = some old) :
    completeAmendWord ch b false m s = finish ch .done old.tag (setChains (replaceEntry e s.dict.chains) s) := by
  rw [completeAmendWord, if_neg (by simp), if_neg (by omega)]
  simp only [entry, found]

theorem completeAmendWord_absent {e : Entry} (desk : b.target.toNat ≤ 15)
    (entry : takeEntry m b.target.toNat b.payload = some (e, [])) (absent : findEntry e.word s.dict.chains = none) :
    completeAmendWord ch b false m s = refuse ch .notFound s := by
  rw [completeAmendWord, if_neg (by simp), if_neg (by omega)]
  simp only [entry, absent]

theorem completeAmendWord_bad
    (bad : 15 < b.target.toNat ∨ ∀ e, takeEntry m b.target.toNat b.payload ≠ some (e, [])) :
    completeAmendWord ch b false m s = refuse ch .badArgument s := by
  rw [completeAmendWord, if_neg (by simp)]
  split_ifs with desk
  · rfl
  · have malformed := bad.resolve_left desk
    split
    · next e entry => exact absurd entry (malformed e)
    · rfl

theorem completeDeleteWord_found {w : List Nat} {e : Entry} (word : parseWord m b.payload = some w)
    (found : findEntry w s.dict.chains = some e) :
    completeDeleteWord ch b false m s = finish ch .done e.tag (setChains (removeEntry w s.dict.chains) s) := by
  rw [completeDeleteWord, if_neg (by simp)]
  simp only [word, found]

theorem completeDeleteWord_absent {w : List Nat} (word : parseWord m b.payload = some w)
    (absent : findEntry w s.dict.chains = none) : completeDeleteWord ch b false m s = refuse ch .notFound s := by
  rw [completeDeleteWord, if_neg (by simp)]
  simp only [word, absent]

theorem completeDeleteWord_bad (bad : parseWord m b.payload = none) :
    completeDeleteWord ch b false m s = refuse ch .badArgument s := by
  rw [completeDeleteWord, if_neg (by simp)]
  simp only [bad]

/-! ### LOOK UP WORD (R81) -/

/-- The reply of a lookup (10.7). -/
def lookupReply (w : List Nat) (chains : Vector (List Entry) 512) : List Byte :=
  ((findEntry w chains).map fun e => entryReply e chains).getD (lookupHead w chains)

theorem completeLookUpWord_eq {w : List Nat} (word : parseWord m b.payload = some w) :
    completeLookUpWord ch b m s =
      complete ch (if (findEntry w s.dict.chains).isSome then .done else .notFound)
        (BitVec.ofNat 16 (bucketOf w).val) (lookupReply w s.dict.chains) s := by
  simp only [completeLookUpWord, word, lookupReply]
  cases findEntry w s.dict.chains <;> rfl

theorem completeLookUpWord_bad (bad : parseWord m b.payload = none) :
    completeLookUpWord ch b m s = finish ch .badArgument 0 s := by
  simp only [completeLookUpWord, bad]

end Words

/-- The first entry of a word in its chain is the one found, and its place is one after those before it. -/
theorem findEntry_of_split {w : List Nat} {chains : Vector (List Entry) 512} {before after : List Entry} {e : Entry}
    (chain : vget chains (bucketOf w) = before ++ e :: after) (word : e.word = w) (first : ∀ x ∈ before, x.word ≠ w) :
    findEntry w chains = some e ∧ chainPlace w chains = before.length + 1 := by
  have none_ : before.find? (fun x => x.word == w) = none := by simpa [List.find?_eq_none] using first
  have noIndex : before.findIdx? (fun x => x.word == w) = none := by simpa [List.findIdx?_eq_none_iff] using first
  constructor
  · simp [findEntry, chainOf, chain, List.find?_append, none_, word]
  · simp [chainPlace, chainOf, chain, List.findIdx?_append, noIndex, List.findIdx?_cons, word]

/-! ### The bucket operations of a purge (R82) -/

/-- What a bucket operation removes is what its bucket has of the tag. -/
theorem length_sub_filter_tag (l : List Entry) (tag : Nat) :
    l.length - (l.filter fun e => e.tag != tag).length = (l.filter fun e => e.tag == tag).length := by
  have parts := List.length_eq_length_filter_add (l := l) fun e => e.tag == tag
  simp only [bne]
  omega

theorem exec_bucketComplete {s : State} {p : Purge} (running : s.dict.running = some .bucket)
    (purge : s.dict.purge = some p) :
    exec .dictionaryOperationComplete s = .next (react (completeBucket p (setRunning none s.fresh))) := by
  have running' : s.fresh.dict.running = some .bucket := running
  have purge' : s.fresh.dict.purge = some p := purge
  rw [exec_operationComplete running]
  simp only [completeOperation, running', purge']

theorem Purge.bucket_eq {p : Purge} (h : p.next < 512) : p.bucket = ⟨p.next, h⟩ :=
  Fin.ext (Nat.mod_eq_of_lt h)

/-! ### The bucket of a word (R70) -/

theorem bucketOf_eq (w : List Nat) :
    (bucketOf w).val = ((List.range w.length).map fun i => (i + 1) * w.getD i 0).sum % 512 := by
  have terms : ((w.zipIdx 1).map fun x => x.2 * x.1) = (List.range w.length).map fun i => (i + 1) * w.getD i 0 := by
    refine List.ext_getElem (by simp) fun i lt _ => ?_
    have within : i < w.length := by simpa using lt
    simp [within, Nat.add_comm]
  exact congrArg (fun l => l.sum % 512) terms

/-! ### The obligation -/

section Clauses

variable {s : State} {ch : ChannelId} {r : Request} {m : Vector Byte 96}
  (running : s.dict.running = some (.request ch r false m)) (handed : s.handed ch r)

include running handed

/-- An ADD WORDS that is laid out as it should be ends as its list of entries does (R78). -/
theorem endsDone_addWords {c : Completion} {n : Nat} {left : Vector (List Entry) 512} (code : r.code = 0x20)
    (desk : r.block.target.toNat ≤ 15) (count : 2 ≤ r.block.payload.length)
    (entries : addEntries m r.block.target.toNat (u16 r.block.payload 0) 0 (r.block.payload.drop 2) s.dict.chains =
      (c, n, left)) : EndsDone s ch r c (BitVec.ofNat 16 n) left :=
  endsDone_of_finish running handed
    ((completeRequest_addWords code ..).trans (completeAddWords_eq desk count entries))

theorem endsDone_addWords_bad (code : r.code = 0x20)
    (bad : 15 < r.block.target.toNat ∨ r.block.payload.length < 2) :
    EndsDone s ch r .badArgument 0 s.dict.chains :=
  endsDone_of_finish_same running handed
    ((completeRequest_addWords code ..).trans (completeAddWords_bad _ _ bad))

/-- The clauses of a list of entries, its first entries added (R78). -/
theorem endsDone_addWords_list {added : List Entry} {q : List Byte} {left : Vector (List Entry) 512}
    (code : r.code = 0x20) (desk : r.block.target.toNat ≤ 15) (count : 2 ≤ r.block.payload.length)
    (first : EntriesAdded m r.block.target.toNat added (r.block.payload.drop 2) s.dict.chains q left) :
    (added.length = u16 r.block.payload 0 → EndsDone s ch r .done (BitVec.ofNat 16 added.length) left) ∧
    (added.length < u16 r.block.payload 0 → takeEntry m r.block.target.toNat q = none →
      EndsDone s ch r .badArgument (BitVec.ofNat 16 added.length) left) ∧
    ∀ e rest, added.length < u16 r.block.payload 0 → takeEntry m r.block.target.toNat q = some (e, rest) →
      ((findEntry e.word left).isSome → EndsDone s ch r .alreadyExists (BitVec.ofNat 16 added.length) left) ∧
      (findEntry e.word left = none → 2048 ≤ entryCount left →
        EndsDone s ch r .full (BitVec.ofNat 16 added.length) left) := by
  have ends := fun {c n left} => endsDone_addWords running handed (c := c) (n := n) (left := left) code desk count
  exact ⟨fun all => ends (addEntries_all first all), fun more bad => ends (addEntries_malformed first more bad),
    fun e rest more entry => ⟨fun present => ends (addEntries_present first more entry present),
      fun new full => ends (addEntries_full first more entry new full)⟩⟩

/-- The clauses of a list of one entry. -/
theorem endsDone_addWords_one {e : Entry} {rest : List Byte} (code : r.code = 0x20)
    (desk : r.block.target.toNat ≤ 15) (count : 2 ≤ r.block.payload.length) (one : u16 r.block.payload 0 = 1)
    (entry : takeEntry m r.block.target.toNat (r.block.payload.drop 2) = some (e, rest)) :
    ((findEntry e.word s.dict.chains).isSome → EndsDone s ch r .alreadyExists 0 s.dict.chains) ∧
    (findEntry e.word s.dict.chains = none → 2048 ≤ entryCount s.dict.chains →
      EndsDone s ch r .full 0 s.dict.chains) ∧
    (findEntry e.word s.dict.chains = none → entryCount s.dict.chains < 2048 →
      EndsDone s ch r .done 1 (insertEntry e s.dict.chains)) := by
  obtain ⟨-, -, refusals⟩ := endsDone_addWords_list running handed (added := []) code desk count ⟨rfl, rfl⟩
  obtain ⟨present, full⟩ := refusals e rest (by simp [one]) entry
  refine ⟨present, full, fun new room => ?_⟩
  have added : EntriesAdded m r.block.target.toNat [e] (r.block.payload.drop 2) s.dict.chains rest
      (insertEntry e s.dict.chains) := ⟨rest, entry, new, room, rfl, rfl⟩
  exact (endsDone_addWords_list running handed code desk count added).1 one.symm

theorem endsDone_amendWord {e old : Entry} (code : r.code = 0x21) (desk : r.block.target.toNat ≤ 15)
    (entry : takeEntry m r.block.target.toNat r.block.payload = some (e, []))
    (found : findEntry e.word s.dict.chains = some old) :
    EndsDone s ch r .done (BitVec.ofNat 16 old.tag) (replaceEntry e s.dict.chains) :=
  endsDone_of_finish running handed
    ((completeRequest_amendWord code ..).trans (completeAmendWord_found desk entry found))

theorem endsRefused_amendWord_absent {e : Entry} (code : r.code = 0x21) (desk : r.block.target.toNat ≤ 15)
    (entry : takeEntry m r.block.target.toNat r.block.payload = some (e, []))
    (absent : findEntry e.word s.dict.chains = none) : EndsRefused s ch r .notFound :=
  endsRefused_of_refuse running handed
    ((completeRequest_amendWord code ..).trans (completeAmendWord_absent desk entry absent))

theorem endsRefused_amendWord_bad (code : r.code = 0x21)
    (bad : 15 < r.block.target.toNat ∨ ∀ e, takeEntry m r.block.target.toNat r.block.payload ≠ some (e, [])) :
    EndsRefused s ch r .badArgument :=
  endsRefused_of_refuse running handed ((completeRequest_amendWord code ..).trans (completeAmendWord_bad bad))

theorem endsRefused_purgeDesk (code : r.code = 0x24) : EndsRefused s ch r .badArgument :=
  endsRefused_of_refuse running handed (completeRequest_purgeDesk code ..)

theorem endsDone_deleteWord {w : List Nat} {e : Entry} (code : r.code = 0x22)
    (word : parseWord m r.block.payload = some w) (found : findEntry w s.dict.chains = some e) :
    EndsDone s ch r .done (BitVec.ofNat 16 e.tag) (removeEntry w s.dict.chains) :=
  endsDone_of_finish running handed
    ((completeRequest_deleteWord code ..).trans (completeDeleteWord_found word found))

theorem endsRefused_deleteWord_absent {w : List Nat} (code : r.code = 0x22)
    (word : parseWord m r.block.payload = some w) (absent : findEntry w s.dict.chains = none) :
    EndsRefused s ch r .notFound :=
  endsRefused_of_refuse running handed
    ((completeRequest_deleteWord code ..).trans (completeDeleteWord_absent word absent))

theorem endsRefused_deleteWord_bad (code : r.code = 0x22) (bad : parseWord m r.block.payload = none) :
    EndsRefused s ch r .badArgument :=
  endsRefused_of_refuse running handed ((completeRequest_deleteWord code ..).trans (completeDeleteWord_bad bad))

end Clauses

/-- The reply of a found entry, from its place in the chain (10.7). -/
theorem lookupReply_of_split {w : List Nat} {chains : Vector (List Entry) 512} {before after : List Entry} {e : Entry}
    (chain : vget chains (bucketOf w) = before ++ e :: after) (word : e.word = w) (first : ∀ x ∈ before, x.word ≠ w) :
    lookupReply w chains = lookupHead w chains ++ le16 (before.length + 1) ++
      [byteOf e.kind.toNat, byteOf e.tag, byteOf w.length] ++ w.map byteOf ++ positionsBytes e.positions := by
  obtain ⟨found, place⟩ := findEntry_of_split chain word first
  rw [lookupReply, found, Option.map_some, Option.getD_some, entryReply, word, place]

/-- A bucket operation before the last (R82). -/
theorem completeBucket_more {p : Purge} (more : p.next < 511) (s : State) :
    completeBucket p s = s.modDict fun d => { d with
      chains := vset d.chains ⟨p.next, by omega⟩ ((vget d.chains ⟨p.next, by omega⟩).filter fun e => e.tag != p.tag)
      purge := some { p with
        next := p.next + 1
        removed := p.removed + ((vget d.chains ⟨p.next, by omega⟩).filter fun e => e.tag == p.tag).length } } := by
  unfold completeBucket
  dsimp only
  rw [if_neg (by omega), Purge.bucket_eq (by omega), length_sub_filter_tag]
  rfl

/-- The last bucket operation completes the purge (R82). -/
theorem completeBucket_last {p : Purge} (last : p.next = 511) {s : State} {r : Request} (handed : s.handed p.channel r) :
    completeBucket p s = (s.modDict fun d => { d with
      purge := none, chains := vset d.chains 511 ((vget d.chains 511).filter fun e => e.tag != p.tag) }).posts
        p.channel r .done
        (BitVec.ofNat 16 (p.removed + ((vget s.dict.chains 511).filter fun e => e.tag == p.tag).length)) [] := by
  have bucket : p.bucket = 511 := Fin.ext (by simp [Purge.bucket, last])
  unfold completeBucket
  dsimp only
  rw [if_pos (by omega), bucket, length_sub_filter_tag, finish_handed (q := r)]
  · rfl
  · exact (State.handed_congr rfl).2 handed

/-- Settles O56: the end of each operation by the code of its request, and of each bucket operation of a purge. -/
theorem dictionaryOperationsHaveTheirEffect : Obligations.DictionaryOperationsHaveTheirEffect := by
  refine ⟨?_, ?_, ?_, ?_, ?_, bucketOf_eq⟩
  · intro s ch r m running handed code
    exact endsDone_of_finish_same running handed (completeRequest_protected m _ code)
  · intro s ch r m running handed p chains becomes refused
    refine ⟨fun e rest code desk count one entry => endsDone_addWords_one running handed code desk count one entry,
      fun code desk => endsDone_addWords_bad running handed code (.inl desk),
      fun code short => endsDone_addWords_bad running handed code (.inr short),
      fun added q left code desk count first => endsDone_addWords_list running handed code desk count first,
      fun _ => exists_entriesAdded ..,
      fun e old code desk entry found => endsDone_amendWord running handed code desk entry found,
      fun e code desk entry absent => endsRefused_amendWord_absent running handed code desk entry absent,
      fun code desk => endsRefused_amendWord_bad running handed code (.inl desk),
      fun code bad => endsRefused_amendWord_bad running handed code (.inr bad),
      fun code _ => endsRefused_purgeDesk running handed code,
      fun w e code word found => endsDone_deleteWord running handed code word found,
      fun w code word absent => endsRefused_deleteWord_absent running handed code word absent,
      fun code bad => endsRefused_deleteWord_bad running handed code bad⟩
  · intro s ch r prot m w running handed code word
    refine ⟨lookupReply w s.dict.chains, ?_, fun absent => ?_, fun before e after chain same first => ?_⟩
    · refine exec_requestComplete_complete running handed (u := setRunning none s.fresh) rfl ?_
      rw [completeRequest_lookUpWord code, completeLookUpWord_eq word]
      rfl
    · rw [lookupReply, absent]
      rfl
    · rw [lookupReply_of_split chain same first]
      cases e.kind <;> rfl
  · intro s ch r prot m running handed code bad
    refine endsDone_of_finish_same running handed ?_
    rw [completeRequest_lookUpWord code, completeLookUpWord_bad bad]
  · intro s p running purge
    refine ⟨fun more => ?_, fun r last handed => ?_⟩
    · rw [exec_bucketComplete running purge, completeBucket_more more]
      rfl
    · have waits : (setRunning none s.fresh).handed p.channel r := (State.handed_congr rfl).2 handed
      rw [exec_bucketComplete running purge, completeBucket_last last waits]
      rfl

end Sys2Proof.Machine
end

section
/-! PROOF. The requests that owners hold (O11). DETACHED_MARK_CLEAR judges by `State.ownerHolds` (R172, log 10), which does
not look at the requests presented to the dictionary; `State.heldBy` counts them (R73). A channel reset withdraws such a
request instead of detaching it (`detach`), but `HeldOnce` and `ChannelConsistent` do not exclude a detached channel with
one, and from such a state the step below leads out of `HeldOnce`. -/

namespace Sys2Proof.Machine

/-- The dictionary holds a request presented to it until it takes it (R73). -/
theorem State.mem_heldBy_of_presented {s : State} {ch : ChannelId} (presented : (vget s.dict.presented ch).isSome) :
    ch ∈ s.heldBy := by
  simp [State.heldBy, presented]

/-- The channel's detached mark is cleared (R172). -/
def State.clearsMark (ch : ChannelId) (s : State) : State := s.modChannel ch fun k => { k with detached := false }

theorem exec_detachedMarkClear {s : State} {ch : ChannelId} (detached : (s.channel ch).detached = true)
    (unheld : s.ownerHolds ch = false) : exec (.detachedMarkClear ch) s = .next (react (s.fresh.clearsMark ch)) := by
  have arises : ((s.channel ch).detached && !s.ownerHolds ch) = true := by rw [detached, unheld]; rfl
  show eventReact _ _ s = _
  rw [arises, eventReact_true]
  rfl

/-- Without its mark, a channel that waits for no request may have none presented. -/
theorem not_heldOnce_clearsMark {s : State} {ch : ChannelId} (presented : (vget s.dict.presented ch).isSome)
    (idle : (s.channel ch).state ≠ .waiting) : ¬ HeldOnce (s.clearsMark ch) := by
  rintro ⟨-, waits⟩
  have kept : (s.clearsMark ch).channel ch = { s.channel ch with detached := false } := vget_vset_self _ _ _
  rcases waits ch (State.mem_heldBy_of_presented (s := s.clearsMark ch) presented) with waiting | detached
  · rw [kept] at waiting
    exact idle waiting
  · rw [kept] at detached
    exact Bool.false_ne_true detached

/-- A LOOK UP WORD with an empty payload. -/
def emptyLookUp : Request :=
  { code := 0x23
    block := { link := 0, statusAddr := 0, replyAddr := 0, replyCap := 0, flags := 0, target := 0, payload := [] } }

/-- The dictionary finishes a lookup that is no longer wanted, while a request of CH0 waits for its arbiter. -/
def lookUpPresented (d : Dictionary) : Dictionary :=
  { d with presented := vset d.presented 0 (some emptyLookUp), running := some (.lookup [1, 2] false) }

/-- After power-on: CH0 is IDLE with its detached mark set and a request presented to the dictionary, and the command that
clears the mark is at the front of the queue. -/
def presentedDetached : State :=
  ((State.powerOn 0 [.detachedMarkClear 0] 0).modDict lookUpPresented).modChannel 0 fun k => { k with detached := true }

theorem channelConsistent_presentedDetached (ch : ChannelId) : ChannelConsistent (presentedDetached.channel ch) := by
  revert ch
  unfold ChannelConsistent
  decide +kernel

theorem heldOnce_presentedDetached : HeldOnce presentedDetached := by
  unfold HeldOnce
  decide +kernel

/-- The state after the command, before anything that follows of itself. -/
def presentedUnmarked : State := { presentedDetached with pending := [] }.fresh.clearsMark 0

/-- Nothing follows of itself: the dictionary is busy, so it grants nothing (R74). -/
theorem settled_presentedUnmarked : presentedUnmarked.settled := by
  have busy : ((State.powerOn 0 [] 0).modDict lookUpPresented).settled :=
    settled_modDict_of_running (settled_powerOn 0 [] 0) rfl
  have same : presentedUnmarked.settled = ((State.powerOn 0 [] 0).modDict lookUpPresented).settled :=
    settled_of_fields (fun _ => rfl) rfl rfl rfl rfl rfl rfl (by decide +kernel)
  exact same.trans busy

/-- The mark is cleared, since no owner that `State.ownerHolds` looks at holds a request of CH0. -/
theorem step_presentedDetached : step presentedDetached = .next presentedUnmarked := by
  have unheld : { presentedDetached with pending := [] }.ownerHolds 0 = false := by decide +kernel
  have cleared : step presentedDetached = .next (react presentedUnmarked) := exec_detachedMarkClear rfl unheld
  rw [cleared, react_of_settled settled_presentedUnmarked]

theorem not_heldOnce_presentedUnmarked : ¬ HeldOnce presentedUnmarked :=
  not_heldOnce_clearsMark rfl fun waiting => nomatch waiting

/-- Refutes O11, by its first half: in `presentedDetached` DETACHED_MARK_CLEAR clears the mark of CH0 while the dictionary
still has a request of it, which then waits no more and has no mark. -/
theorem not_everyStepKeepsHeldRequestsAndLineLists : ¬ Obligations.EveryStepKeepsHeldRequestsAndLineLists := by
  rintro ⟨heldRequestsKept, -⟩
  exact not_heldOnce_presentedUnmarked
    (heldRequestsKept presentedDetached presentedUnmarked channelConsistent_presentedDetached
      heldOnce_presentedDetached step_presentedDetached)

end Sys2Proof.Machine
end

section
/-! SUPPORT. What leaves the Photo Unit alone: the operations of the other blocks, one lemma each. -/

namespace Sys2Proof.Machine

@[simp] theorem photo_addSticky (s : State) (g : GalleyId) (f : Half) : (s.addSticky g f).photo = s.photo := rfl
@[simp] theorem photo_modBuilder (s : State) (g : GalleyId) (f : Builder → Builder) :
    (s.modBuilder g f).photo = s.photo := rfl
@[simp] theorem photo_setConditioned (bit : Nat) (level : Bool) (s : State) :
    (s.setConditioned bit level).photo = s.photo := rfl
@[simp] theorem photo_verifyAt (q : Station) (code : BitVec 4) (s : State) : (verifyAt q code s).photo = s.photo := by
  simp only [verifyAt]
@[simp] theorem photo_unverifyAll (s : State) : (unverifyAll s).photo = s.photo := by
  simp only [unverifyAll]

/-! ### Completions and terminations -/

@[simp] theorem photo_complete (ch : ChannelId) (c : Completion) (detail : Half) (bytes : List Byte) (s : State) :
    (complete ch c detail bytes s).photo = s.photo := by rw [complete_eq]; rfl
@[simp] theorem photo_completeUnstated (ch : ChannelId) (c : Completion) (s : State) :
    (completeUnstated ch c s).photo = s.photo := by simp [completeUnstated]
@[simp] theorem photo_refuse (ch : ChannelId) (c : Completion) (s : State) : (refuse ch c s).photo = s.photo :=
  photo_completeUnstated ch c s
@[simp] theorem photo_finish (ch : ChannelId) (c : Completion) (n : Nat) (s : State) :
    (finish ch c n s).photo = s.photo := photo_complete ..
@[simp] theorem photo_reply (ch : ChannelId) (n : Nat) (bytes : List Byte) (s : State) :
    (reply ch n bytes s).photo = s.photo := by simp [reply]
@[simp] theorem photo_terminate (ch : ChannelId) (code : BitVec 3) (s : State) :
    (terminate ch code s).photo = s.photo := rfl

/-! ### The Font Catalogue -/

@[simp] theorem photo_takeLoadFont (ch : ChannelId) (b : Block) (s : State) : (takeLoadFont ch b s).photo = s.photo := by
  unfold takeLoadFont; dsimp only; (repeat' split) <;> simp
@[simp] theorem photo_takeAmendFont (ch : ChannelId) (b : Block) (s : State) :
    (takeAmendFont ch b s).photo = s.photo := by
  unfold takeAmendFont; dsimp only; (repeat' split) <;> simp [applyAmend]
theorem photo_takePlaceFont (ch : ChannelId) (b : Block) (s : State) :
    (takePlaceFont ch b s).1.photo = s.photo := by
  unfold takePlaceFont; (repeat' split) <;> simp
@[simp] theorem photo_takeRetireFont (ch : ChannelId) (b : Block) (s : State) :
    (takeRetireFont ch b s).photo = s.photo := by
  unfold takeRetireFont; dsimp only; (repeat' split) <;> simp
@[simp] theorem photo_takeQueryFont (ch : ChannelId) (b : Block) (s : State) :
    (takeQueryFont ch b s).photo = s.photo := by
  unfold takeQueryFont; (repeat' split) <;> simp

/-! ### The galleys and the Composition Engine -/

@[simp] theorem photo_serveWaiting (g : GalleyId) (s : State) : (serveWaiting g s).photo = s.photo := by
  unfold serveWaiting; rw [(serveTexts_frame ..).1]
@[simp] theorem photo_takeItem (g : GalleyId) (i : Item) (rest : List Byte) (s : State) :
    (takeItem g i rest s).photo = s.photo := by
  obtain ⟨y, c, x, e, st, only⟩ := applyItem_only g i (s.modGalley g fun x => { x with buffer := rest })
  rw [takeItem, photo_serveWaiting, only]; rfl
@[simp] theorem photo_commit (g : GalleyId) (e : LineEnd) (s : State) : (commit g e s).photo = s.photo := by
  obtain ⟨y, c, x, e, st, only⟩ := (ItemTaken.commit (g := g) e s).only
  rw [only]
@[simp] theorem photo_settle (g : GalleyId) (s : State) : (settle g s).photo = s.photo := by
  unfold settle; dsimp only; (repeat' split) <;> simp [presentLookup, breakSearch]
@[simp] theorem photo_takeOpenGalley (ch : ChannelId) (b : Block) (s : State) :
    (takeOpenGalley ch b s).photo = s.photo := by
  unfold takeOpenGalley; (repeat' split) <;> simp [joinQueues, raiseCurrent]
@[simp] theorem photo_takeSetText (ch : ChannelId) (b : Block) (s : State) : (takeSetText ch b s).photo = s.photo := by
  unfold takeSetText; (repeat' split) <;> simp
@[simp] theorem photo_takeSetPriority (ch : ChannelId) (b : Block) (s : State) :
    (takeSetPriority ch b s).photo = s.photo := by
  unfold takeSetPriority; (repeat' split) <;> simp
@[simp] theorem photo_closeGalley (g : GalleyId) (s : State) : (closeGalley g s).photo = s.photo :=
  (recordsOnly_closeGalley g s).photo
@[simp] theorem photo_closeAtOnce (g : GalleyId) (s : State) : (closeAtOnce g s).photo = s.photo := by
  unfold closeAtOnce; split <;> simp
@[simp] theorem photo_modLine (i : LineSlot) (f : LineRecord → LineRecord) (s : State) :
    (modLine i f s).photo = s.photo := rfl
theorem LinesOnly.photo {s t : State} (h : LinesOnly s t) : t.photo = s.photo := by rw [h]
theorem photo_discardLines (is : List LineSlot) (s : State) : (discardLines is s).1.photo = s.photo := by
  induction is generalizing s with
  | nil => rfl
  | cons i is ih => exact (ih _).trans (linesDiscarded_discardLine i s).1.only.photo
theorem photo_cancelGalley (g : GalleyId) (s : State) : (cancelGalley g s).1.photo = s.photo := by
  obtain ⟨y, c, start⟩ := cancelStart_only g s
  simp only [cancelGalley, leaveQueues, State.modStore_photo, photo_discardLines]
  exact (congrArg State.photo start).trans rfl
@[simp] theorem photo_takeCancelGalley (ch : ChannelId) (b : Block) (s : State) :
    (takeCancelGalley ch b s).photo = s.photo := by
  unfold takeCancelGalley
  split
  · simp
  · next g _ => split <;> simp [photo_cancelGalley g s]
@[simp] theorem photo_takeQueryGalley (ch : ChannelId) (b : Block) (s : State) :
    (takeQueryGalley ch b s).photo = s.photo := by
  unfold takeQueryGalley; split <;> simp

@[simp] theorem photo_lineDone (l : LineWork) (s : State) : (lineDone l s).photo = s.photo :=
  (linesOnly_filmDone l.slot (setWork .none s)).photo

/-! ### The Exception Dictionary -/

@[simp] theorem photo_setChains (c : Vector (List Entry) 512) (s : State) : (setChains c s).photo = s.photo := rfl
theorem photo_beginRequest (ch : ChannelId) (r : Request) (s : State) : (beginRequest ch r s).photo = s.photo := by
  unfold beginRequest; split <;> simp [setRunning]
theorem photo_grantChannel (ch : ChannelId) (s : State) : (grantChannel ch s).photo = s.photo := by
  unfold grantChannel; split <;> simp [photo_beginRequest]
theorem photo_channelGrant {s t : State} (h : channelGrant s = some t) : t.photo = s.photo := by
  unfold channelGrant at h
  dsimp only at h
  (repeat' split at h) <;> cases h <;> simp [grantBucket, photo_grantChannel]
theorem photo_tryGrant {s t : State} (h : tryGrant s = some t) : t.photo = s.photo := by
  unfold tryGrant at h
  split at h
  · cases h
  · exact photo_channelGrant h
  · split at h
    · cases h; simp [grantLookup]
    · cases e : channelGrant s with
      | none => rw [e] at h; cases h; simp [grantLookup]
      | some u => rw [e] at h; cases h; exact photo_channelGrant e
theorem photo_completeRequest (ch : ChannelId) (r : Request) (prot : Bool) (m : Vector Byte 96) (s : State) :
    (completeRequest ch r prot m s).photo = s.photo := by
  unfold completeRequest
  split
  · unfold completeAddWords; (repeat' split) <;> simp
  · unfold completeAmendWord; (repeat' split) <;> simp
  · unfold completeDeleteWord; (repeat' split) <;> simp
  · unfold completeLookUpWord; dsimp only; (repeat' split) <;> simp
  · unfold completeRefusedPurge; split <;> simp
@[simp] theorem photo_completeOperation (s : State) : (completeOperation s).photo = s.photo := by
  unfold completeOperation
  (repeat' split) <;> simp [setRunning, photo_completeRequest]
  · unfold deliverAnswer; split <;> simp [breakSearch]
  · unfold completeBucket; dsimp only; split <;> simp

/-! ### The Proof Generator -/

@[simp] theorem photo_startPort (w : PortWork) (s : State) : (startPort w s).photo = s.photo := by
  rw [startPort_eq]
theorem photo_feedTransfer (s : State) : (feedTransfer s).photo = s.photo := by
  unfold feedTransfer; dsimp only; split <;> simp
@[simp] theorem photo_freeIfDone (i : LineSlot) (s : State) : (freeIfDone i s).photo = s.photo :=
  (linesOnly_freeIfDone i s).photo
theorem photo_sendTransfer (i : Fin 2) (b : Band) (s : State) : (sendTransfer i b s).photo = s.photo := by
  unfold sendTransfer; dsimp only
  (repeat' split) <;> simp [strobe, bandEnd, proofDone, setBuffer]
@[simp] theorem photo_transfer (s : State) : (transfer s).photo = s.photo := by
  unfold transfer; (repeat' split) <;> simp [photo_feedTransfer, photo_sendTransfer]
@[simp] theorem photo_paperFell (s : State) : (paperFell s).photo = s.photo := by
  unfold paperFell; split <;> simp
@[simp] theorem photo_paperRose (s : State) : (paperRose s).photo = s.photo := by
  unfold paperRose; split <;> simp
@[simp] theorem photo_takeLoadCells (ch : ChannelId) (b : Block) (s : State) :
    (takeLoadCells ch b s).photo = s.photo := by
  unfold takeLoadCells; (repeat' split) <;> simp [replaceCells]

/-! ### The channels and the configuration space -/

@[simp] theorem photo_postingEnds (ch : ChannelId) (p : Posting) (fault : Option Nat) (s : State) :
    (postingEnds ch p fault s).photo = s.photo := by
  unfold postingEnds
  split
  · simp [recordPosting]
  · unfold chainNext; dsimp only; (repeat' split) <;> simp [recordPosting]
@[simp] theorem photo_resetChannel (ch : ChannelId) (s : State) : (resetChannel ch s).photo = s.photo := by
  have detached : (detach ch s).photo = s.photo := by unfold detach; (repeat' split) <;> simp
  unfold resetChannel abandonPosting; split <;> simp [detached]
@[simp] theorem photo_startChannel (ch : ChannelId) (stopBit : Bool) (s : State) :
    (startChannel ch stopBit s).photo = s.photo := by
  unfold startChannel; dsimp only; (repeat' split) <;> rfl
@[simp] theorem photo_stopChannel (ch : ChannelId) (s : State) : (stopChannel ch s).photo = s.photo := by
  unfold stopChannel; split <;> rfl
@[simp] theorem photo_refuseWrite (code : BitVec 7) (s : State) : (refuseWrite code s).photo = s.photo := rfl
@[simp] theorem photo_acceptWrite (v : Byte) (s : State) : (acceptWrite v s).photo = s.photo := by
  simp [acceptWrite, storeEntry]
@[simp] theorem photo_writeTNomHigh (v : Byte) (s : State) : (writeTNomHigh v s).photo = s.photo := by
  unfold writeTNomHigh; dsimp only; split <;> simp [storeEntry]
@[simp] theorem photo_writeQuiescent (v : Byte) (s : State) : (writeQuiescent v s).photo = s.photo := by
  unfold writeQuiescent; split <;> simp only [photo_acceptWrite, photo_refuseWrite]
@[simp] theorem photo_writeStationMap (v : Byte) (s : State) : (writeStationMap v s).photo = s.photo := by
  unfold writeStationMap; split <;> simp [storeEntry]

/-! ### Film Transport and Exposure Control's own record -/

@[simp] theorem photo_setWork (w : ExposureWork) (s : State) : (setWork w s).photo = s.photo := rfl
@[simp] theorem photo_setStep (l : LineWork) (st : LineStep) (s : State) : (setStep l st s).photo = s.photo := rfl
@[simp] theorem photo_stopFilm (s : State) : (stopFilm s).photo = s.photo := rfl
@[simp] theorem photo_startFilm (forward : Bool) (n : Nat) (s : State) : (startFilm forward n s).photo = s.photo := rfl
@[simp] theorem photo_judgeLow (s : State) : (judgeLow s).photo = s.photo := by
  unfold judgeLow; split <;> simp
@[simp] theorem photo_moveFilm (m : FilmMove) (s : State) : (moveFilm m s).photo = s.photo := by
  unfold moveFilm
  simp only [apply_ite State.photo, photo_judgeLow, State.pulse_photo, State.modFilm_photo, ite_self]
@[simp] theorem photo_noteRemaining (m : FilmMove) (s : State) : (noteRemaining m s).photo = s.photo := by
  unfold noteRemaining; split <;> simp
@[simp] theorem photo_startCut (work : CutPhase → ExposureWork) (s : State) : (startCut work s).photo = s.photo := by
  unfold startCut; split <;> simp
@[simp] theorem photo_endFreeMove (ch : ChannelId) (c : Completion) (n : Nat) (s : State) :
    (endFreeMove ch c n s).photo = s.photo := by
  unfold endFreeMove applyDeferred; dsimp only; (repeat' split) <;> simp [setFilmFigures]
@[simp] theorem photo_cutterFell (s : State) : (cutterFell s).photo = s.photo := by
  unfold cutterFell; split <;> simp
@[simp] theorem photo_cutterRose (s : State) : (cutterRose s).photo = s.photo := by
  unfold cutterRose; split <;> simp [setGalleyStart]
@[simp] theorem photo_takeLoadCassette (ch : ChannelId) (b : Block) (s : State) :
    (takeLoadCassette ch b s).photo = s.photo := by
  unfold takeLoadCassette loadCassette; dsimp only; (repeat' split) <;> simp
@[simp] theorem photo_takeAdvanceFilm (ch : ChannelId) (b : Block) (s : State) :
    (takeAdvanceFilm ch b s).photo = s.photo := by
  unfold takeAdvanceFilm; dsimp only; (repeat' split) <;> simp
@[simp] theorem photo_takeCutFilm (ch : ChannelId) (s : State) : (takeCutFilm ch s).photo = s.photo := by
  unfold takeCutFilm; (repeat' split) <;> simp

/-! ### The reactions of the other blocks -/

theorem photo_tryClose {s t : State} (h : tryClose s = some t) : t.photo = s.photo := by
  obtain ⟨g, -, rfl⟩ := Option.map_eq_some_iff.1 h
  exact photo_closeGalley g s
theorem photo_tryAssign {s t : State} (h : tryAssign s = some t) : t.photo = s.photo := by
  unfold tryAssign at h
  split at h
  · cases h; split <;> simp [assignFilm_eq, assignPaper]
  · obtain ⟨g, -, rfl⟩ := Option.map_eq_some_iff.1 h; simp [assignPaper]
theorem photo_tryPaperEnd {s t : State} (h : tryPaperEnd s = some t) : t.photo = s.photo := by
  unfold tryPaperEnd at h
  split at h
  · obtain ⟨g, -, rfl⟩ := Option.map_eq_some_iff.1 h; simp
  · cases h
theorem photo_tryStartBand {s t : State} (h : tryStartBand s = some t) : t.photo = s.photo := by
  unfold tryStartBand at h
  split at h
  · obtain ⟨i, -, h⟩ := Option.bind_eq_some_iff.1 h
    obtain ⟨b, -, rfl⟩ := Option.map_eq_some_iff.1 h; simp [setBuffer]
  · cases h
theorem photo_tryTakeProofLine {s t : State} (h : tryTakeProofLine s = some t) : t.photo = s.photo := by
  unfold tryTakeProofLine at h
  split at h
  · cases h
  · obtain ⟨b, -, h⟩ := Option.bind_eq_some_iff.1 h
    obtain ⟨i, -, h⟩ := Option.bind_eq_some_iff.1 h
    obtain ⟨r, -, rfl⟩ := Option.map_eq_some_iff.1 h; simp [setBuffer]
theorem photo_tryEndService {s t : State} (h : tryEndService s = some t) : t.photo = s.photo := by
  unfold tryEndService at h
  (repeat' split at h) <;> cases h
  simp [engineIdle]
theorem photo_tryArbitrate {s t : State} (h : tryArbitrate s = some t) : t.photo = s.photo := by
  unfold tryArbitrate at h
  split at h
  · obtain ⟨g, -, rfl⟩ := Option.map_eq_some_iff.1 h; simp
  · cases h

end Sys2Proof.Machine
end

section
/-! PROOF. The flash (O8): the lamp is triggered by the expiry of a flash delay only (R123), and a delay runs only for an
armed request and with the disc LOCKED (R122, R124). -/

namespace Sys2Proof.Machine

/-- A flash delay runs only for an armed request and with the disc LOCKED, said of the Photo Unit. -/
def Photo.Guarded (p : Photo) : Prop := p.delay.isSome → p.disc = .locked ∧ p.flash.isSome

theorem delayGuarded_iff {s : State} : DelayGuarded s ↔ s.photo.Guarded := Iff.rfl

theorem Photo.guarded_of_still {p : Photo} (h : p.delay = none) : p.Guarded := by simp [Photo.Guarded, h]

/-- An update that keeps the disc, the flash request and whether a delay runs. -/
theorem Photo.Guarded.congr {p p' : Photo} (h : p.Guarded) (delay : p'.delay.isSome = p.delay.isSome)
    (disc : p'.disc = p.disc) (flash : p'.flash = p.flash) : p'.Guarded := by
  unfold Photo.Guarded; rw [delay, disc, flash]; exact h

/-! ### The Photo Unit's own operations -/

section Kept

variable {s : State} (h : s.photo.Guarded)
include h

@[simp] theorem guarded_advanceTime (n : Nat) : (advanceTime n s).photo.Guarded :=
  h.congr (countDown_isSome n _) rfl rfl
@[simp] theorem guarded_startLockWatch : (startLockWatch s).photo.Guarded := h.congr rfl rfl rfl
@[simp] theorem guarded_loseLock : (loseLock s).photo.Guarded := by
  unfold loseLock
  split
  · exact Photo.guarded_of_still rfl
  · next unlocked => exact fun runs => absurd (h runs).1 unlocked
theorem guarded_lockTest (clean : Bool) : (lockTest clean s).photo.Guarded := by
  unfold lockTest
  split
  · exact guarded_loseLock h
  · next proving =>
    intro runs
    rw [(h runs).1] at proving
    cases clean <;> cases proving
  · exact fun runs => ⟨rfl, (h runs).2⟩
@[simp] theorem guarded_indexPulse : (indexPulse s).photo.Guarded := (guarded_lockTest h _).congr rfl rfl rfl
theorem guarded_slotArrival (g : Nat) : (slotArrival g s).photo.Guarded := by
  unfold slotArrival
  split
  · next q flash =>
    split
    · next starts =>
      have locked : s.photo.disc = .locked := by
        have := starts.2.2
        simp only [flashConditions, Bool.and_eq_true, beq_iff_eq] at this
        obtain ⟨⟨⟨⟨⟨⟨locked, -⟩, -⟩, -⟩, -⟩, -⟩, -⟩ := this
        exact locked
      exact fun _ => ⟨locked, Option.isSome_of_eq_some flash⟩
    · exact h
  · exact h
@[simp] theorem guarded_slotPulse : (slotPulse s).photo.Guarded := by
  have counted : (s.modPhoto fun p => { p with slotCount := min 255 (s.photo.slotCount + 1) }).photo.Guarded :=
    h.congr rfl rfl rfl
  unfold slotPulse; dsimp only
  split
  · exact guarded_slotArrival counted _
  · exact counted
@[simp] theorem guarded_turretArrives (q : Station) (code : BitVec 4) : (turretArrives q code s).photo.Guarded := by
  rw [turretArrives_eq]; exact h.congr rfl rfl rfl
@[simp] theorem guarded_latchHere (q : Station) : (latchHere q s).photo.Guarded := by
  rw [latchHere, photo_verifyAt]; exact h.congr rfl rfl rfl
@[simp] theorem guarded_driveLens (p : LensPos) : (driveLens p s).photo.Guarded := h.congr rfl rfl rfl
@[simp] theorem guarded_commandCarriage (x : Nat) : (commandCarriage x s).photo.Guarded := by
  unfold commandCarriage; dsimp only
  (repeat' split) <;> exact h.congr rfl rfl rfl
@[simp] theorem guarded_stepCarriage : (stepCarriage s).photo.Guarded := by
  unfold stepCarriage endHoming; dsimp only
  (repeat' split) <;> exact h.congr rfl rfl rfl
@[simp] theorem guarded_setVerify (v : Option VerifyRun) : (setVerify v s).photo.Guarded := h.congr rfl rfl rfl

end Kept

/-! A withdrawn or newly armed request, a turret move and a reset leave no delay running. -/

@[simp] theorem guarded_withdrawFlash (s : State) : (withdrawFlash s).photo.Guarded := Photo.guarded_of_still rfl
@[simp] theorem guarded_armFlash (q : FlashRequest) (s : State) : (armFlash q s).photo.Guarded :=
  Photo.guarded_of_still rfl
@[simp] theorem guarded_driveTurret (q : Station) (r : Requester) (s : State) : (driveTurret q r s).photo.Guarded :=
  Photo.guarded_of_still rfl
@[simp] theorem guarded_compositionReset (s : State) : (compositionReset s).photo.Guarded := by
  obtain ⟨x, f, only⟩ := compositionReset_only s
  rw [only]; exact Photo.guarded_of_still rfl
@[simp] theorem guarded_lidFell (s : State) : (lidFell s).photo.Guarded := by
  unfold lidFell takeHold; dsimp only
  (repeat' split) <;> exact Photo.guarded_of_still rfl

/-! ### Exposure Control -/

section Exposure

variable {s : State} (h : s.photo.Guarded)
include h

@[simp] theorem guarded_takeHold (r : HoldReason) : (takeHold r s).photo.Guarded := by
  unfold takeHold; split
  · exact h
  · exact Photo.guarded_of_still rfl
@[simp] theorem guarded_shutterStep (l : LineWork) (g : SetGlyph) : (shutterStep l g s).photo.Guarded := by
  unfold shutterStep; split <;> simp -implicitDefEqProofs [h]
@[simp] theorem guarded_carriageStep (l : LineWork) (g : SetGlyph) : (carriageStep l g s).photo.Guarded := by
  unfold carriageStep; dsimp only; split <;> simp -implicitDefEqProofs [h]
@[simp] theorem guarded_lensStep (l : LineWork) (g : SetGlyph) : (lensStep l g s).photo.Guarded := by
  unfold lensStep; dsimp only; (repeat' split) <;> simp -implicitDefEqProofs [h]
@[simp] theorem guarded_turretStep (l : LineWork) (g : SetGlyph) (p : Placement) :
    (turretStep l g p s).photo.Guarded := by
  unfold turretStep; dsimp only; (repeat' split) <;> simp -implicitDefEqProofs [h]
@[simp] theorem guarded_decidePlaced (l : LineWork) (g : SetGlyph) (p : Placement) :
    (decidePlaced l g p s).photo.Guarded := by
  unfold decidePlaced; (repeat' split) <;> simp -implicitDefEqProofs [h]
@[simp] theorem guarded_glyphDecision (l : LineWork) (g : SetGlyph) : (glyphDecision l g s).photo.Guarded := by
  unfold glyphDecision; dsimp only; (repeat' split) <;> simp -implicitDefEqProofs [h]
@[simp] theorem guarded_nextGlyph (l : LineWork) : (nextGlyph l s).photo.Guarded := by
  unfold nextGlyph; split <;> simp -implicitDefEqProofs [h]
@[simp] theorem guarded_beginAdvance (l : LineWork) (forward : Bool) (n : Nat) :
    (beginAdvance l forward n s).photo.Guarded := by
  unfold beginAdvance; dsimp only; (repeat' split) <;> simp -implicitDefEqProofs [h]
@[simp] theorem guarded_beginGap (n : Nat) : (beginGap n s).photo.Guarded := by
  unfold beginGap; dsimp only; (repeat' split) <;> simp -implicitDefEqProofs [h]
@[simp] theorem guarded_stepFilm : (stepFilm s).photo.Guarded := by
  unfold stepFilm filmMoveDone; dsimp only; (repeat' split) <;> simp -implicitDefEqProofs [h]
@[simp] theorem guarded_cutTimedOut : (cutTimedOut s).photo.Guarded := by
  unfold cutTimedOut; dsimp only; split <;> simp -implicitDefEqProofs [h]
@[simp] theorem guarded_cassetteFell : (cassetteFell s).photo.Guarded := by
  unfold cassetteFell; dsimp only; split <;> simp -implicitDefEqProofs [h]
@[simp] theorem guarded_flashReport : (flashReport s).photo.Guarded := by
  unfold flashReport; dsimp only; (repeat' split) <;> simp -implicitDefEqProofs [h]
@[simp] theorem guarded_turretReport (correct : Bool) : (turretReport correct s).photo.Guarded := by
  unfold turretReport turretReached; (repeat' split) <;> simp -implicitDefEqProofs [h]
@[simp] theorem guarded_lensReport (arrived : Bool) : (lensReport arrived s).photo.Guarded := by
  unfold lensReport; (repeat' split) <;> simp -implicitDefEqProofs [h]
@[simp] theorem guarded_carriageReport : (carriageReport s).photo.Guarded := by
  unfold carriageReport; (repeat' split) <;> simp -implicitDefEqProofs [h]
@[simp] theorem guarded_stationLost : (stationLost s).photo.Guarded := by
  unfold stationLost; (repeat' split) <;> simp -implicitDefEqProofs [h]
@[simp] theorem guarded_lensLost : (lensLost s).photo.Guarded := by
  unfold lensLost; (repeat' split) <;> simp -implicitDefEqProofs [h]
@[simp] theorem guarded_discFault : (discFault s).photo.Guarded := by
  unfold discFault; split <;> simp -implicitDefEqProofs [h]
@[simp] theorem guarded_placementChanged (i : FontSlot) : (placementChanged i s).photo.Guarded := by
  unfold placementChanged; (repeat' split) <;> simp -implicitDefEqProofs [h]
theorem guarded_retryPositioning {k : State → State} (keep : ∀ u, u.photo.Guarded → (k u).photo.Guarded) :
    (retryPositioning k s).photo.Guarded := by
  unfold retryPositioning; (repeat' split) <;> simp -implicitDefEqProofs [h, keep]
@[simp] theorem guarded_retryTurret (l : LineWork) (g : SetGlyph) : (retryTurret l g s).photo.Guarded := by
  unfold retryTurret; split <;> simp -implicitDefEqProofs [h]
@[simp] theorem guarded_retryLens (l : LineWork) (g : SetGlyph) : (retryLens l g s).photo.Guarded := by
  unfold retryLens; (repeat' split) <;> simp -implicitDefEqProofs [h]
@[simp] theorem guarded_retryStep : (retryStep s).photo.Guarded := by
  unfold retryStep
  (repeat' split) <;> simp -implicitDefEqProofs +contextual [h, guarded_retryPositioning]
@[simp] theorem guarded_takeResume (ch : ChannelId) : (takeResume ch s).photo.Guarded := by
  unfold takeResume retry; (repeat' split) <;> simp -implicitDefEqProofs [h]

/-! ### The visits, the turret, the lens and the lines -/

@[simp] theorem guarded_visit (ch : ChannelId) (qs : List Station) (m n : BitVec 4) :
    (visit ch qs m n s).photo.Guarded := by
  induction qs generalizing m n s with
  | nil => simp [visit, h]
  | cons q qs ih => unfold visit; split <;> simp -implicitDefEqProofs [h, ih]
@[simp] theorem guarded_takeVerify (ch : ChannelId) : (takeVerify ch s).photo.Guarded := by
  unfold takeVerify; split <;> simp -implicitDefEqProofs [h]
@[simp] theorem guarded_reportToRequester (r : Requester) (correct : Bool) :
    (reportToRequester r correct s).photo.Guarded := by
  unfold reportToRequester visitEnds; (repeat' split) <;> simp -implicitDefEqProofs [h]
@[simp] theorem guarded_turretRises : (turretRises s).photo.Guarded := by
  unfold turretRises; dsimp only; (repeat' split) <;> simp -implicitDefEqProofs [h]
@[simp] theorem guarded_turretFalls : (turretFalls s).photo.Guarded := by
  unfold turretFalls
  split
  · exact h
  · exact guarded_stationLost (Photo.guarded_of_still rfl)
@[simp] theorem guarded_turretTimesOut : (turretTimesOut s).photo.Guarded := by
  have out : (s.modPhoto fun p => { p with turretTimer := none, turretExpired := true }).photo.Guarded :=
    h.congr rfl rfl rfl
  unfold turretTimesOut; dsimp only
  split
  · exact guarded_reportToRequester out _ _
  · exact out
@[simp] theorem guarded_lensRises : (lensRises s).photo.Guarded := by
  have arrived (p : LensPos) :
      (s.modPhoto fun x => { x with lens := .standing p, lensTimer := none }).photo.Guarded := h.congr rfl rfl rfl
  unfold lensRises; dsimp only
  (repeat' split)
  · exact h.congr rfl rfl rfl
  · exact guarded_lensReport (arrived _) true
  · exact h
@[simp] theorem guarded_lensFalls : (lensFalls s).photo.Guarded := by
  unfold lensFalls
  split
  · exact guarded_lensLost (h.congr rfl rfl rfl)
  · exact h
@[simp] theorem guarded_lensTimesOut : (lensTimesOut s).photo.Guarded := by
  have out : (s.modPhoto fun p => { p with lensTimer := none, lensExpired := true }).photo.Guarded :=
    h.congr rfl rfl rfl
  unfold lensTimesOut; dsimp only
  split
  · exact guarded_lensReport out false
  · exact h.congr rfl rfl rfl
@[simp] theorem guarded_setEncoder (l : EncoderLine) (f : LineFilter) : (setEncoder l f s).photo.Guarded := by
  cases l <;> exact h
@[simp] theorem guarded_acceptEncoder (l : EncoderLine) (level : Bool) : (acceptEncoder l level s).photo.Guarded := by
  unfold acceptEncoder; dsimp only; (repeat' split) <;> simp -implicitDefEqProofs [h]
@[simp] theorem guarded_encoderChanged (l : EncoderLine) : (encoderChanged l s).photo.Guarded := by
  unfold encoderChanged encoderEdge acceptHeldEncoder; dsimp only
  (repeat' split) <;> simp -implicitDefEqProofs [h]
@[simp] theorem guarded_setDebouncer (l : DebouncedLine) (f : LineFilter) : (setDebouncer l f s).photo.Guarded := by
  cases l <;> exact h
@[simp] theorem guarded_acceptDebounced (l : DebouncedLine) (level : Bool) :
    (acceptDebounced l level s).photo.Guarded := by
  unfold acceptDebounced reportDebounced; dsimp only; split <;> simp -implicitDefEqProofs [h]
@[simp] theorem guarded_debouncedChanged (l : DebouncedLine) : (debouncedChanged l s).photo.Guarded := by
  unfold debouncedChanged debouncedEdge acceptHeldDebounced; dsimp only
  (repeat' split) <;> simp -implicitDefEqProofs [h]
@[simp] theorem guarded_sensorChanged (l : SensorLine) : (sensorChanged l s).photo.Guarded := by
  unfold sensorChanged; (repeat' split) <;> simp -implicitDefEqProofs [h]

end Exposure

end Sys2Proof.Machine
end

section
/-! PROOF. The lamp and a running delay over a step (O8): no command but the expiry of the delay triggers the lamp, and
every command keeps a delay guarded. -/

namespace Sys2Proof.Machine

/-! ### The pulses on the lamp -/

def State.lampPulses (s : State) : List Pulse := s.pulses.filter (· == .lamp)

theorem lamp_mem_iff {s : State} : .lamp ∈ s.pulses ↔ s.lampPulses ≠ [] := by
  simp [State.lampPulses, List.filter_eq_nil_iff]

theorem lampPulses_of_outside {s t : State} (h : t.outside = s.outside) : t.lampPulses = s.lampPulses :=
  congrArg (fun o => o.2.2.2.2.2.2.1) h

@[simp] theorem lampPulses_finish (ch : ChannelId) (c : Completion) (n : Nat) (s : State) :
    (finish ch c n s).lampPulses = s.lampPulses := lampPulses_of_outside (outside_finish ..)
@[simp] theorem lampPulses_refuse (ch : ChannelId) (c : Completion) (s : State) :
    (refuse ch c s).lampPulses = s.lampPulses := lampPulses_of_outside (outside_refuse ..)
@[simp] theorem lampPulses_setRunning (j : Option DictJob) (s : State) :
    (setRunning j s).lampPulses = s.lampPulses := rfl
@[simp] theorem lampPulses_setChains (c : Vector (List Entry) 512) (s : State) :
    (setChains c s).lampPulses = s.lampPulses := rfl
@[simp] theorem lampPulses_modDict (f : Dictionary → Dictionary) (s : State) :
    (s.modDict f).lampPulses = s.lampPulses := rfl
@[simp] theorem lampPulses_modConfig (f : ConfigSpace → ConfigSpace) (s : State) :
    (s.modConfig f).lampPulses = s.lampPulses := rfl
@[simp] theorem lampPulses_raise (a : Attn) (s : State) : (s.raise a).lampPulses = s.lampPulses := rfl
@[simp] theorem lampPulses_unverifyAll (s : State) : (unverifyAll s).lampPulses = s.lampPulses :=
  lampPulses_of_outside (outside_unverifyAll s)

theorem lampPulses_completeRequest (ch : ChannelId) (r : Request) (prot : Bool) (m : Vector Byte 96) (s : State) :
    (completeRequest ch r prot m s).lampPulses = s.lampPulses := by
  unfold completeRequest
  split
  · unfold completeAddWords; (repeat' split) <;> simp
  · unfold completeAmendWord; (repeat' split) <;> simp
  · unfold completeDeleteWord; (repeat' split) <;> simp
  · exact lampPulses_of_outside (outside_completeLookUpWord ..)
  · exact lampPulses_of_outside (outside_completeRefusedPurge ..)
@[simp] theorem lampPulses_completeOperation (s : State) : (completeOperation s).lampPulses = s.lampPulses := by
  unfold completeOperation
  (repeat' split) <;> simp [lampPulses_completeRequest]
  · exact lampPulses_of_outside (outside_deliverAnswer ..)
  · unfold completeBucket; dsimp only; split <;> simp
@[simp] theorem lampPulses_postingEnds (ch : ChannelId) (p : Posting) (fault : Option Nat) (s : State) :
    (postingEnds ch p fault s).lampPulses = s.lampPulses := by
  unfold postingEnds
  split
  · rfl
  · rw [lampPulses_of_outside (outside_chainNext ..)]
    split <;> rfl
@[simp] theorem lampPulses_resetChannel (ch : ChannelId) (s : State) :
    (resetChannel ch s).lampPulses = s.lampPulses := by
  have detached := lampPulses_of_outside (outside_detach ch s)
  unfold resetChannel abandonPosting
  split <;> exact detached
@[simp] theorem lampPulses_acceptWrite (v : Byte) (s : State) : (acceptWrite v s).lampPulses = s.lampPulses := by
  simp [acceptWrite, storeEntry]
@[simp] theorem lampPulses_refuseWrite (code : BitVec 7) (s : State) :
    (refuseWrite code s).lampPulses = s.lampPulses := rfl
@[simp] theorem lampPulses_writeTNomHigh (v : Byte) (s : State) : (writeTNomHigh v s).lampPulses = s.lampPulses := by
  unfold writeTNomHigh; dsimp only; split <;> simp [storeEntry]
@[simp] theorem lampPulses_writeQuiescent (v : Byte) (s : State) : (writeQuiescent v s).lampPulses = s.lampPulses := by
  unfold writeQuiescent; split <;> simp only [lampPulses_acceptWrite, lampPulses_refuseWrite]
@[simp] theorem lampPulses_writeStationMap (v : Byte) (s : State) :
    (writeStationMap v s).lampPulses = s.lampPulses := by
  unfold writeStationMap; split <;> simp [storeEntry]

/-! ### What a step keeps -/

/-- No pulse on the lamp comes in, and a running delay stays guarded. -/
def LampKept (s t : State) : Prop :=
  (.lamp ∈ t.pulses → .lamp ∈ s.pulses) ∧ (s.photo.Guarded → t.photo.Guarded)

theorem LampKept.refl (s : State) : LampKept s s := ⟨id, id⟩

theorem LampKept.trans {s t u : State} (h : LampKept s t) (k : LampKept t u) : LampKept s u :=
  ⟨fun lamp => h.1 (k.1 lamp), fun guarded => k.2 (h.2 guarded)⟩

theorem lampKept_of_lampPulses {s t : State} (lamp : t.lampPulses = s.lampPulses)
    (guarded : s.photo.Guarded → t.photo.Guarded) : LampKept s t :=
  ⟨fun h => by rw [lamp_mem_iff] at *; rwa [← lamp], guarded⟩

theorem lampKept_of_outside {s t : State} (outside : t.outside = s.outside)
    (guarded : s.photo.Guarded → t.photo.Guarded) : LampKept s t :=
  lampKept_of_lampPulses (lampPulses_of_outside outside) guarded

/-- What leaves the Photo Unit alone. -/
theorem lampKept_of_photo {s t : State} (lamp : t.lampPulses = s.lampPulses) (photo : t.photo = s.photo) :
    LampKept s t := lampKept_of_lampPulses lamp fun h => photo ▸ h

theorem lampKept_foldl {α : Type} {f : State → α → State} (each : ∀ u a, LampKept u (f u a)) (l : List α)
    (s : State) : LampKept s (l.foldl f s) := by
  induction l generalizing s with
  | nil => exact .refl s
  | cons a l ih => exact (each s a).trans (ih _)

/-! ### Requests -/

theorem guarded_ownerTakes (ch : ChannelId) (r : Request) {s : State} (h : s.photo.Guarded) :
    (ownerTakes ch r s).photo.Guarded := by
  unfold ownerTakes placeFontReported
  split
  case h_4 =>
    have placed := photo_takePlaceFont ch r.block s
    split
    · next e => rw [e] at placed; exact guarded_placementChanged (placed ▸ h) _
    · next e => rw [e] at placed; exact placed ▸ h
  case h_18 => exact guarded_takeResume h ch
  case h_22 => exact guarded_takeVerify h ch
  all_goals simp [h, present, takeQueryExposure, takeQueryPhoto, takeQueryProof]

theorem guarded_handOver (ch : ChannelId) (r : Request) {s : State} (h : s.photo.Guarded) :
    (handOver ch r s).photo.Guarded := guarded_ownerTakes ch r h

theorem guarded_requestArrives (ch : ChannelId) (r : Request) {s : State} (h : s.photo.Guarded) :
    (requestArrives ch r s).photo.Guarded := by
  unfold requestArrives blockArrives
  split_ifs
  · exact h
  · exact guarded_handOver ch r h
  · exact h

theorem guarded_fetchArrives (ch : ChannelId) (f : Fetched) {s : State} (h : s.photo.Guarded) :
    (fetchArrives ch f s).photo.Guarded := by
  unfold fetchArrives
  split
  · exact h
  · split
    · exact guarded_requestArrives ch _ h
    · exact h

/-! ### Reactions -/

theorem guarded_tryTakeLine {s t : State} (h : s.photo.Guarded) (e : tryTakeLine s = some t) : t.photo.Guarded := by
  unfold tryTakeLine at e
  split at e
  · obtain ⟨i, -, e⟩ := Option.bind_eq_some_iff.1 e
    obtain ⟨r, -, rfl⟩ := Option.map_eq_some_iff.1 e
    exact guarded_beginAdvance (s := modLine i _ s) h _ _ _
  · cases e
theorem guarded_tryFilmEnd {s t : State} (h : s.photo.Guarded) (e : tryFilmEnd s = some t) : t.photo.Guarded := by
  unfold tryFilmEnd at e
  split at e
  · obtain ⟨g, -, rfl⟩ := Option.map_eq_some_iff.1 e
    exact guarded_beginGap (s := s.modStore _) h _
  · cases e
theorem guarded_tryHandOver {ch : ChannelId} {s t : State} (h : s.photo.Guarded) (e : tryHandOver ch s = some t) :
    t.photo.Guarded := by
  unfold tryHandOver at e
  dsimp only at e
  split at e
  · obtain ⟨r, -, rfl⟩ := Option.map_eq_some_iff.1 e
    exact guarded_handOver ch r h
  · cases e

theorem guarded_reactOnce {s t : State} (h : s.photo.Guarded) (e : reactOnce s = some t) : t.photo.Guarded := by
  rcases reactOnce_cases e with e | e | e | e | e | e | e | e | e | e | e | e
  · exact photo_tryClose e ▸ h
  · exact photo_tryAssign e ▸ h
  · exact guarded_tryFilmEnd h e
  · exact photo_tryPaperEnd e ▸ h
  · exact guarded_tryTakeLine h e
  · exact photo_tryStartBand e ▸ h
  · exact photo_tryTakeProofLine e ▸ h
  · exact photo_tryEndService e ▸ h
  · exact photo_tryArbitrate e ▸ h
  · exact photo_tryGrant e ▸ h
  · exact guarded_tryHandOver h e
  · exact guarded_tryHandOver h e

theorem lampKept_react (s : State) : LampKept s (react s) :=
  lampKept_of_outside (outside_react s)
    (react_keeps (P := fun u => u.photo.Guarded) (fun _ _ => guarded_reactOnce))

/-! ### Events -/

theorem lampKept_event {arises : Bool} {f : State → State} {s t : State} (keep : ∀ u, LampKept u (f u))
    (e : event arises f s = .next t) : LampKept s t := by
  cases arises with
  | false => cases e; exact .refl s
  | true =>
    cases e
    have fresh : LampKept s s.fresh := ⟨fun h => (by cases h), id⟩
    exact fresh.trans (keep _)

theorem lampKept_eventReact {arises : Bool} {f : State → State} {s t : State} (keep : ∀ u, LampKept u (f u))
    (e : eventReact arises f s = .next t) : LampKept s t :=
  lampKept_event (fun u => (keep u).trans (lampKept_react _)) e

/-! ### The commands -/

theorem lampKept_debouncedChanged (l : DebouncedLine) (s : State) : LampKept s (debouncedChanged l s) :=
  lampKept_of_outside (outside_debouncedChanged l s) (guarded_debouncedChanged · l)
theorem lampKept_sensorChanged (l : SensorLine) (s : State) : LampKept s (sensorChanged l s) :=
  lampKept_of_outside (outside_sensorChanged l s) (guarded_sensorChanged · l)
theorem lampKept_encoderChanged (l : EncoderLine) (s : State) : LampKept s (encoderChanged l s) :=
  lampKept_of_outside (outside_encoderChanged l s) (guarded_encoderChanged · l)
theorem lampKept_acceptWrite (v : Byte) (s : State) : LampKept s (acceptWrite v s) :=
  lampKept_of_photo (lampPulses_acceptWrite v s) (photo_acceptWrite v s)

theorem lampKept_writeInversion (v : Byte) (s : State) : LampKept s (writeInversion v s) :=
  ((lampKept_acceptWrite v s).trans (lampKept_foldl (fun _ l => lampKept_encoderChanged l _) _ _)).trans
    (lampKept_foldl (fun _ l => lampKept_sensorChanged l _) _ _)
theorem lampKept_acceptUndebounced (l : DebouncedLine) (s : State) : LampKept s (acceptUndebounced l s) := by
  refine lampKept_of_outside (outside_acceptUndebounced l s) fun h => ?_
  unfold acceptUndebounced
  split
  · exact guarded_acceptDebounced h l _
  · exact h
theorem lampKept_writeDebounce (v : Byte) (s : State) : LampKept s (writeDebounce v s) :=
  (((lampKept_acceptWrite v s).trans (lampKept_acceptUndebounced ..)).trans (lampKept_acceptUndebounced ..)).trans
    (lampKept_acceptUndebounced ..)

theorem guarded_pulseAccepted (l : EncoderLine) {s : State} (h : s.photo.Guarded) :
    (pulseAccepted l s).photo.Guarded := guarded_acceptEncoder (s := s.setConditioned _ _) h l true
theorem guarded_timeBefore (l : EncoderLine) (n : Nat) {s : State} (h : s.photo.Guarded) :
    (timeBefore l n s).photo.Guarded := by
  unfold timeBefore
  split
  · next k _ =>
    have accepted : (acceptAfter l k s).photo.Guarded := guarded_acceptEncoder (s := advanceTime k s) (by simp [h]) l _
    exact guarded_advanceTime accepted (n - k)
  · exact guarded_advanceTime h n
theorem guarded_rechargeEnds {s : State} (h : s.photo.Guarded) : (rechargeEnds s).photo.Guarded := by
  have ready : (s.modPhoto fun p => { p with lamp := .ready }).photo.Guarded := h.congr rfl rfl rfl
  unfold rechargeEnds
  dsimp only
  split
  · exact guarded_flashReport ready
  · exact ready
@[simp] theorem photo_setTurretLines (q : Station) (code : BitVec 4) (s : State) :
    (setTurretLines q code s).photo = s.photo := by
  simp only [setTurretLines_eq, photo_setConditioned]
theorem guarded_turretArrival (q : Station) (code : BitVec 4) {s : State} (h : s.photo.Guarded) :
    (turretArrival q code s).photo.Guarded := by
  have lines : ((setTurretLines q code s).setConditioned (sensorBit .turretReady) true).photo.Guarded := by
    rw [photo_setConditioned, photo_setTurretLines]; exact h
  exact guarded_turretRises lines

/-! ### The flash -/

theorem flashConditions_iff {q : FlashRequest} {s : State} : flashConditions q s = true ↔ FlashAllowed q s := by
  unfold flashConditions FlashAllowed
  cases placed : (s.font q.slot).placement <;> simp [and_assoc]

theorem flashAllowed_modPhoto_delay {q : FlashRequest} {s : State} (d : Option Nat) :
    FlashAllowed q (s.modPhoto fun p => { p with delay := d }) ↔ FlashAllowed q s := Iff.rfl

/-- At the expiry of the delay the lamp is triggered for an armed request whose conditions hold only (R123). -/
theorem flashAllowed_of_delayExpires {s : State} (quiet : .lamp ∉ s.pulses)
    (fires : .lamp ∈ (delayExpires s).pulses) : ∃ q, s.photo.flash = some q ∧ FlashAllowed q s := by
  have withdrawn : (s.modPhoto fun p => { p with delay := none }).photo.flash = s.photo.flash := rfl
  unfold delayExpires at fires
  dsimp only at fires
  rw [withdrawn] at fires
  split at fires
  · next q armed =>
    split at fires
    · next allowed => exact ⟨q, armed, flashConditions_iff.mp allowed⟩
    · exact absurd fires quiet
  · exact absurd fires quiet

/-- The expiry leaves no delay running, and a report to Exposure Control starts none. -/
theorem guarded_delayExpires (s : State) : (delayExpires s).photo.Guarded := by
  have still : (s.modPhoto fun p => { p with delay := none }).photo.Guarded := Photo.guarded_of_still rfl
  have fired : (fireLamp (s.modPhoto fun p => { p with delay := none })).photo.Guarded := Photo.guarded_of_still rfl
  unfold delayExpires
  dsimp only
  generalize s.modPhoto (fun p => { p with delay := none }) = u at still fired ⊢
  unfold fireFlash
  dsimp only
  (repeat' split)
  · exact guarded_flashReport fired
  · exact fired
  · exact still
  · exact still

/-! ### The step -/

/-- Each command but the expiry of the delay keeps both. -/
theorem lampKept_exec (i : Instr) (other : i ≠ .flashDelayExpiry) {s t : State} (e : exec i s = .next t) :
    LampKept s t := by
  cases i
  case flashDelayExpiry => exact absurd rfl other
  case powerOnReset =>
    cases e
    exact ⟨fun h => (by cases h), fun _ => Photo.guarded_of_still rfl⟩
  case loadFont | amendFont | placeFont | retireFont | queryFont | openGalley | setText | setPriority | cancelGalley |
      queryGalley | addWords | amendWord | deleteWord | lookUpWord | purgeDesk | verifyStations | queryPhotoUnit |
      loadCassette | resumeExposure | advanceFilm | cutFilm | queryExposure | loadProofCells | queryProof =>
    exact lampKept_eventReact (fun _ => lampKept_of_outside (outside_requestArrives ..) (guarded_requestArrives _ _)) e
  case fetchComplete ch f =>
    simp only [exec, execFetchComplete] at e
    exact lampKept_eventReact (fun _ => lampKept_of_outside (outside_fetchArrives ..) (guarded_fetchArrives ch f)) e
  case takeItem =>
    simp only [exec, execTakeItem] at e
    split at e
    · exact lampKept_eventReact (fun _ => lampKept_of_photo (lampPulses_of_outside (by simp)) (by simp)) e
    · cases e; exact .refl s
  case settleWord =>
    simp only [exec, execSettleWord] at e
    split at e
    · exact lampKept_eventReact (fun _ => lampKept_of_photo (lampPulses_of_outside (by simp)) (by simp)) e
    · cases e; exact .refl s
  case postingComplete =>
    simp only [exec, execPostingComplete] at e
    split at e
    · exact lampKept_event (fun _ => lampKept_of_photo (by simp) (by simp)) e
    · cases e; exact .refl s
  case lookupAnswer | dictionaryOperationComplete =>
    simp only [exec, execLookupAnswer, execDictionaryOperationComplete] at e
    exact lampKept_eventReact (fun _ => lampKept_of_photo (by simp) (by simp)) e
  case compositionReset =>
    simp only [exec, execCompositionReset] at e
    exact lampKept_eventReact (fun u => lampKept_of_outside (outside_compositionReset u)
      fun _ => guarded_compositionReset u) e
  case configWrite v =>
    simp only [exec, execConfigWrite] at e
    split at e
    · exact lampKept_eventReact (fun u => lampKept_of_outside (outside_compositionReset u)
        fun _ => guarded_compositionReset u) e
    · exact lampKept_event (lampKept_acceptWrite v) e
  case sensorInversionWrite v =>
    simp only [exec, execSensorInversionWrite] at e
    exact lampKept_eventReact (lampKept_writeInversion v) e
  case debounceEnableWrite v =>
    simp only [exec, execDebounceEnableWrite] at e
    exact lampKept_eventReact (lampKept_writeDebounce v) e
  case start ch stopBit =>
    simp only [exec, execStart] at e
    refine lampKept_event (fun u => ?_) e
    split
    · exact lampKept_of_photo (lampPulses_of_outside (by simp)) (by simp)
    · exact lampKept_of_photo (lampPulses_of_outside (by simp)) (by simp)
  case stop | printerBusyChange | cutterHomeFall =>
    simp only [exec, execStop, execPrinterBusyChange, execCutterHomeFall] at e
    exact lampKept_event (fun _ => lampKept_of_photo (lampPulses_of_outside (by simp)) (by simp)) e
  case cutComplete | portTransfer =>
    simp only [exec, execCutComplete, execPortTransfer] at e
    exact lampKept_eventReact (fun _ => lampKept_of_photo (lampPulses_of_outside (by simp)) (by simp)) e
  case channelReset | tNomHighWrite | quiescentConfigWrite | stationMapWrite | readOnlyEntryWrite =>
    simp only [exec, execChannelReset, execTNomHighWrite, execQuiescentConfigWrite, execStationMapWrite,
      execReadOnlyEntryWrite] at e
    exact lampKept_event (fun _ => lampKept_of_photo (by simp) (by simp)) e
  case chainRegisterWrite | terminationStatusRead | attnWrite | attnEnWrite | sensorEventStatusRead | cfgIndexWrite |
      tNomLowWrite =>
    simp only [exec, execChainRegisterWrite, execTerminationStatusRead, execAttnWrite, execAttnEnWrite,
      execSensorEventStatusRead, execCfgIndexWrite, execTNomLowWrite] at e
    refine lampKept_event (fun _ => ?_) e
    exact lampKept_of_photo rfl rfl
  case detachedMarkClear =>
    simp only [exec, execDetachedMarkClear] at e
    refine lampKept_eventReact (fun _ => ?_) e
    exact lampKept_of_photo rfl rfl
  case indexPulse n =>
    simp only [exec, execIndexPulse] at e
    exact lampKept_event (fun u => lampKept_of_outside (by simp)
      fun h => guarded_pulseAccepted .index (s := advanceTime n u) (guarded_advanceTime h n)) e
  case slotPulse =>
    simp only [exec, execSlotPulse] at e
    exact lampKept_event (fun _ => lampKept_of_outside (by simp) (guarded_pulseAccepted .slot)) e
  case indexTimeout =>
    simp only [exec, execIndexTimeout] at e
    exact lampKept_event (fun u => lampKept_of_outside (by simp)
      fun h => guarded_loseLock (s := u.modPhoto _) (h.congr rfl rfl rfl)) e
  case flashComplete =>
    simp only [exec, execFlashComplete] at e
    exact lampKept_eventReact (fun _ => lampKept_of_outside (by simp) guarded_rechargeEnds) e
  case turretArrival q code =>
    simp only [exec, execTurretArrival] at e
    exact lampKept_eventReact (fun _ => lampKept_of_outside (by simp) (guarded_turretArrival q code)) e
  case turretReadyFall =>
    simp only [exec, execTurretReadyFall] at e
    exact lampKept_event (fun u => lampKept_of_outside (by simp) (guarded_turretFalls (s := u.setConditioned _ _))) e
  case turretTimeout =>
    simp only [exec, execTurretTimeout] at e
    exact lampKept_eventReact (fun _ => lampKept_of_outside (by simp) guarded_turretTimesOut) e
  case lockWatchExpiry =>
    simp only [exec, execLockWatchExpiry] at e
    exact lampKept_event (fun u => lampKept_of_outside (by simp)
      fun h => guarded_discFault (s := u.modPhoto _) (h.congr rfl rfl rfl)) e
  case lensArrival =>
    simp only [exec, execLensArrival] at e
    exact lampKept_event (fun u => lampKept_of_outside (by simp) (guarded_lensRises (s := u.setConditioned _ _))) e
  case lensReadyFall =>
    simp only [exec, execLensReadyFall] at e
    exact lampKept_event (fun u => lampKept_of_outside (by simp) (guarded_lensFalls (s := u.setConditioned _ _))) e
  case lensTimeout =>
    simp only [exec, execLensTimeout] at e
    exact lampKept_event (fun _ => lampKept_of_outside (by simp) guarded_lensTimesOut) e
  case carriageStep =>
    simp only [exec, execCarriageStep] at e
    exact lampKept_event (fun u => lampKept_of_outside (by simp)
      fun h => guarded_carriageReport (s := stepCarriage u) (guarded_stepCarriage h)) e
  case filmStep =>
    simp only [exec, execFilmStep] at e
    exact lampKept_eventReact (fun _ => lampKept_of_outside (by simp) guarded_stepFilm) e
  case cutTimeout =>
    simp only [exec, execCutTimeout] at e
    exact lampKept_eventReact (fun _ => lampKept_of_outside (by simp) guarded_cutTimedOut) e
  case lidClosedFall | cassettePresentFall | paperPresentFall | paperPresentRise | sensorChangeAccepted =>
    simp only [exec, execLidClosedFall, execCassettePresentFall, execPaperPresentFall, execPaperPresentRise,
      execSensorChangeAccepted, acceptanceEvent] at e
    exact lampKept_eventReact (fun u => lampKept_of_outside (by simp)
      fun h => guarded_acceptDebounced (s := u.setConditioned _ _) h _ _) e
  case encoderLevelChange l level n =>
    simp only [exec, execEncoderLevelChange] at e
    exact lampKept_event (fun u => lampKept_of_outside (by simp)
      fun h => guarded_encoderChanged (s := (timeBefore l n u).setConditioned _ _) (guarded_timeBefore l n h) l) e
  case falseLevelAccepted l =>
    simp only [exec, execFalseLevelAccepted] at e
    exact lampKept_event (fun u => lampKept_of_outside (by simp)
      fun h => guarded_acceptEncoder (s := u.setConditioned _ _) h l false) e
  case sensorLevelChange l level =>
    simp only [exec, execSensorLevelChange] at e
    exact lampKept_eventReact (fun u => lampKept_of_outside (by simp)
      fun h => guarded_sensorChanged (s := u.setConditioned _ _) h l) e

/-- Where no command waits, time passes or a timer's command is queued. -/
theorem lampKept_tick (s : State) : LampKept s (tick s) := by
  unfold tick
  split
  · exact lampKept_of_outside (outside_advanceTime 1 s) (guarded_advanceTime · 1)
  · exact .refl s

theorem guarded_flashDelayExpiry {s t : State} (h : s.photo.Guarded) (e : exec .flashDelayExpiry s = .next t) :
    t.photo.Guarded := by
  simp only [exec, execFlashDelayExpiry] at e
  cases runs : s.photo.delay.isSome with
  | false => rw [runs] at e; cases e; exact h
  | true => rw [runs] at e; cases e; exact (lampKept_react _).2 (guarded_delayExpires s.fresh)

theorem flashAllowed_of_flashDelayExpiry {s t : State} (quiet : .lamp ∉ s.pulses)
    (e : exec .flashDelayExpiry s = .next t) (fires : .lamp ∈ t.pulses) :
    s.photo.delay.isSome ∧ ∃ q, s.photo.flash = some q ∧ FlashAllowed q s := by
  simp only [exec, execFlashDelayExpiry] at e
  cases runs : s.photo.delay.isSome with
  | false => rw [runs] at e; cases e; exact absurd fires quiet
  | true =>
    rw [runs] at e
    cases e
    exact ⟨rfl, flashAllowed_of_delayExpires (s := s.fresh) List.not_mem_nil ((lampKept_react _).1 fires)⟩

/-- Settles O8: no other command than the expiry triggers the lamp (`lampKept_exec`), and the expiry judges the conditions
again. -/
theorem lampFiresOnlyUnderTheFlashConditions : Obligations.LampFiresOnlyUnderTheFlashConditions := by
  refine ⟨fun s t quiet e fires => ?_, fun s t guarded e => ?_⟩ <;> unfold step at e <;> split at e
  · next i rest queue =>
    by_cases expiry : i = .flashDelayExpiry
    · subst expiry
      obtain ⟨runs, q, armed, allowed⟩ :=
        flashAllowed_of_flashDelayExpiry (s := { s with pending := rest }) quiet e fires
      exact ⟨rest, q, queue, runs, armed, allowed⟩
    · exact absurd ((lampKept_exec i expiry e).1 fires) quiet
  · cases e; exact absurd ((lampKept_tick s).1 fires) quiet
  · next i rest _ =>
    by_cases expiry : i = .flashDelayExpiry
    · subst expiry
      exact guarded_flashDelayExpiry (s := { s with pending := rest }) guarded e
    · exact (lampKept_exec i expiry e).2 guarded
  · cases e; exact (lampKept_tick s).2 guarded

end Sys2Proof.Machine
end

section
/-! PROOF. The timers of the disc (O37) and the slot pulse (O35). -/

namespace Sys2Proof.Machine

/-! ### The index timeout and the lock watch -/

theorem exec_indexTimeout {s : State} (h : s.photo.indexTimer.isSome) :
    exec .indexTimeout s = .next (loseLock (s.fresh.modPhoto fun p => { p with indexTimer := none })) := by
  simp only [exec, execIndexTimeout, h, event_true]

theorem exec_lockWatchExpiry {s : State} (h : s.photo.lockWatch.isSome) :
    exec .lockWatchExpiry s = .next (discFault (s.fresh.modPhoto fun p => { p with lockWatch := none })) := by
  simp only [exec, execLockWatchExpiry, h, event_true]

theorem loseLock_of_locked {s : State} (h : s.photo.disc = .locked) :
    loseLock s = s.modPhoto fun p =>
      { p with disc := .unlocked, delay := none, lockWatch := some s.lockTime } := by
  unfold loseLock; rw [if_pos h]; rfl

theorem loseLock_of_not_locked {s : State} (h : s.photo.disc ≠ .locked) :
    loseLock s = s.modPhoto fun p => { p with disc := .unlocked } := by
  unfold loseLock; rw [if_neg h]

theorem discFault_of_line {s : State} (line : s.exposure.work.isLine = true) (free : s.exposure.hold = none) :
    discFault s = takeHold .discFault s := by simp [discFault, line, free]

/-- With no line, or with one that is HELD, the fault is noted (R143, R144). -/
theorem discFault_notes {s : State} (h : s.exposure.work.isLine = false ∨ s.exposure.hold.isSome) :
    discFault s = s.modExposure fun e => { e with note := true } := by
  have other : (s.exposure.work.isLine && s.exposure.hold.isNone) = false := by
    rcases h with noLine | held
    · simp [noLine]
    · simp [Option.isNone_eq_false_iff.mpr held]
  unfold discFault; rw [other]; rfl

/-- Settles O37. -/
theorem discTimersUnlockAndReportTheFault : Obligations.DiscTimersUnlockAndReportTheFault := by
  refine ⟨fun s runs locked => ?_, fun s runs unlocked => ?_, fun s runs noLine => ?_, fun s runs line free => ?_,
    fun s runs line held => ?_⟩
  · rw [exec_indexTimeout runs]; exact congrArg _ (loseLock_of_locked (s := s.fresh.modPhoto _) locked)
  · rw [exec_indexTimeout runs]; exact congrArg _ (loseLock_of_not_locked (s := s.fresh.modPhoto _) unlocked)
  · rw [exec_lockWatchExpiry runs]; exact congrArg _ (discFault_notes (s := s.fresh.modPhoto _) (.inl noLine))
  · rw [exec_lockWatchExpiry runs, discFault_of_line (s := s.fresh.modPhoto _) line free]
    exact congrArg _ (takeHold_of_none (s := s.fresh.modPhoto _) free)
  · rw [exec_lockWatchExpiry runs]; exact congrArg _ (discFault_notes (s := s.fresh.modPhoto _) (.inr held))

/-! ### A slot pulse -/

/-- With the phase in a byte and T above 12,288 ticks the delay stays below the time to the next slot. -/
theorem flashDelay_lt {phi t : Nat} (byte : phi ≤ 255) (slow : 12288 < t) :
    (phi * t + 12288) / 24576 * 96 < t := by
  have product : phi * t ≤ 255 * t := Nat.mul_le_mul_right t byte
  omega

/-- A pulse that carries the count past 96 only counts; one up to there is the arrival of its slot. -/
theorem slotPulse_eq (s : State) :
    slotPulse s =
      if s.photo.slotCount < 96 then
        slotArrival s.photo.slotCount (s.modPhoto fun p => { p with slotCount := min 255 (s.photo.slotCount + 1) })
      else s.modPhoto fun p => { p with slotCount := min 255 (s.photo.slotCount + 1) } := by
  simp only [slotPulse]
  by_cases early : s.photo.slotCount < 96
  · have counted : min 255 (s.photo.slotCount + 1) ≤ 96 := by omega
    have slot : min 255 (s.photo.slotCount + 1) - 1 = s.photo.slotCount := by omega
    simp only [early, counted, slot, if_true]
  · have past : ¬ min 255 (s.photo.slotCount + 1) ≤ 96 := by omega
    simp only [early, past, if_false]

theorem slotArrival_only (g : Nat) (s : State) :
    ∃ d, slotArrival g s = { s with photo := { s.photo with delay := d } } := by
  unfold slotArrival
  (repeat' split)
  exacts [⟨_, rfl⟩, ⟨s.photo.delay, rfl⟩, ⟨s.photo.delay, rfl⟩]

theorem slotArrival_starts {q : FlashRequest} {s : State} (armed : s.photo.flash = some q)
    (still : s.photo.delay = none) (allowed : FlashAllowed q s) :
    slotArrival q.code.val s =
      s.modPhoto fun p => { p with delay := some (flashDelay (s.setting 0x03) p.period) } := by
  unfold slotArrival
  rw [armed]
  exact if_pos ⟨rfl, still, flashConditions_iff.mpr allowed⟩

/-- Without the request for the slot, with a delay running or with a condition failing, nothing starts. -/
theorem slotArrival_idle {g : Nat} {s : State}
    (h : s.photo.flash = none ∨ s.photo.delay.isSome ∨
      ∃ q, s.photo.flash = some q ∧ (g ≠ q.code.val ∨ ¬ FlashAllowed q s)) : slotArrival g s = s := by
  unfold slotArrival
  split
  · next q armed =>
    refine if_neg fun ⟨code, still, conditions⟩ => ?_
    rcases h with none | runs | ⟨q', armed', differs⟩
    · rw [none] at armed; cases armed
    · rw [still] at runs; cases runs
    · cases armed.symm.trans armed'
      exact differs.elim (fun ne => ne code.symm) fun fails => fails (flashConditions_iff.mp conditions)
  · rfl

/-- The state in which a slot's arrival is judged: the pulse is accepted and counted. -/
def slotCounted (s : State) : State :=
  (setEncoder .slot { accepted := true, timing := none } (s.fresh.setConditioned (encoderBit .slot) true)).modPhoto
    fun p => { p with slotCount := min 255 (s.photo.slotCount + 1) }

theorem slotCounted_eq (s : State) :
    slotCounted s = { s.fresh with
      photo := { s.photo with slotCount := min 255 (s.photo.slotCount + 1) }
      sensors := (slotCounted s).sensors } := rfl

theorem flashAllowed_slotCounted {q : FlashRequest} {s : State} : FlashAllowed q (slotCounted s) ↔ FlashAllowed q s :=
  Iff.rfl

theorem exec_slotPulse (s : State) :
    exec .slotPulse s = .next
      (if s.photo.slotCount < 96 then slotArrival s.photo.slotCount (slotCounted s) else slotCounted s) :=
  congrArg _ (slotPulse_eq (setEncoder .slot _ (s.fresh.setConditioned _ _)))

/-- A slot pulse brings the part to the counted state, but for the delay. -/
theorem slotPulse_only (s : State) :
    ∃ d, (if s.photo.slotCount < 96 then slotArrival s.photo.slotCount (slotCounted s) else slotCounted s) =
      { slotCounted s with photo := { (slotCounted s).photo with delay := d } } := by
  split
  · exact slotArrival_only ..
  · exact ⟨s.photo.delay, rfl⟩

/-- Settles O35. -/
theorem slotPulseStartsTheFlashDelay : Obligations.SlotPulseStartsTheFlashDelay := by
  refine ⟨fun phi t => flashDelay_lt, fun s => ⟨_, exec_slotPulse s, ?_, ?_, fun q armed still early slot allowed => ?_,
    fun idle => ?_⟩⟩
  · obtain ⟨d, only⟩ := slotPulse_only s
    rw [only, slotCounted_eq]
  · obtain ⟨d, only⟩ := slotPulse_only s
    rw [only, slotCounted_eq]
  · rw [if_pos early, slot, slotArrival_starts (s := slotCounted s) armed still (flashAllowed_slotCounted.mpr allowed)]
    rfl
  · split
    · next early =>
      rw [slotArrival_idle]
      · rfl
      · rcases idle with none | runs | late | fails
        · exact .inl none
        · exact .inr (.inl runs)
        · omega
        · exact .inr (.inr fails)
    · rfl

end Sys2Proof.Machine
end

section
/-! PROOF. The index pulse (O34). -/

namespace Sys2Proof.Machine

/-- Conditions 1 to 4 of R119, with the tolerance of 2 % written out. -/
theorem cleanPulse_iff {t : Nat} {s : State} :
    cleanPulse t s = true ↔ s.photo.counting = true ∧ s.photo.slotCount = 96 ∧
      ((t : Int) - s.tNom) * 50 ≤ s.tNom ∧ ((s.tNom : Int) - t) * 50 ≤ s.tNom ∧ s.photo.disturbed = false := by
  have near : distance t s.tNom * 50 ≤ s.tNom ↔
      ((t : Int) - s.tNom) * 50 ≤ s.tNom ∧ ((s.tNom : Int) - t) * 50 ≤ s.tNom := by
    unfold distance; omega
  simp only [cleanPulse, Bool.and_eq_true, beq_iff_eq, decide_eq_true_eq, Bool.not_eq_true', near, and_assoc]

/-! ### The lock test (R119) -/

theorem lockTest_proves {s : State} (unlocked : s.photo.disc = .unlocked) :
    lockTest true s = s.modPhoto fun p => { p with disc := .proving } := by
  simp only [lockTest, unlocked, nextDisc]

theorem lockTest_locks {s : State} (proven : s.photo.disc ≠ .unlocked) :
    lockTest true s = s.modPhoto fun p => { p with disc := .locked, lockWatch := none } := by
  unfold lockTest
  cases disc : s.photo.disc
  · exact absurd disc proven
  · rfl
  · rfl

theorem lockTest_loses (s : State) : lockTest false s = loseLock s := rfl

/-- The test touches the disc, the delay and the lock watch. -/
theorem lockTest_only (clean : Bool) (s : State) :
    ∃ d x w, lockTest clean s = { s with photo := { s.photo with disc := d, delay := x, lockWatch := w } } := by
  cases clean
  · by_cases locked : s.photo.disc = .locked
    · exact ⟨_, _, _, (lockTest_loses s).trans (loseLock_of_locked locked)⟩
    · exact ⟨_, _, _, (lockTest_loses s).trans (loseLock_of_not_locked locked)⟩
  · by_cases unlocked : s.photo.disc = .unlocked
    · exact ⟨_, _, _, lockTest_proves unlocked⟩
    · exact ⟨_, _, _, lockTest_locks unlocked⟩

/-! ### The pulse -/

/-- The period that a pulse measures (R118). -/
def State.measured (s : State) : Nat := if s.photo.counting then s.photo.count else s.photo.period

theorem indexPulse_eq (s : State) :
    indexPulse s = (lockTest (cleanPulse s.measured s) s).modPhoto fun p =>
      { p with
        period := s.measured, count := 0, counting := true, slotCount := 0,
        disturbed := p.disturbed && p.turret.isMoving, indexTimer := some (2 * s.tNom) } := rfl

/-- What a pulse keeps of the lock test: disc, delay and lock watch. -/
theorem indexPulse_lock {s : State} {clean : Bool} (judged : cleanPulse s.measured s = clean) :
    (indexPulse s).photo.disc = (lockTest clean s).photo.disc ∧
    (indexPulse s).photo.delay = (lockTest clean s).photo.delay ∧
    (indexPulse s).photo.lockWatch = (lockTest clean s).photo.lockWatch := by
  subst judged; exact ⟨rfl, rfl, rfl⟩

/-- A pulse is the Photo Unit's own. -/
theorem indexPulse_photo (s : State) : indexPulse s = { s with photo := (indexPulse s).photo } := by
  obtain ⟨d, x, w, only⟩ := lockTest_only (cleanPulse s.measured s) s
  rw [indexPulse_eq, only]
  rfl

/-- All else that a pulse changes is the same for every outcome of the test. -/
theorem photo_indexPulse (s : State) :
    (indexPulse s).photo = { s.photo with
      disc := (indexPulse s).photo.disc, period := s.measured, count := 0, counting := true, slotCount := 0
      disturbed := s.photo.disturbed && s.photo.turret.isMoving, indexTimer := some (2 * s.tNom)
      delay := (indexPulse s).photo.delay, lockWatch := (indexPulse s).photo.lockWatch } := by
  obtain ⟨d, x, w, only⟩ := lockTest_only (cleanPulse s.measured s) s
  rw [indexPulse_eq, only]
  rfl

/-- The state in which an index pulse is judged: the time has passed and the line is accepted. -/
def indexAccepted (s : State) : State :=
  setEncoder .index { accepted := true, timing := none } (s.fresh.setConditioned (encoderBit .index) true)

theorem exec_indexPulse {n : Nat} {s : State} (quiet : s.quietFor n = true) :
    exec (.indexPulse n) s = .next (indexPulse (indexAccepted (advanceTime n s))) := by
  simp only [exec, execIndexPulse, quiet, event_true]
  rfl

theorem exec_indexPulse_early {n : Nat} {s : State} (due : s.quietFor n = false) : exec (.indexPulse n) s = .next s := by
  simp only [exec, execIndexPulse, due, event_false]

/-- Settles O34. -/
theorem indexPulseMeasuresThePeriodAndJudgesTheLock : Obligations.IndexPulseMeasuresThePeriodAndJudgesTheLock := by
  refine ⟨fun s n => exec_indexPulse_early, quietFor_zero, fun s0 n quiet => ⟨_, exec_indexPulse quiet, ?_⟩⟩
  have measured : s0.photo.counting = true → (advanceTime n s0).measured = min 16777215 (s0.photo.count + n) := by
    intro counting
    simp only [State.measured, advanceTime_eq, counting, if_true, maxCount]
  generalize advanceTime n s0 = s at measured ⊢
  have clean := cleanPulse_iff (t := s.measured) (s := indexAccepted s)
  have own := indexPulse_photo (indexAccepted s)
  have sensors : (indexPulse (indexAccepted s)).sensors = (indexAccepted s).sensors := by rw [own]
  refine ⟨?_, ?_, ?_, ?_, ?_, ?_, measured, fun first => ?_, fun hclean unlocked => ?_, fun hclean proven => ?_,
    fun unclean locked => ?_, fun unclean unlocked => ?_, photo_indexPulse _⟩
  · rw [own]; rfl
  iterate 5 rw [sensors]; rfl
  · exact if_neg (ne_true_of_eq_false first)
  · obtain ⟨disc, delay, watch⟩ := indexPulse_lock (clean.mpr hclean)
    rw [disc, delay, watch, lockTest_proves (s := indexAccepted s) unlocked]
    exact ⟨rfl, rfl, rfl⟩
  · obtain ⟨disc, delay, watch⟩ := indexPulse_lock (clean.mpr hclean)
    rw [disc, delay, watch, lockTest_locks (s := indexAccepted s) proven]
    exact ⟨rfl, rfl, rfl⟩
  · obtain ⟨disc, delay, watch⟩ := indexPulse_lock (Bool.eq_false_iff.mpr fun h => unclean (clean.mp h))
    rw [disc, delay, watch, lockTest_loses, loseLock_of_locked (s := indexAccepted s) locked]
    exact ⟨rfl, rfl, rfl⟩
  · obtain ⟨disc, delay, watch⟩ := indexPulse_lock (Bool.eq_false_iff.mpr fun h => unclean (clean.mp h))
    rw [disc, delay, watch, lockTest_loses, loseLock_of_not_locked (s := indexAccepted s) unlocked]
    exact ⟨rfl, rfl, rfl⟩

end Sys2Proof.Machine
end

section
/-! PROOF. The encoder lines (O32): a change waits for the rejection time, and one whose time is up within the ticks of a
level change is accepted on the way. -/

namespace Sys2Proof.Machine

/-! ### The lines' records -/

theorem encoderBit_lt (l : EncoderLine) : encoderBit l < 15 := by cases l <;> decide

@[simp] theorem encoder_setEncoder (l : EncoderLine) (f : LineFilter) (s : State) :
    (setEncoder l f s).encoder l = f := by cases l <;> rfl
@[simp] theorem encoder_setConditioned (l : EncoderLine) (bit : Nat) (level : Bool) (s : State) :
    (s.setConditioned bit level).encoder l = s.encoder l := by cases l <;> rfl
@[simp] theorem encoder_advanceTime (l : EncoderLine) (n : Nat) (s : State) :
    (advanceTime n s).encoder l = (s.encoder l).countDown n := by cases l <;> rfl

/-- Only the inputs say what level a line has. -/
theorem conditioned_congr {s t : State} (inputs : t.sensors.inputs = s.sensors.inputs) (config : t.config = s.config)
    (bit : Nat) : t.conditioned bit = s.conditioned bit := by
  simp only [State.conditioned, State.inversion, State.entry, inputs, config]

theorem setEncoder_only (l : EncoderLine) (f : LineFilter) (s : State) :
    setEncoder l f s = { s with sensors := (setEncoder l f s).sensors } := by cases l <;> rfl

theorem inputs_setEncoder (l : EncoderLine) (f : LineFilter) (s : State) :
    (setEncoder l f s).sensors.inputs = s.sensors.inputs := by cases l <;> rfl

theorem putBit_getLsbD {w : Nat} {i : Nat} (x : BitVec w) (hi : i < w) : putBit i (x.getLsbD i) x = x := by
  refine BitVec.eq_of_getLsbD_eq fun j _ => ?_
  rw [getLsbD_putBit _ _ _ _ hi]
  split
  · next same => rw [same]
  · rfl

/-- A line brought to the level that it has. -/
theorem setConditioned_conditioned {bit : Nat} (hbit : bit < 15) (s : State) :
    s.setConditioned bit (s.conditioned bit) = s := by
  have level : (s.conditioned bit ^^ s.inversion.getLsbD bit) = s.sensors.inputs.getLsbD bit := by
    simp [State.conditioned]
  have inputs := putBit_getLsbD s.sensors.inputs hbit
  simp only [State.setConditioned, level, State.modSensors, inputs]

/-! ### The acceptance of a change -/

theorem slotPulse_photo (s : State) : slotPulse s = { s with photo := (slotPulse s).photo } := by
  rw [slotPulse_eq]
  split
  · obtain ⟨d, only⟩ := slotArrival_only s.photo.slotCount
      (s.modPhoto fun p => { p with slotCount := min 255 (s.photo.slotCount + 1) })
    rw [only]; rfl
  · rfl

theorem acceptEncoder_false (l : EncoderLine) (s : State) :
    acceptEncoder l false s = setEncoder l { accepted := false, timing := none } s := rfl

/-- An acceptance touches the line's record and the Photo Unit. -/
theorem acceptEncoder_only (l : EncoderLine) (level : Bool) (s : State) :
    acceptEncoder l level s = { setEncoder l { accepted := level, timing := none } s with
      photo := (acceptEncoder l level s).photo } := by
  cases level
  · cases l <;> rfl
  · cases l
    · exact indexPulse_photo _
    · exact slotPulse_photo _

@[simp] theorem encoder_acceptEncoder (l : EncoderLine) (level : Bool) (s : State) :
    (acceptEncoder l level s).encoder l = { accepted := level, timing := none } := by
  rw [acceptEncoder_only]
  exact encoder_setEncoder l _ s

theorem fresh_acceptEncoder {s : State} (quiet : s.pulses = []) (l : EncoderLine) (level : Bool) :
    (acceptEncoder l level s).fresh = acceptEncoder l level s := by
  rw [acceptEncoder_only, setEncoder_only, State.fresh, ← quiet]

theorem conditioned_acceptEncoder (l : EncoderLine) (level : Bool) (bit : Nat) (s : State) :
    (acceptEncoder l level s).conditioned bit = s.conditioned bit := by
  rw [acceptEncoder_only]
  refine conditioned_congr (inputs_setEncoder l _ s) ?_ bit
  rw [setEncoder_only]


/-! ### Acceptances and the levels on the lines -/

/-- The state with other pulses and levels on the lines, which the Photo Unit's pulses do not read. -/
def State.shown (c : List Pulse) (i : BitVec 15) (s : State) : State :=
  { s with pulses := c, sensors := { s.sensors with inputs := i } }

theorem lockTest_shown (clean : Bool) (c : List Pulse) (i : BitVec 15) (s : State) :
    lockTest clean (s.shown c i) = (lockTest clean s).shown c i := by
  cases clean
  · by_cases locked : s.photo.disc = .locked
    · rw [lockTest_loses, lockTest_loses, loseLock_of_locked locked, loseLock_of_locked (s := s.shown c i) locked]; rfl
    · rw [lockTest_loses, lockTest_loses, loseLock_of_not_locked locked,
        loseLock_of_not_locked (s := s.shown c i) locked]; rfl
  · by_cases unlocked : s.photo.disc = .unlocked
    · rw [lockTest_proves unlocked, lockTest_proves (s := s.shown c i) unlocked]; rfl
    · rw [lockTest_locks unlocked, lockTest_locks (s := s.shown c i) unlocked]; rfl

theorem indexPulse_shown (c : List Pulse) (i : BitVec 15) (s : State) :
    indexPulse (s.shown c i) = (indexPulse s).shown c i := by
  have measured : (s.shown c i).measured = s.measured := rfl
  have clean : cleanPulse s.measured (s.shown c i) = cleanPulse s.measured s := rfl
  rw [indexPulse_eq, indexPulse_eq, measured, clean, lockTest_shown]
  rfl

theorem slotArrival_shown (g : Nat) (c : List Pulse) (i : BitVec 15) (s : State) :
    slotArrival g (s.shown c i) = (slotArrival g s).shown c i := by
  have flash : (s.shown c i).photo = s.photo := rfl
  have conditions : ∀ q, flashConditions q (s.shown c i) = flashConditions q s := fun _ => rfl
  unfold slotArrival
  rw [flash]
  cases s.photo.flash with
  | none => rfl
  | some q =>
    dsimp only
    rw [conditions]
    split <;> rfl

theorem slotPulse_shown (c : List Pulse) (i : BitVec 15) (s : State) :
    slotPulse (s.shown c i) = (slotPulse s).shown c i := by
  have count : (s.shown c i).photo = s.photo := rfl
  rw [slotPulse_eq, slotPulse_eq, count]
  split
  · exact slotArrival_shown _ c i (s.modPhoto fun p => { p with slotCount := min 255 (s.photo.slotCount + 1) })
  · rfl

theorem acceptEncoder_shown (l : EncoderLine) (level : Bool) (c : List Pulse) (i : BitVec 15) (s : State) :
    acceptEncoder l level (s.shown c i) = (acceptEncoder l level s).shown c i := by
  cases level <;> cases l
  · rfl
  · rfl
  · exact indexPulse_shown c i (setEncoder .index _ s)
  · exact slotPulse_shown c i (setEncoder .slot _ s)


theorem fresh_eq_shown (s : State) : s.fresh = s.shown [] s.sensors.inputs := rfl

theorem setConditioned_eq_shown (bit : Nat) (level : Bool) (s : State) :
    s.setConditioned bit level = s.shown s.pulses (s.setConditioned bit level).sensors.inputs := rfl

/-- An acceptance commutes with bringing a line to a level. -/
theorem acceptEncoder_setConditioned (l : EncoderLine) (accepted : Bool) (bit : Nat) (level : Bool) (s : State) :
    acceptEncoder l accepted (s.setConditioned bit level) = (acceptEncoder l accepted s).setConditioned bit level := by
  rw [setConditioned_eq_shown, acceptEncoder_shown, setConditioned_eq_shown bit level (acceptEncoder l accepted s)]
  have only := acceptEncoder_only l accepted s
  rw [setEncoder_only] at only
  congr 1
  · rw [only]
  · have inputs : (acceptEncoder l accepted s).sensors.inputs = s.sensors.inputs := by
      rw [only]; exact inputs_setEncoder ..
    have inversion : (acceptEncoder l accepted s).inversion = s.inversion := by
      rw [only]; rfl
    simp only [State.setConditioned, State.modSensors, inputs, inversion]

/-! ### Quiet times and the count -/

/-- A time is quiet whatever the levels on the lines are. -/
theorem quietFor_shown (n : Nat) (c : List Pulse) (i : BitVec 15) (s : State) :
    (s.shown c i).quietFor n = s.quietFor n := rfl

/-- The count of ticks since the last index pulse has not passed its end. -/
def State.countBounded (s : State) : Prop := s.photo.counting = true → s.photo.count ≤ maxCount

theorem countBounded_advanceTime (n : Nat) (s : State) : (advanceTime n s).countBounded := by
  intro counting
  have counted : s.photo.counting = true := counting
  simp only [advanceTime_eq, counted, if_true]
  exact Nat.min_le_left ..

theorem countBounded_slotPulse {s : State} (h : s.countBounded) : (slotPulse s).countBounded := by
  rw [slotPulse_eq]
  split
  · obtain ⟨d, only⟩ := slotArrival_only s.photo.slotCount
      (s.modPhoto fun p => { p with slotCount := min 255 (s.photo.slotCount + 1) })
    rw [only]; exact h
  · exact h

theorem countBounded_acceptEncoder {s : State} (h : s.countBounded) (l : EncoderLine) (level : Bool) :
    (acceptEncoder l level s).countBounded := by
  have kept : (setEncoder l { accepted := level, timing := none } s).countBounded := by cases l <;> exact h
  cases level
  · exact kept
  · cases l
    · exact fun _ => Nat.zero_le _
    · exact countBounded_slotPulse kept

/-- No time has passed with 0 ticks. -/
theorem advanceTime_zero_of_countBounded {s : State} (h : s.countBounded) : advanceTime 0 s = s := by
  have count : (if s.photo.counting then min maxCount (s.photo.count + 0) else s.photo.count) = s.photo.count := by
    split
    · next counting => simpa using h counting
    · rfl
  simp only [advanceTime_eq, count, countDown_zero, Lamp.countDown_zero, LineFilter.countDown]

/-! ### The edge of a line (R116) -/

theorem encoderChanged_of_untimed {l : EncoderLine} {s : State} (h : (s.encoder l).timing ≠ some 0) :
    encoderChanged l s = encoderEdge l s := by
  rw [encoderChanged, acceptHeldEncoder, if_neg h]

theorem encoderChanged_of_timedOut {l : EncoderLine} {s : State} (h : (s.encoder l).timing = some 0) :
    encoderChanged l s = encoderEdge l (acceptEncoder l (!s.conditioned (encoderBit l)) s) := by
  rw [encoderChanged, acceptHeldEncoder, if_pos h]

theorem encoderEdge_returns {l : EncoderLine} {level : Bool} {s : State} (has : s.conditioned (encoderBit l) = level)
    (same : (s.encoder l).accepted = level) :
    encoderEdge l s = setEncoder l { accepted := level, timing := none } s := by
  simp only [encoderEdge, has, same, if_true]

theorem encoderEdge_waits {l : EncoderLine} {level : Bool} {s : State} (has : s.conditioned (encoderBit l) = level)
    (other : (s.encoder l).accepted = !level) (rejects : s.rejectionTime ≠ 0) :
    encoderEdge l s = setEncoder l { accepted := !level, timing := some s.rejectionTime } s := by
  simp [encoderEdge, has, other, rejects]

theorem encoderEdge_accepts {l : EncoderLine} {level : Bool} {s : State} (has : s.conditioned (encoderBit l) = level)
    (other : (s.encoder l).accepted = !level) (open_ : s.rejectionTime = 0) :
    encoderEdge l s = acceptEncoder l level s := by
  simp [encoderEdge, has, other, open_]

/-! ### A level change after a time -/

/-- The state in which a level change is judged after `n` ticks with no acceptance on the way. -/
def levelChanged (l : EncoderLine) (level : Bool) (n : Nat) (s : State) : State :=
  (advanceTime n s.fresh).setConditioned (encoderBit l) level

@[simp] theorem conditioned_levelChanged (l : EncoderLine) (level : Bool) (n : Nat) (s : State) :
    (levelChanged l level n s).conditioned (encoderBit l) = level := by
  rw [levelChanged, conditioned_setConditioned _ _ _ _ (encoderBit_lt l), if_pos rfl]

@[simp] theorem encoder_levelChanged (l : EncoderLine) (level : Bool) (n : Nat) (s : State) :
    (levelChanged l level n s).encoder l = (s.encoder l).countDown n := by
  rw [levelChanged, encoder_setConditioned, encoder_advanceTime]
  cases l <;> rfl

theorem rejectionTime_levelChanged (l : EncoderLine) (level : Bool) (n : Nat) (s : State) :
    (levelChanged l level n s).rejectionTime = s.rejectionTime := by
  have config : (levelChanged l level n s).config = s.config := by
    simp only [levelChanged, State.setConditioned, State.modSensors_config, advanceTime_eq, State.fresh]
  simp only [State.rejectionTime, State.setting, State.entry, config]

theorem photo_levelChanged (l : EncoderLine) (level : Bool) (n : Nat) (s : State) :
    (levelChanged l level n s).photo = (advanceTime n s).photo := rfl

/-- Only the line's record and level differ from the state after the ticks. -/
theorem setEncoder_levelChanged (l : EncoderLine) (level : Bool) (n : Nat) (s : State) (f : LineFilter) :
    setEncoder l f (levelChanged l level n s) =
      { (advanceTime n s).fresh with sensors := (setEncoder l f (levelChanged l level n s)).sensors } :=
  setEncoder_only l f _

/-- A level change that the ticks and the acceptance on the way let arise. -/
theorem exec_encoderLevelChange_arises {l : EncoderLine} {level : Bool} {n : Nat} {s : State}
    (other : s.conditioned (encoderBit l) = !level) (quiet : s.quietBefore l n = true) :
    exec (.encoderLevelChange l level n) s =
      .next (encoderChanged l ((timeBefore l n s.fresh).setConditioned (encoderBit l) level)) := by
  have arises : (s.conditioned (encoderBit l) != level && s.quietBefore l n) = true := by
    rw [other, quiet]; cases level <;> rfl
  simp only [exec, execEncoderLevelChange, arises, event_true]

theorem exec_encoderLevelChange {l : EncoderLine} {level : Bool} {n : Nat} {s : State}
    (other : s.conditioned (encoderBit l) = !level) (untimed : ∀ k, (s.encoder l).timing = some k → n ≤ k)
    (quiet : s.quietFor n = true) :
    exec (.encoderLevelChange l level n) s = .next (encoderChanged l (levelChanged l level n s)) := by
  have within : s.timedWithin l n = none := timedWithin_none untimed
  rw [exec_encoderLevelChange_arises other ((quietBefore_of_none within).trans quiet),
    timeBefore_of_none (s := s.fresh) within, levelChanged]

theorem advanceTime_fresh (n : Nat) (s : State) : advanceTime n s.fresh = (advanceTime n s).fresh := rfl

theorem conditioned_advanceTime (bit n : Nat) (s : State) :
    (advanceTime n s).fresh.conditioned bit = s.conditioned bit :=
  conditioned_congr (s := s) (t := (advanceTime n s).fresh) rfl rfl bit

theorem acceptAfter_fresh (l : EncoderLine) (k : Nat) (s : State) :
    acceptAfter l k s.fresh = (acceptAfter l k s).shown [] s.sensors.inputs := by
  have level : s.fresh.conditioned (encoderBit l) = s.conditioned (encoderBit l) := rfl
  rw [acceptAfter, level, advanceTime_fresh, fresh_eq_shown, acceptEncoder_shown]
  rfl

/-- The acceptance of a change whose time is up after `k` ticks. -/
theorem exec_encoderAcceptance {l : EncoderLine} {level : Bool} {s : State}
    (has : s.conditioned (encoderBit l) = !level) (accepted : (s.encoder l).accepted = level) (bounded : s.countBounded) :
    exec (encoderAcceptance l (!level)) s = .next (acceptEncoder l (!level) s.fresh) := by
  have brought : s.fresh.setConditioned (encoderBit l) (!level) = s.fresh := by
    rw [← has]; exact setConditioned_conditioned (encoderBit_lt l) s.fresh
  cases level
  · cases l
    · have still : advanceTime 0 s = s := advanceTime_zero_of_countBounded bounded
      refine (exec_indexPulse (quietFor_zero s)).trans (congrArg _ ?_)
      rw [still, indexAccepted]
      exact congrArg (fun u => indexPulse (setEncoder .index _ u)) brought
    · exact congrArg (fun u => Host.Outcome.next (slotPulse (setEncoder .slot _ u))) brought
  · have command : encoderAcceptance l (!true) = .falseLevelAccepted l := by cases l <;> rfl
    simp only [command, exec, execFalseLevelAccepted, accepted, Bool.true_or, event_true]
    exact congrArg (fun u => Host.Outcome.next (acceptEncoder l false u)) brought

/-- A return after the time of a change is up, in two events: the acceptance, and the new change (R116). -/
theorem exec_encoderLevelChange_late {l : EncoderLine} {level : Bool} {n k : Nat} {s : State}
    (other : s.conditioned (encoderBit l) = !level) (timed : (s.encoder l).timing = some k) (within : k ≤ n)
    (quiet : s.quietFor k = true)
    (quietAfter : (acceptEncoder l (!level) (advanceTime k s).fresh).quietFor (n - k) = true) :
    exec (.encoderLevelChange l level n) s =
      exec (.encoderLevelChange l level (n - k)) (acceptEncoder l (!level) (advanceTime k s).fresh) := by
  generalize made : acceptEncoder l (!level) (advanceTime k s).fresh = s1 at quietAfter ⊢
  have quietPulses : s1.fresh = s1 := by rw [← made]; exact fresh_acceptEncoder rfl l _
  have line : s1.encoder l = { accepted := !level, timing := none } := by rw [← made]; exact encoder_acceptEncoder ..
  have has : s1.conditioned (encoderBit l) = !level := by
    rw [← made, conditioned_acceptEncoder, conditioned_advanceTime, other]
  have bounded : s1.countBounded := by
    rw [← made]; exact countBounded_acceptEncoder (s := (advanceTime k s).fresh) (countBounded_advanceTime k s) l _
  have second := exec_encoderLevelChange (n := n - k) has (fun j h => by rw [line] at h; cases h) quietAfter
  rw [second]
  rcases Nat.lt_or_ge k n with early | late
  · have passed : s.timedWithin l n = some k := by simp [State.timedWithin, timed, early]
    have passed' : s.fresh.timedWithin l n = some k := passed
    have onTheWay : acceptAfter l k s.fresh = s1 := by
      rw [acceptAfter, advanceTime_fresh, show s.fresh.conditioned (encoderBit l) = !level from other, made]
    have arises : s.quietBefore l n = true := by
      simp only [State.quietBefore, passed, quiet, Bool.true_and]
      rwa [← onTheWay, acceptAfter_fresh, quietFor_shown] at quietAfter
    rw [exec_encoderLevelChange_arises other arises, timeBefore, passed', levelChanged, quietPulses]
    dsimp only
    rw [onTheWay]
  · obtain rfl : k = n := Nat.le_antisymm within late
    have untimed : (s1.encoder l).timing ≠ some 0 := by rw [line]; exact Option.some_ne_none 0 |>.symm
    have up : ((levelChanged l level k s).encoder l).timing = some 0 := by
      rw [encoder_levelChanged, LineFilter.countDown_timing, timed, countDown_some, Nat.sub_self]
    rw [exec_encoderLevelChange other (fun j h => by rw [timed] at h; cases h; exact le_rfl) quiet,
      encoderChanged_of_timedOut up, conditioned_levelChanged, levelChanged, acceptEncoder_setConditioned,
      advanceTime_fresh, made, levelChanged, quietPulses, Nat.sub_self, advanceTime_zero_of_countBounded bounded,
      encoderChanged_of_untimed]
    rw [encoder_setConditioned]; exact untimed

/-! ### The statement -/

/-- The timers of R116 one by one. -/
theorem quietFor_iff {n : Nat} {s : State} :
    s.quietFor n = true ↔ (∀ k, s.photo.lamp = .recharging k → n ≤ k) ∧
      ∀ t ∈ [s.photo.indexTimer, s.photo.turretTimer, s.photo.lensTimer, s.photo.carriageTimer, s.photo.delay,
          s.photo.lockWatch, s.sensors.index.timing, s.sensors.slot.timing, s.sensors.cassette.timing,
          s.sensors.lid.timing, s.sensors.paper.timing, s.film.timer, s.exposure.cutTimer], ∀ k, t = some k → n ≤ k := by
  have late : ∀ t : Option Nat, (t.all fun k => decide (n ≤ k)) = true ↔ ∀ k, t = some k → n ≤ k := fun t => by
    cases t <;> simp
  have lamp : (∀ k, s.photo.lamp.timer = some k → n ≤ k) ↔ ∀ k, s.photo.lamp = .recharging k → n ≤ k := by
    cases s.photo.lamp <;> simp [Lamp.timer]
  simp only [State.quietFor, State.timers, List.all_eq_true, late, List.forall_mem_cons, lamp]
  tauto

/-- Settles O32. -/
theorem encoderChangesWaitTheRejectionTime : Obligations.EncoderChangesWaitTheRejectionTime := by
  refine ⟨fun s l level n other quiet => ⟨fun accepted untimed rejects => ?_, fun accepted untimed => ?_⟩,
    fun s l level n k other accepted timed within quiet => ?_, fun s l level n untimed busy => ?_,
    fun s l n has accepted untimed quiet open_ => ?_, fun s l accepted => ?_, fun s n => quietFor_iff⟩
  · have waits := encoderEdge_waits (conditioned_levelChanged l level n s) (by simp [accepted])
      (by rwa [rejectionTime_levelChanged])
    rw [exec_encoderLevelChange other (fun k timed => by rw [untimed] at timed; cases timed) quiet,
      encoderChanged_of_untimed (by simp [untimed]), waits, rejectionTime_levelChanged]
    exact ⟨_, rfl, setEncoder_levelChanged .., encoder_setEncoder ..⟩
  · have runs : ((levelChanged l level n s).encoder l).timing ≠ some 0 := by
      rw [encoder_levelChanged, LineFilter.countDown_timing]
      cases timed : (s.encoder l).timing with
      | none => simp
      | some k => have := untimed k timed; simp; omega
    have returns := encoderEdge_returns (conditioned_levelChanged l level n s) (by simp [accepted])
    rw [exec_encoderLevelChange other (fun k timed => (untimed k timed).le) quiet, encoderChanged_of_untimed runs,
      returns]
    exact ⟨_, rfl, setEncoder_levelChanged .., encoder_setEncoder ..⟩
  · have has : (advanceTime k s).conditioned (encoderBit l) = !level := (conditioned_advanceTime _ k s).trans other
    exact ⟨_, exec_encoderAcceptance has (by simp [accepted]) (countBounded_advanceTime k s),
      exec_encoderLevelChange_late other timed within quiet⟩
  · have within : s.timedWithin l n = none := timedWithin_none fun k timed => by rw [untimed] at timed; cases timed
    simp only [exec, execEncoderLevelChange, quietBefore_of_none within, busy, Bool.and_false, event_false]
  · have accepts := encoderEdge_accepts (conditioned_levelChanged l false n s) (by simp [accepted])
      (by rwa [rejectionTime_levelChanged])
    rw [exec_encoderLevelChange (by simp [has]) (fun k timed => by rw [untimed] at timed; cases timed) quiet,
      encoderChanged_of_untimed (by simp [untimed]), accepts]
    refine ⟨_, rfl, encoder_acceptEncoder .., ?_⟩
    rw [acceptEncoder_false, setEncoder_only]; rfl
  · have falls : exec (.falseLevelAccepted l) s =
        .next (acceptEncoder l false (s.fresh.setConditioned (encoderBit l) false)) := by
      simp only [exec, execFalseLevelAccepted, accepted, Bool.true_or, event_true]
    refine ⟨_, falls, ?_, encoder_acceptEncoder .., ?_⟩
    · rw [acceptEncoder_false, setEncoder_only]; rfl
    · rw [conditioned_acceptEncoder, conditioned_setConditioned _ _ _ _ (encoderBit_lt l), if_pos rfl]

end Sys2Proof.Machine
end

section
/-! PROOF. The steps of the carriage (O40). -/

namespace Sys2Proof.Machine

/-! ### The steps (R131) -/

theorem exec_carriageStep {s : State} (h : s.photo.carriageTimer.isSome) :
    exec .carriageStep s = .next (carriageReport (stepCarriage s.fresh)) := by
  simp only [exec, execCarriageStep, h, event_true]

theorem stepCarriage_steps {x pos : Nat} {s : State} (h : s.photo.carriage = .stepping x)
    (next : (if decide (s.photo.position < x) = true then s.photo.position + 1 else s.photo.position - 1) = pos) :
    stepCarriage s = (pulseCarriage (decide (s.photo.position < x)) s).modPhoto fun p =>
      { p with position := pos, carriage := if pos = x then .settled else .stepping x,
               carriageTimer := if pos = x then none else some s.carriagePeriod } := by
  unfold stepCarriage
  rw [h]
  dsimp only
  rw [next]
  by_cases there : pos = x
  · simp only [there, if_true]
  · simp only [there, if_false]
    rw [← h]; rfl

theorem stepCarriage_homes {n : Nat} {target : Option Nat} {s : State} (h : s.photo.carriage = .homing n target)
    (more : 1 < n) :
    stepCarriage s = (pulseCarriage false s).modPhoto fun p =>
      { p with carriage := .homing (n - 1) target, carriageTimer := some s.carriagePeriod } := by
  unfold stepCarriage
  rw [h]
  exact if_neg (by omega)

/-- The last step of the home run, with no target left beyond 0. -/
theorem stepCarriage_homed {s : State}
    (h : s.photo.carriage = .homing 1 none ∨ s.photo.carriage = .homing 1 (some 0)) :
    stepCarriage s = (pulseCarriage false s).modPhoto fun p =>
      { p with position := 0, carriage := .settled, carriageTimer := none } := by
  unfold stepCarriage
  rcases h with h | h <;> rw [h] <;> rfl

theorem stepCarriage_homedToward {x : Nat} {s : State} (beyond : 0 < x)
    (h : s.photo.carriage = .homing 1 (some x)) :
    stepCarriage s = (pulseCarriage false s).modPhoto fun p =>
      { p with position := 0, carriage := .stepping x, carriageTimer := some s.carriagePeriod } := by
  obtain ⟨y, rfl⟩ : ∃ y, x = y + 1 := ⟨x - 1, by omega⟩
  unfold stepCarriage
  rw [h]
  rfl

/-! ### The settling report (R131, R141) -/

/-- A line waits in its carriage sub-step. -/
def State.awaitsCarriage (s : State) : Prop :=
  ∃ l g, s.exposure.work = .line l ∧ s.exposure.hold = none ∧ l.glyph = some g ∧ l.step = .carriage

theorem carriageReport_unsettled {s : State} (h : s.photo.carriage ≠ .settled) : carriageReport s = s := by
  unfold carriageReport
  split
  · next l g _ =>
    refine if_neg fun ⟨_, settled⟩ => h ?_
    simp only [State.settledAt, Bool.and_eq_true, beq_iff_eq] at settled
    exact settled.1
  · rfl

theorem carriageReport_unawaited {s : State} (h : ¬ s.awaitsCarriage) : carriageReport s = s := by
  unfold carriageReport
  split
  · next l g active =>
    obtain ⟨work, hold, glyph⟩ := activeGlyph_eq_some.mp active
    exact if_neg fun ⟨step, _⟩ => h ⟨l, g, work, hold, glyph, step⟩
  · rfl

theorem carriageReport_arms {l : LineWork} {g : SetGlyph} {s : State} (work : s.exposure.work = .line l)
    (hold : s.exposure.hold = none) (glyph : l.glyph = some g) (step : l.step = .carriage)
    (settled : s.photo.carriage = .settled) (there : s.photo.position = min 17280 g.x) :
    carriageReport s = shutterStep l g s := by
  unfold carriageReport
  rw [activeGlyph_of_exposed work hold glyph]
  exact if_pos ⟨step, by simp only [State.settledAt, settled, there, beq_self_eq_true, Bool.and_self]⟩

theorem shutterStep_armed {l : LineWork} {g : SetGlyph} {p : Placement} {x : LensPos} {s : State}
    (hold : s.exposure.hold = none) (placed : (s.font g.slot).placement = some p) (lens : s.lensFor g.size = some x) :
    GlyphArmed l g p x (shutterStep l g s) := by
  rw [shutterStep_arms placed lens]
  exact ⟨⟨rfl, hold⟩, rfl, rfl, rfl⟩

theorem shutterStep_unplaced {l : LineWork} {g : SetGlyph} {s : State} (unplaced : (s.font g.slot).placement = none) :
    shutterStep l g s = takeHold .fontUnplaced (setStep l .decision s) := by
  unfold shutterStep
  rw [unplaced]

/-- What the end of the carriage sub-step leaves alone, also where it holds. -/
theorem shutterStep_frame (l : LineWork) (g : SetGlyph) (s : State) :
    (shutterStep l g s).photo.carriage = s.photo.carriage ∧ (shutterStep l g s).photo.position = s.photo.position ∧
    (shutterStep l g s).photo.carriageTimer = s.photo.carriageTimer ∧ (shutterStep l g s).pulses = s.pulses ∧
    (shutterStep l g s).fonts = s.fonts ∧ (shutterStep l g s).store = s.store := by
  unfold shutterStep takeHold
  (repeat' split) <;> exact ⟨rfl, rfl, rfl, rfl, rfl, rfl⟩

/-! ### The settling in the carriage sub-step -/

/-- The state after a step that settles the carriage at `x`. -/
def carriageSettled (forward : Bool) (x : Nat) (s : State) : State :=
  (pulseCarriage forward s.fresh).modPhoto fun p =>
    { p with position := x, carriage := .settled, carriageTimer := none }

/-- The steps that settle the carriage at `target`, the last of the home run and the last of a run toward it. -/
theorem stepCarriage_settles {target : Nat} {s : State}
    (h : s.photo.carriage = .stepping target ∧
        (s.photo.position + 1 = target ∨ s.photo.position = target + 1) ∨
      target = 0 ∧ (s.photo.carriage = .homing 1 none ∨ s.photo.carriage = .homing 1 (some 0))) :
    stepCarriage s.fresh = carriageSettled (decide (s.photo.position < target)) target s := by
  rcases h with ⟨stepping, near⟩ | ⟨rfl, last⟩
  · have there : (if decide (s.photo.position < target) = true then s.photo.position + 1 else s.photo.position - 1) =
        target := by
      rcases near with near | near
      · rw [if_pos (by simp; omega)]; exact near
      · rw [if_neg (by simp; omega)]; omega
    have steps := stepCarriage_steps (s := s.fresh) stepping there
    simp only [if_true] at steps
    exact steps
  · exact stepCarriage_homed (s := s.fresh) last

theorem settled_shutterStep {l : LineWork} {g : SetGlyph} {forward : Bool} {target : Nat} (s : State) :
    let t := shutterStep l g (carriageSettled forward target s)
    t.photo.carriage = .settled ∧ t.photo.position = target ∧ t.photo.carriageTimer = none ∧
    t.pulses = [.carriageStep forward] ∧ t.fonts = s.fonts ∧ t.store = s.store :=
  shutterStep_frame l g (carriageSettled forward target s)

/-- Settles O40. -/
theorem carriageStepsTowardItsTarget : Obligations.CarriageStepsTowardItsTarget := by
  intro s runs
  refine ⟨fun x stepping away => ?_, fun n target homing more => ?_, fun unawaited homed => ?_,
    fun x beyond homed => ?_, fun l g work hold glyph step => ?_⟩
  · intro forward pos goesOn
    rw [exec_carriageStep runs, stepCarriage_steps (s := s.fresh) (pos := pos) stepping rfl]
    rcases goesOn with unawaited | short
    · exact congrArg _ (carriageReport_unawaited unawaited)
    · refine congrArg _ (carriageReport_unsettled ?_)
      rw [State.modPhoto_photo, if_neg short]
      exact Carriage.noConfusion
  · rw [exec_carriageStep runs, stepCarriage_homes (s := s.fresh) homing more]
    exact congrArg _ (carriageReport_unsettled Carriage.noConfusion)
  · rw [exec_carriageStep runs, stepCarriage_homed (s := s.fresh) homed]
    exact congrArg _ (carriageReport_unawaited unawaited)
  · rw [exec_carriageStep runs, stepCarriage_homedToward (s := s.fresh) beyond homed]
    exact congrArg _ (carriageReport_unsettled Carriage.noConfusion)
  · intro target settles settled last
    have arms := carriageReport_arms (s := carriageSettled (decide (s.photo.position < target)) target s) work hold
      glyph step rfl rfl
    rw [exec_carriageStep runs, stepCarriage_settles last, arms]
    refine ⟨fun p x placed lens => ⟨_, rfl, settled_shutterStep s, ?_⟩,
      fun unplaced => ⟨_, rfl, settled_shutterStep s, ?_⟩⟩
    · exact shutterStep_armed hold placed ((lensFor_congr rfl _).trans lens)
    · rw [shutterStep_unplaced (s := carriageSettled _ target s) unplaced]
      exact takeHold_at hold rfl

end Sys2Proof.Machine
end

section
/-! PROOF. The lens (O39): arrivals, falls and timeouts. -/

namespace Sys2Proof.Machine

/-! ### Reports of the lens (R141, R143) -/

/-- With no line in exposure there is no glyph to go on with. -/
theorem activeGlyph_of_noLine {s : State} (h : s.exposure.work.isLine = false) : s.activeGlyph = none := by
  unfold State.activeGlyph
  split
  · next l work _ => rw [work] at h; cases h
  · rfl

theorem activeGlyph_of_held {s : State} (h : s.exposure.hold.isSome) : s.activeGlyph = none := by
  unfold State.activeGlyph
  split
  · next l _ hold => rw [hold] at h; cases h
  · rfl

theorem lensReport_unawaited {arrived : Bool} {s : State}
    (h : s.exposure.work.isLine = false ∨ s.exposure.hold.isSome ∨ ∃ l, s.exposure.work = .line l ∧ l.step ≠ .lens) :
    lensReport arrived s = s := by
  unfold lensReport
  split
  · next l g active =>
    refine if_neg fun step => ?_
    rcases h with noLine | held | ⟨l', work, other⟩
    · rw [activeGlyph_of_noLine noLine] at active; cases active
    · rw [activeGlyph_of_held held] at active; cases active
    · cases work.symm.trans (activeGlyph_eq_some.mp active).1
      exact other step
  · rfl

section Awaited

variable {l : LineWork} {g : SetGlyph} {s : State} (work : s.exposure.work = .line l)
  (hold : s.exposure.hold = none) (glyph : l.glyph = some g)
include work hold glyph

theorem lensReport_arrived (step : l.step = .lens) : lensReport true s = carriageStep l g s := by
  unfold lensReport
  rw [activeGlyph_of_exposed work hold glyph]
  exact if_pos step

theorem lensReport_timedOut (step : l.step = .lens) : lensReport false s = takeHold .lensJam s := by
  unfold lensReport
  rw [activeGlyph_of_exposed work hold glyph]
  exact if_pos step

theorem lensLost_pastLens (past : l.step.pastLens = true) : lensLost s = takeHold .lensJam (setStep l .lens s) := by
  unfold lensLost
  rw [activeGlyph_of_exposed work hold glyph]
  exact if_pos past

theorem lensLost_before (before : l.step.pastLens = false) : lensLost s = s := by
  unfold lensLost
  rw [activeGlyph_of_exposed work hold glyph]
  exact if_neg (ne_true_of_eq_false before)

end Awaited

theorem lensLost_of_noLine {s : State} (h : s.exposure.work.isLine = false) : lensLost s = s := by
  unfold lensLost; rw [activeGlyph_of_noLine h]

@[simp] theorem takeHold_lens (r : HoldReason) (s : State) : (takeHold r s).photo.lens = s.photo.lens := by
  unfold takeHold; split <;> rfl

/-- The loss of the lens touches the exposure, the flash request and the film. -/
theorem lensLost_frame (s : State) :
    (lensLost s).photo.lens = s.photo.lens ∧ (lensLost s).photo.disc = s.photo.disc ∧ (lensLost s).fonts = s.fonts := by
  unfold lensLost takeHold
  (repeat' split) <;> exact ⟨rfl, rfl, rfl⟩

/-! ### The carriage commanded by an arrival -/

theorem commandCarriage_only (x : Nat) (s : State) :
    ∃ c k, commandCarriage x s = { s with photo := { s.photo with carriage := c, carriageTimer := k } } := by
  unfold commandCarriage
  dsimp only
  (repeat' split) <;> exact ⟨_, _, rfl⟩

/-- A carriage command for a glyph in place touches the carriage, the shutter, the flash request and the step. -/
theorem carriageStep_only {l : LineWork} {g : SetGlyph} {p : Placement} {x : LensPos} {s : State}
    (placed : (s.font g.slot).placement = some p) (lens : s.lensFor g.size = some x) :
    ∃ c k sh f d e, carriageStep l g s = { s with
      photo := { s.photo with carriage := c, carriageTimer := k, shutter := sh, flash := f, delay := d }
      exposure := e } := by
  obtain ⟨c, k, only⟩ := commandCarriage_only g.x (setStep l .carriage s)
  have arms : shutterStep l g (commandCarriage g.x (setStep l .carriage s)) = _ :=
    shutterStep_arms (p := p) (x := x) (by rw [only]; exact placed) ((lensFor_congr (by rw [only]; rfl) _).trans lens)
  unfold carriageStep
  dsimp only
  split
  · rw [arms, only]; exact ⟨_, _, _, _, _, _, rfl⟩
  · rw [only]; exact ⟨_, _, _, _, _, _, rfl⟩

/-! ### The events of the lens (R130) -/

theorem lensRises_moving {p : LensPos} {s : State} (moving : s.photo.lens = .moving p) :
    lensRises s =
      if s.photo.lensExpired then s.modPhoto fun x => { x with lens := .standing p, lensTimer := none }
      else lensReport true (s.modPhoto fun x => { x with lens := .standing p, lensTimer := none }) := by
  unfold lensRises; rw [moving]

theorem lensFalls_standing {p : LensPos} {s : State} (standing : s.photo.lens = .standing p) :
    lensFalls s = lensLost (s.modPhoto fun x => { x with lens := .unknown }) := by
  unfold lensFalls; rw [standing]

theorem lensTimesOut_moving {p : LensPos} {s : State} (moving : s.photo.lens = .moving p) :
    lensTimesOut s = lensReport false (s.modPhoto fun x => { x with lensTimer := none, lensExpired := true }) := by
  unfold lensTimesOut; rw [moving]

/-- The lens stands where it was driven to. -/
def lensStands (p : LensPos) (s : State) : State :=
  (s.fresh.setConditioned (sensorBit .lensReady) true).modPhoto fun x => { x with lens := .standing p, lensTimer := none }

theorem exec_lensArrival {p : LensPos} {s : State} (moving : s.photo.lens = .moving p) :
    exec .lensArrival s =
      .next (if s.photo.lensExpired then lensStands p s else lensReport true (lensStands p s)) := by
  have arises : s.photo.lens.isMoving = true := by rw [moving]; rfl
  simp only [exec, execLensArrival, arises, event_true]
  exact congrArg _ (lensRises_moving (s := s.fresh.setConditioned _ true) moving)

/-- The lens has left its position. -/
def lensLeft (s : State) : State :=
  (s.fresh.setConditioned (sensorBit .lensReady) false).modPhoto fun x => { x with lens := .unknown }

theorem exec_lensReadyFall {p : LensPos} {s : State} (standing : s.photo.lens = .standing p) :
    exec .lensReadyFall s = .next (lensLost (lensLeft s)) :=
  congrArg _ (lensFalls_standing (s := s.fresh.setConditioned (sensorBit .lensReady) false) standing)

theorem exec_lensTimeout {p : LensPos} {s : State} (runs : s.photo.lensTimer.isSome)
    (moving : s.photo.lens = .moving p) :
    exec .lensTimeout s =
      .next (lensReport false (s.fresh.modPhoto fun x => { x with lensTimer := none, lensExpired := true })) := by
  simp only [exec, execLensTimeout, runs, event_true]
  exact congrArg _ (lensTimesOut_moving (s := s.fresh) moving)

/-- Settles O39. -/
theorem lensArrivalsFallsAndTimeouts : Obligations.LensArrivalsFallsAndTimeouts := by
  refine ⟨fun s p moving unheard => ?_,
    fun s y x l g p moving fresh work hold glyph step placed lens => ?_, fun s p standing => ?_,
    fun s p runs moving => ⟨fun noLine => ?_, fun l g work hold glyph step => ?_⟩⟩
  · refine ⟨lensStands p s, ?_, rfl⟩
    rw [exec_lensArrival moving]
    split
    · rfl
    · next inTime =>
      exact congrArg _ (lensReport_unawaited (s := lensStands p s) (unheard.resolve_left inTime))
  · have arrived := lensReport_arrived (s := lensStands y s) work hold glyph step
    have lens' : (lensStands y s).lensFor g.size = some x := (lensFor_congr rfl _).trans lens
    obtain ⟨commanded, pulses⟩ := carriageStep_commands (l := l) (s := lensStands y s) placed lens' hold
    obtain ⟨c, k, sh, f, d, e, only⟩ := carriageStep_only (l := l) (s := lensStands y s) placed lens'
    rw [exec_lensArrival moving, fresh, arrived]
    refine ⟨_, rfl, ?_, ?_, carriageCommanded_congr rfl rfl rfl commanded, pulses, ?_, ?_, ?_, ?_, ?_⟩
    all_goals rw [only]; rfl
  · obtain ⟨lens, disc, fonts⟩ := lensLost_frame (lensLeft s)
    refine ⟨_, exec_lensReadyFall standing, lens, disc, fonts, fun noLine => ?_, fun l g work hold glyph =>
      ⟨fun past => ?_, fun before => ?_⟩⟩
    · rw [lensLost_of_noLine (s := lensLeft s) noLine]; exact ⟨rfl, rfl⟩
    · obtain ⟨step, held, -, flash, -⟩ :=
        takeHold_at (l := l) (st := .lens) (r := .lensJam) (s := setStep l .lens (lensLeft s)) hold rfl
      rw [lensLost_pastLens (s := lensLeft s) work hold glyph past]
      exact ⟨held, step, flash⟩
    · rw [lensLost_before (s := lensLeft s) work hold glyph before]; rfl
  · rw [exec_lensTimeout runs moving, lensReport_unawaited (s := s.fresh.modPhoto _) (.inl noLine)]
  · rw [exec_lensTimeout runs moving, lensReport_timedOut (s := s.fresh.modPhoto _) work hold glyph step]
    obtain ⟨work', held, raised, -⟩ := takeHold_of_idle (r := .lensJam)
      (s := s.fresh.modPhoto fun x => { x with lensTimer := none, lensExpired := true }) hold
    exact ⟨_, rfl, (takeHold_lens ..).trans moving, held, work', raised⟩

end Sys2Proof.Machine
end

section
/-! SUPPORT. The glyph decision whole (R140, R141): `GlyphDecided`, which the flash complete report and the retry of a held
line go on with. -/

namespace Sys2Proof.Machine

/-! ### What the sub-steps of the positioning keep -/

/-- The line is still the one in exposure, at some step, and the lamp, the fonts and the disc fault note are kept. -/
def Positions (l : LineWork) (s t : State) : Prop :=
  (∃ st, t.exposure.work = .line { l with step := st }) ∧ t.photo.lamp = s.photo.lamp ∧ t.fonts = s.fonts ∧
  t.exposure.note = s.exposure.note

/-- A sub-step that follows an update of the step, the Photo Unit's drives or the flash request. -/
theorem Positions.of_kept {l : LineWork} {s u t : State} (h : Positions l u t) (lamp : u.photo.lamp = s.photo.lamp)
    (fonts : u.fonts = s.fonts) (note : u.exposure.note = s.exposure.note) : Positions l s t := by
  obtain ⟨work, lamp', fonts', note'⟩ := h
  exact ⟨work, lamp'.trans lamp, fonts'.trans fonts, note'.trans note⟩

theorem positions_takeHold {l : LineWork} {st : LineStep} (r : HoldReason) {s : State}
    (work : s.exposure.work = .line { l with step := st }) : Positions l s (takeHold r s) := by
  unfold takeHold
  split
  · exact ⟨⟨st, work⟩, rfl, rfl, rfl⟩
  · exact ⟨⟨st, work⟩, rfl, rfl, rfl⟩

theorem positions_shutterStep (l : LineWork) (g : SetGlyph) (s : State) : Positions l s (shutterStep l g s) := by
  unfold shutterStep
  split
  · exact ⟨⟨.armed, rfl⟩, rfl, rfl, rfl⟩
  · exact (positions_takeHold (s := setStep l .decision s) .fontUnplaced rfl).of_kept rfl rfl rfl

theorem positions_carriageStep (l : LineWork) (g : SetGlyph) (s : State) : Positions l s (carriageStep l g s) := by
  obtain ⟨c, k, only⟩ := commandCarriage_only g.x (setStep l .carriage s)
  unfold carriageStep
  dsimp only
  rw [only]
  split
  · exact (positions_shutterStep l g _).of_kept rfl rfl rfl
  · exact ⟨⟨.carriage, rfl⟩, rfl, rfl, rfl⟩

theorem positions_lensStep (l : LineWork) (g : SetGlyph) (s : State) : Positions l s (lensStep l g s) := by
  unfold lensStep
  dsimp only
  (repeat' split)
  · exact (positions_carriageStep l g _).of_kept rfl rfl rfl
  · exact ⟨⟨.lens, rfl⟩, rfl, rfl, rfl⟩
  · exact ⟨⟨.lens, rfl⟩, rfl, rfl, rfl⟩

theorem positions_turretStep (l : LineWork) (g : SetGlyph) (p : Placement) (s : State) :
    Positions l s (turretStep l g p s) := by
  unfold turretStep
  dsimp only
  (repeat' split)
  · exact (positions_takeHold (s := setStep l .decision (setStep l .turret s)) .discMismatch rfl).of_kept rfl rfl rfl
  · exact (positions_lensStep l g (setStep l .turret s)).of_kept rfl rfl rfl
  · exact ⟨⟨.turret, rfl⟩, rfl, rfl, rfl⟩

/-! ### The decision after check 4 -/

section Placed

variable {l : LineWork} {g : SetGlyph} {p : Placement} {s : State}

theorem decidePlaced_mismatch (h : (s.font g.slot).verification = .mismatch) :
    decidePlaced l g p s = takeHold .discMismatch s := if_pos h

theorem decidePlaced_fault (h : (s.font g.slot).verification ≠ .mismatch)
    (fault : s.exposure.note = true ∧ s.photo.disc ≠ .locked) : decidePlaced l g p s = takeHold .discFault s := by
  rw [decidePlaced, if_neg h, if_pos fault]

theorem decidePlaced_goesOn (h : (s.font g.slot).verification ≠ .mismatch)
    (calm : ¬ (s.exposure.note = true ∧ s.photo.disc ≠ .locked)) :
    decidePlaced l g p s = turretStep l g p (s.modExposure fun e => { e with note := false }) := by
  rw [decidePlaced, if_neg h, if_neg calm]

/-- The rest of the decision keeps the line in exposure, the lamp and the fonts. -/
theorem decidePlaced_keeps (work : s.exposure.work = .line { l with step := .decision }) :
    (∃ st, (decidePlaced l g p s).exposure.work = .line { l with step := st }) ∧
    (decidePlaced l g p s).photo.lamp = s.photo.lamp ∧ (decidePlaced l g p s).fonts = s.fonts := by
  unfold decidePlaced
  (repeat' split)
  · obtain ⟨line, lamp, fonts, -⟩ := positions_takeHold .discMismatch work; exact ⟨line, lamp, fonts⟩
  · obtain ⟨line, lamp, fonts, -⟩ := positions_takeHold .discFault work; exact ⟨line, lamp, fonts⟩
  · obtain ⟨line, lamp, fonts, -⟩ := positions_turretStep l g p (s.modExposure fun e => { e with note := false })
    exact ⟨line, lamp, fonts⟩

/-- The turret sub-step at the station goes on to the lens. -/
theorem turretStep_here (here : s.photo.turret = .standing (s.stationMap p.station))
    (h : (s.font g.slot).verification ≠ .mismatch) : turretStep l g p s = lensStep l g (setStep l .turret s) := by
  have stands : (setStep l .turret s).photo.turret = .standing ((setStep l .turret s).stationMap p.station) := here
  have fits : ((setStep l .turret s).font g.slot).verification ≠ .mismatch := h
  unfold turretStep
  dsimp only
  rw [if_pos stands, if_neg fits]

theorem lensStep_commands_turretStep {x : LensPos} (hold : s.exposure.hold = none)
    (placed : (s.font g.slot).placement = some p) (lens : s.lensFor g.size = some x)
    (here : s.photo.turret = .standing (s.stationMap p.station)) (h : (s.font g.slot).verification ≠ .mismatch) :
    LensCommanded l g p x s (turretStep l g p s) := by
  rw [turretStep_here here h]
  exact lensCommanded_congr rfl rfl rfl rfl rfl
    (lensStep_commands (s := setStep l .turret s) placed ((lensFor_congr rfl _).trans lens) hold)

end Placed

/-! ### The decision -/

/-- The verification that check 4 leaves of a placed font (R140). -/
def judgedVerification (g : SetGlyph) (p : Placement) (s : State) : Verification :=
  let font := s.font g.slot
  if font.verification = .unverified ∧ s.photo.turret = .standing (s.stationMap p.station) ∧ font.state ≠ .empty then
    if p.code = s.discCodeLines then .verified else .mismatch
  else font.verification

/-- The state after check 4: the step is the decision, and a font at the turret's station has been judged. -/
def decisionState (l : LineWork) (g : SetGlyph) (p : Placement) (s : State) : State :=
  if (s.font g.slot).verification = .unverified ∧ s.photo.turret = .standing (s.stationMap p.station) then
    latchHere (s.stationMap p.station) (setStep l .decision s)
  else setStep l .decision s

theorem glyphDecision_placed {l : LineWork} {g : SetGlyph} {p : Placement} {s : State}
    (loaded : s.film.loaded = true) (placed : (s.font g.slot).placement = some p) :
    glyphDecision l g s = decidePlaced l g p (decisionState l g p s) := by
  have loaded' : (setStep l .decision s).film.loaded = true := loaded
  have placed' : ((setStep l .decision s).font g.slot).placement = some p := placed
  unfold glyphDecision decisionState
  dsimp only
  rw [loaded', placed']
  exact (apply_ite (decidePlaced l g p) _ _ _).symm

/-- Check 4 touches the fonts and the latched code. -/
theorem decisionState_only (l : LineWork) (g : SetGlyph) (p : Placement) (s : State) :
    ∃ f c, decisionState l g p s = { s with
      fonts := f, photo := { s.photo with latched := c }
      exposure := { s.exposure with work := .line { l with step := .decision } } } := by
  unfold decisionState
  split
  · exact ⟨_, _, rfl⟩
  · exact ⟨_, _, rfl⟩

theorem decisionState_font {l : LineWork} {g : SetGlyph} {p : Placement} {s : State}
    (placed : (s.font g.slot).placement = some p) :
    (decisionState l g p s).font g.slot = { s.font g.slot with verification := judgedVerification g p s } := by
  unfold decisionState
  split
  · next judged =>
    obtain ⟨unverified, here⟩ := judged
    by_cases empty : (s.font g.slot).state = .empty
    · have none_ : judgedVerification g p s = (s.font g.slot).verification :=
        if_neg fun ⟨_, _, used⟩ => used empty
      rw [none_]
      exact verifyAt_font_elsewhere (.inr (.inl empty))
    · have judges : judgedVerification g p s = if p.code = s.discCodeLines then .verified else .mismatch :=
        if_pos ⟨unverified, here, empty⟩
      rw [judges]
      exact verifyAt_font_placed placed empty rfl
  · next kept =>
    have none_ : judgedVerification g p s = (s.font g.slot).verification :=
      if_neg fun ⟨unverified, here, _⟩ => kept ⟨unverified, here⟩
    rw [none_]
    rfl

/-- What a decision does to the line, whether it holds or goes on. -/
theorem glyphDecision_keeps (l : LineWork) (g : SetGlyph) (s : State) :
    (∃ st, (glyphDecision l g s).exposure.work = .line { l with step := st }) ∧
    (glyphDecision l g s).photo.lamp = s.photo.lamp := by
  cases loaded : s.film.loaded with
  | false =>
    obtain ⟨line, lamp, -⟩ := positions_takeHold (s := setStep l .decision s) .cassetteOut rfl
    rw [glyphDecision_unloaded loaded]; exact ⟨line, lamp⟩
  | true =>
    cases placed : (s.font g.slot).placement with
    | none =>
      obtain ⟨line, lamp, -⟩ := positions_takeHold (s := setStep l .decision s) .fontUnplaced rfl
      rw [glyphDecision_unplaced loaded placed]; exact ⟨line, lamp⟩
    | some p =>
      obtain ⟨f, c, only⟩ := decisionState_only l g p s
      obtain ⟨line, lamp, -⟩ := decidePlaced_keeps (l := l) (g := g) (p := p) (s := decisionState l g p s)
        (by rw [only])
      rw [glyphDecision_placed loaded placed]
      exact ⟨line, lamp.trans (by rw [only])⟩

theorem turretCommanded_congr {l : LineWork} {q : Station} {s u t : State} (config : u.config = s.config)
    (pulses : u.pulses = s.pulses) (h : TurretCommanded l q u t) : TurretCommanded l q s t := by
  have time : u.turretTime = s.turretTime := by
    simp only [State.turretTime, State.setting1, State.setting, State.entry, config]
  unfold TurretCommanded at *
  rwa [time, pulses] at h

theorem glyphDecided_glyphDecision {l : LineWork} {g : SetGlyph} {s : State} (hold : s.exposure.hold = none) :
    GlyphDecided l g s (glyphDecision l g s) := by
  refine ⟨fun unloaded => ?_, fun loaded unplaced => ?_, fun p loaded placed => ?_⟩
  · rw [glyphDecision_unloaded unloaded]; exact takeHold_at hold rfl
  · rw [glyphDecision_unplaced loaded unplaced]; exact takeHold_at hold rfl
  obtain ⟨f, c, only⟩ := decisionState_only l g p s
  have font := decisionState_font (l := l) placed
  rw [glyphDecision_placed loaded placed]
  generalize decisionState l g p s = u at only font
  have work : u.exposure.work = .line { l with step := .decision } := by rw [only]
  have hold' : u.exposure.hold = none := by rw [only]; exact hold
  have note : u.exposure.note = s.exposure.note := by rw [only]
  have disc : u.photo.disc = s.photo.disc := by rw [only]
  have turret : u.photo.turret = s.photo.turret := by rw [only]
  have config : u.config = s.config := by rw [only]
  have pulses : u.pulses = s.pulses := by rw [only]
  have placed' : (u.font g.slot).placement = some p := by rw [font]; exact placed
  have verification : (u.font g.slot).verification = judgedVerification g p s := by rw [font]
  obtain ⟨-, -, fonts⟩ := decidePlaced_keeps (l := l) (g := g) (p := p) work
  refine ⟨?_, fun mismatch => ?_, fun matches_ fault => ?_, fun matches_ calm => ?_⟩
  · rw [State.font, fonts]; exact verification
  · rw [decidePlaced_mismatch (verification.trans mismatch)]
    exact takeHold_at hold' work
  · rw [decidePlaced_fault (by rw [verification]; exact matches_) (by rw [note, disc]; exact fault)]
    exact takeHold_at hold' work
  · have fits : (u.font g.slot).verification ≠ .mismatch := by rw [verification]; exact matches_
    rw [decidePlaced_goesOn fits (by rw [note, disc]; exact calm)]
    set v := u.modExposure fun e => { e with note := false } with hv
    obtain ⟨-, -, -, clear⟩ := positions_turretStep l g p v
    have station : v.stationMap p.station = s.stationMap p.station := stationMap_congr config _
    refine ⟨clear, fun away => ?_, fun x here lens => ?_⟩
    · have away' : v.photo.turret ≠ .standing (v.stationMap p.station) := by
        rw [station]; exact fun here => away (turret.symm.trans here)
      have drives := turretStep_drives (l := l) (g := g) (p := p) (s := v) hold' away'
      rw [station] at drives
      exact turretCommanded_congr config pulses drives
    · have lens' : v.lensFor g.size = some x := (lensFor_congr (s := s) (t := v) config _).trans lens
      have here' : v.photo.turret = .standing (v.stationMap p.station) := by rw [station]; exact turret.trans here
      have commands : LensCommanded l g p x v (turretStep l g p v) :=
        lensStep_commands_turretStep hold' placed' lens' here' fits
      refine lensCommanded_congr ?_ ?_ ?_ config pulses commands <;> rw [only]

end Sys2Proof.Machine
end

section
/-! PROOF. The flash (O36): the expiry of the delay and the end of the recharge. -/

namespace Sys2Proof.Machine

/-! ### The expiry of the delay (R123) -/

/-- The delay is over. -/
def delayOver (s : State) : State := s.modPhoto fun p => { p with delay := none }

theorem exec_flashDelayExpiry {s : State} (runs : s.photo.delay.isSome) :
    exec .flashDelayExpiry s = .next (react (delayExpires s.fresh)) := by
  simp only [exec, execFlashDelayExpiry, runs]
  exact eventReact_true _ _

theorem delayExpires_fires {q : FlashRequest} {s : State} (armed : s.photo.flash = some q) (allowed : FlashAllowed q s) :
    delayExpires s = fireFlash (delayOver s) := by
  have armed' : (s.modPhoto fun p => { p with delay := none }).photo.flash = some q := armed
  unfold delayExpires
  dsimp only
  rw [armed']
  exact if_pos (flashConditions_iff.mpr allowed)

/-- With no request armed, or with a condition failing, no flash fires. -/
theorem delayExpires_idle {s : State}
    (h : s.photo.flash = none ∨ ∃ q, s.photo.flash = some q ∧ ¬ FlashAllowed q s) : delayExpires s = delayOver s := by
  unfold delayExpires
  dsimp only
  rcases h with none_ | ⟨q, armed, fails⟩
  · rw [show (s.modPhoto fun p => { p with delay := none }).photo.flash = none from none_]; rfl
  · rw [show (s.modPhoto fun p => { p with delay := none }).photo.flash = some q from armed]
    exact if_neg fun h => fails (flashConditions_iff.mp h)

theorem rechargeTime_congr {s t : State} (config : t.config = s.config) : t.rechargeTime = s.rechargeTime := by
  simp only [State.rechargeTime, State.setting, State.entry, config]

theorem fireLamp_lamp (s : State) :
    (fireLamp s).photo.lamp = if s.rechargeTime = 0 then .ready else .recharging s.rechargeTime := rfl

theorem fireLamp_recharges {s : State} (h : 0 < s.rechargeTime) :
    fireLamp s = (s.modPhoto fun p =>
      { p with flash := none, flashReported := true, lamp := .recharging s.rechargeTime }).pulse .lamp := by
  unfold fireLamp
  simp only [if_neg (Nat.ne_of_gt h)]

theorem fireFlash_recharges {s : State} (h : 0 < s.rechargeTime) : fireFlash s = fireLamp s := by
  have recharging : (fireLamp s).photo.lamp = .recharging s.rechargeTime := by
    rw [fireLamp_lamp, if_neg (by omega)]
  exact if_neg (by rw [recharging]; exact Lamp.noConfusion)

theorem fireFlash_reports {s : State} (h : s.rechargeTime = 0) : fireFlash s = flashReport (fireLamp s) :=
  if_pos (by rw [fireLamp_lamp, if_pos h])

/-! ### The flash complete report (R142, R144) -/

theorem exec_flashComplete {s : State} (recharges : s.photo.lamp ≠ .ready) :
    exec .flashComplete s = .next (react (rechargeEnds s.fresh)) := by
  have arises : (s.photo.lamp != .ready) = true := bne_iff_ne.mpr recharges
  simp only [exec, execFlashComplete, arises]
  exact eventReact_true _ _

theorem flashReport_noLine {s : State} (h : s.exposure.work.isLine = false) : flashReport s = s := by
  unfold flashReport
  split
  · next l work => rw [work] at h; cases h
  · rfl

/-- The line after the report: the next glyph is to be decided. -/
def LineWork.flashed (l : LineWork) : LineWork := { l with next := l.next + 1, step := .decision }

/-- The report counts the glyph and withdraws a request armed meanwhile. -/
def flashCounted (l : LineWork) (s : State) : State := setWork (.line l.flashed) (withdrawFlash s)

theorem flashReport_held {l : LineWork} {s : State} (work : s.exposure.work = .line l)
    (held : s.exposure.hold.isSome) : flashReport s = flashCounted l s := by
  unfold flashReport
  rw [work]
  exact if_pos held

theorem flashReport_goesOn {l : LineWork} {s : State} (work : s.exposure.work = .line l)
    (hold : s.exposure.hold = none) : flashReport s = nextGlyph l.flashed (flashCounted l s) := by
  have free : (flashCounted l s).exposure.hold.isSome = false := Option.isSome_eq_false_iff.mpr (Option.isNone_iff_eq_none.mpr hold)
  unfold flashReport
  rw [work]
  exact if_neg (ne_true_of_eq_false free)

/-- No report touches the lamp. -/
@[simp] theorem lamp_flashReport (s : State) : (flashReport s).photo.lamp = s.photo.lamp := by
  unfold flashReport nextGlyph
  dsimp only
  (repeat' split)
  · rfl
  · exact (glyphDecision_keeps _ _ _).2
  · rw [photo_lineDone]; rfl
  · rfl

/-- The lamp is READY again. -/
def recharged (s : State) : State := s.fresh.modPhoto fun p => { p with lamp := .ready }

theorem exec_flashComplete_reported {s : State} (recharges : s.photo.lamp ≠ .ready)
    (reported : s.photo.flashReported = true) :
    exec .flashComplete s = .next (react (flashReport (recharged s))) := by
  rw [exec_flashComplete recharges]
  exact congrArg (fun t : State => (.next (react t) : Answer)) (if_pos reported)

theorem exec_flashComplete_unreported {s : State} (recharges : s.photo.lamp ≠ .ready)
    (h : s.photo.flashReported = false ∨ s.exposure.work.isLine = false) :
    exec .flashComplete s = .next (react (recharged s)) := by
  rcases h with unreported | noLine
  · rw [exec_flashComplete recharges]
    exact congrArg (fun t : State => (.next (react t) : Answer)) (if_neg (ne_true_of_eq_false unreported))
  · cases reported : s.photo.flashReported with
    | true => rw [exec_flashComplete_reported recharges reported, flashReport_noLine (s := recharged s) noLine]
    | false =>
      rw [exec_flashComplete recharges]
      exact congrArg (fun t : State => (.next (react t) : Answer)) (if_neg (ne_true_of_eq_false reported))

/-! ### The end of the line -/

theorem flashed_glyph (l : LineWork) : l.flashed.glyph = l.order[l.next]? := rfl

/-- Settles O36. -/
theorem flashFiresAndIsReportedComplete : Obligations.FlashFiresAndIsReportedComplete := by
  refine ⟨fun s q runs armed allowed => ?_, fun s runs idle => ?_,
    fun s recharges unheard => ?_, fun s l recharges reported work held => ?_,
    fun s l r recharges reported work hold last line => ?_,
    fun s l recharges reported work hold more => ⟨?_, fun g next => ?_⟩,
    fun s l g hold => glyphDecided_glyphDecision hold⟩
  · have fires : exec .flashDelayExpiry s = .next (react (fireFlash (delayOver s.fresh))) := by
      rw [exec_flashDelayExpiry runs, delayExpires_fires (s := s.fresh) armed allowed]
    have time : (delayOver s.fresh).rechargeTime = s.rechargeTime := rechargeTime_congr rfl
    refine ⟨fun long => ?_, fun instant => ?_⟩
    · refine eventTo_of_settled (fires.trans ?_) ?_
      · rw [fireFlash_recharges (time ▸ long), fireLamp_recharges (time ▸ long), time]; rfl
      · rw [settled_pulse, settled_fresh, settled_modPhoto _ _ rfl]
    · refine ⟨_, fires.trans (by rw [fireFlash_reports (time.trans instant)]), ?_, ?_⟩
      · rw [lamp_mem_iff, lampPulses_of_outside (outside_flashReport _), ← lamp_mem_iff]
        exact List.mem_append_right _ (List.mem_singleton_self _)
      · rw [lamp_flashReport, fireLamp_lamp, if_pos (time.trans instant)]
  · exact eventTo_of_settled ((exec_flashDelayExpiry runs).trans (by rw [delayExpires_idle (s := s.fresh) idle]; rfl))
      (by rw [settled_modPhoto _ _ rfl, settled_fresh])
  · exact eventTo_of_settled (exec_flashComplete_unreported recharges unheard)
      (by rw [settled_modPhoto _ _ rfl, settled_fresh])
  · refine eventTo_of_settled ((exec_flashComplete_reported recharges reported).trans
      (by rw [flashReport_held (s := recharged s) work held]; rfl)) ?_
    rw [settled_modExposure, settled_modPhoto _ _ rfl, settled_fresh]
    simp [State.exposureIdle, Option.isNone_eq_false_iff.mpr held]
  · have ends : exec .flashComplete s = .next (react (lineDone l.flashed (flashCounted l (recharged s)))) := by
      rw [exec_flashComplete_reported recharges reported, flashReport_goesOn (s := recharged s) work hold, nextGlyph,
        flashed_glyph, last, List.getElem?_eq_none le_rfl]
    have found : (setWork .none (flashCounted l (recharged s))).lineAt l.slot = some r := line
    refine ⟨_, ends, by rw [photo_lineDone]; rfl, by rw [photo_lineDone]; rfl, ?_, ?_⟩
    · obtain ⟨y, c, slots, order, only⟩ :=
        (linesOnly_filmDone l.slot (setWork .none (flashCounted l (recharged s)))).exists
      exact (congrArg (·.exposure.work) only).trans rfl
    · split
      · next proof => exact filmDone_kept found proof
      · next noProof => exact (filmDone_freed found (by simpa using noProof)).1
  · obtain ⟨g, next⟩ : ∃ g, l.order[l.next]? = some g := ⟨_, List.getElem?_eq_getElem more⟩
    obtain ⟨⟨st, line⟩, lamp⟩ := glyphDecision_keeps l.flashed g (flashCounted l (recharged s))
    refine ⟨_, ?_, lamp, st, line⟩
    rw [exec_flashComplete_reported recharges reported, flashReport_goesOn (s := recharged s) work hold,
      nextGlyph_decides (flashed_glyph l |>.trans next)]
  · rw [exec_flashComplete_reported recharges reported, flashReport_goesOn (s := recharged s) work hold,
      nextGlyph_decides (flashed_glyph l |>.trans next)]
    rfl

end Sys2Proof.Machine
end

section
/-! PROOF. The accepted changes of LID_CLOSED, CASSETTE_PRESENT and PAPER_PRESENT (O30). -/

namespace Sys2Proof.Machine

/-! ### Attention flags -/

theorem Attn.bit_lt (a : Attn) : a.bit < 16 := by
  cases a <;> simp only [Attn.bit] <;> omega

theorem raised_raise_self (a : Attn) (s : State) : (s.raise a).raised a = true := by
  simp [State.raised, State.raise, Attn.mask, a.bit_lt]

theorem raised_raise_of_raised {a : Attn} (b : Attn) {s : State} (h : s.raised a = true) :
    (s.raise b).raised a = true := by
  simp only [State.raised] at h
  simp [State.raised, State.raise, h]

theorem raised_raise_ne {a b : Attn} (ne : a.bit ≠ b.bit) (s : State) : (s.raise b).raised a = s.raised a := by
  have other : (1#16 <<< b.bit).getLsbD a.bit = false := by
    simp only [BitVec.getLsbD_shiftLeft, BitVec.getLsbD_one]
    simp
    omega
  simp [State.raised, State.raise, Attn.mask, other]

/-! ### A change accepted (R181) -/

/-- The state in which a change is reported: the level, the event bit and SENSOR are set. -/
def changeNoted (l : DebouncedLine) (level : Bool) (s : State) : State :=
  ((setDebouncer l { accepted := level, timing := none }
    (s.fresh.setConditioned (debouncedBit l) level)).modSensors fun x =>
      { x with events := x.events ||| eventBit l level }).raise .sensor

theorem exec_acceptanceEvent {l : DebouncedLine} {level : Bool} {s : State} (other : (s.debouncer l).accepted = !level) :
    acceptanceEvent l level s = .next (react (reportDebounced l level (changeNoted l level s))) := by
  have arises : ((s.debouncer l).accepted != level) = true := by rw [other]; cases level <;> rfl
  rw [acceptanceEvent, arises]
  rfl

theorem changeNoted_only (l : DebouncedLine) (level : Bool) (s : State) :
    changeNoted l level s = { s.fresh with
      sensors := (changeNoted l level s).sensors, attn := (s.raise .sensor).attn } := by cases l <;> rfl

theorem debouncer_changeNoted (l : DebouncedLine) (level : Bool) (s : State) :
    (changeNoted l level s).debouncer l = { accepted := level, timing := none } := by cases l <;> rfl

theorem events_changeNoted (l : DebouncedLine) (level : Bool) (s : State) :
    (changeNoted l level s).sensors.events = s.sensors.events ||| eventBit l level := by cases l <;> rfl

theorem raised_changeNoted (l : DebouncedLine) (level : Bool) (s : State) :
    (changeNoted l level s).raised .sensor = true := by
  rw [changeNoted_only]; exact raised_raise_self .sensor s

/-! ### What a hold and the end of a free move keep -/

/-- A hold raises EXP_HOLD, and no flag falls. -/
theorem raised_takeHold {a : Attn} (r : HoldReason) {s : State} (h : s.raised a = true) :
    (takeHold r s).raised a = true := by
  unfold takeHold
  split
  · exact h
  · exact raised_raise_of_raised .expHold h

theorem takeHold_film (r : HoldReason) (s : State) :
    (takeHold r s).film.loaded = s.film.loaded ∧ (takeHold r s).film.position = s.film.position ∧
    (takeHold r s).film.length = s.film.length ∧ (takeHold r s).film.deepest = s.film.deepest := by
  unfold takeHold
  split <;> exact ⟨rfl, rfl, rfl, rfl⟩

theorem takeHold_work (r : HoldReason) (s : State) : (takeHold r s).exposure.work = s.exposure.work := by
  unfold takeHold; split <;> rfl

theorem complete_channel_congr {s u : State} {ch : ChannelId} (h : u.channel ch = s.channel ch) (c : Completion)
    (d : Half) (bytes : List Byte) :
    (complete ch c d bytes u).channel ch = (complete ch c d bytes s).channel ch := by
  unfold complete
  rw [h]
  split_ifs
  · simp only [State.channel_modChannel_self, h]
  · split
    · simp only [State.channel_modChannel_self, h]
    · exact h

/-- What a completion does to the channels depends on the channels alone. -/
theorem finish_of_channels {s u : State} (h : u.channels = s.channels) (ch : ChannelId) (c : Completion) (n : Nat) :
    finish ch c n u = { u with channels := (finish ch c n s).channels } := by
  have same : u.channel ch = s.channel ch := by rw [State.channel, h, State.channel]
  rw [finish, finish, complete_eq, complete_eq ch c _ [] s, complete_channel_congr same]
  simp only [State.modChannel, h]

theorem endFreeMove_eq (ch : ChannelId) (c : Completion) (n : Nat) (s : State) :
    endFreeMove ch c n s = { s with
      channels := (finish ch c n s).channels
      exposure := { s.exposure with work := .none, figuresDeferred := false, cutTimer := none }
      film := { s.film with
        move := none, timer := none
        galleyStart := if s.exposure.figuresDeferred ∧ s.store.filmHolder.isSome then s.film.position
          else s.film.galleyStart
        deepest := if s.exposure.figuresDeferred ∧ s.store.filmHolder.isSome then s.film.position
          else s.film.deepest } } := by
  have done := finish_of_channels (s := s)
    (u := (stopFilm s).modExposure fun e => { e with work := .none, cutTimer := none }) rfl ch c n
  rw [endFreeMove, done, applyDeferred]
  dsimp only
  cases deferred : s.exposure.figuresDeferred with
  | false => simp [stopFilm, State.modFilm, State.modExposure, deferred]
  | true =>
    cases holder : s.store.filmHolder <;>
      simp [stopFilm, State.modFilm, State.modExposure, deferred, holder, setFilmFigures]

theorem answered_endFreeMove (ch : ChannelId) (c : Completion) (d : Half) (s : State) :
    s.answered (endFreeMove ch c d.toNat s) ch c d := by
  have answers := answered_complete s ch c d
  have channel : (endFreeMove ch c d.toNat s).channel ch = (complete ch c d [] s).channel ch := by
    rw [endFreeMove_eq, finish, BitVec.ofNat_toNat, BitVec.setWidth_eq]; rfl
  exact ⟨fun r handed => channel.trans (answers.1 r handed), fun detached => channel.trans (answers.2 detached)⟩

/-- An answer is a matter of the channels before and after. -/
theorem answered_congr {s s' t t' : State} {ch : ChannelId} {c : Completion} {d : Half}
    (before : s'.channels = s.channels) (after : t'.channels = t.channels) (h : s'.answered t' ch c d) :
    s.answered t ch c d := by
  have channel : ∀ k, s'.channel k = s.channel k := fun k => by rw [State.channel, before, State.channel]
  have channel' : ∀ k, t'.channel k = t.channel k := fun k => by rw [State.channel, after, State.channel]
  simpa only [State.answered, State.handed, State.posts, State.channel_modChannel_self, channel, channel'] using h

/-! ### LID_CLOSED falls (R124, R145) -/

theorem lidFell_keeps (s : State) :
    (lidFell s).sensors = s.sensors ∧ (lidFell s).photo.delay = none ∧
    (lidFell s).exposure.work = s.exposure.work ∧ (lidFell s).film.position = s.film.position ∧
    (lidFell s).store = s.store ∧ (lidFell s).galleys = s.galleys ∧ (lidFell s).fonts = s.fonts ∧
    (lidFell s).config = s.config := by
  unfold lidFell
  dsimp only
  rw [← delayOver]
  split
  · obtain ⟨e, f, a, q, d, delay, only⟩ := takeHold_only .lidOpen (delayOver s)
    obtain ⟨-, position, -⟩ := takeHold_film .lidOpen (delayOver s)
    refine ⟨?_, ?_, takeHold_work .lidOpen (delayOver s), position, ?_, ?_, ?_, ?_⟩
    case refine_2 => rw [only]; exact delay.elim id id
    all_goals rw [only]; rfl
  · exact ⟨rfl, rfl, rfl, rfl, rfl, rfl, rfl, rfl⟩

theorem raised_lidFell {a : Attn} {s : State} (h : s.raised a = true) : (lidFell s).raised a = true := by
  unfold lidFell
  dsimp only
  split
  · exact raised_takeHold .lidOpen h
  · exact h

/-- With no line, or with one that is HELD, only the delay is cancelled. -/
theorem lidFell_unheard {s : State} (h : s.exposure.work.isLine = false ∨ s.exposure.hold.isSome) :
    lidFell s = delayOver s := by
  unfold lidFell
  dsimp only
  split
  · next line =>
    have held := h.resolve_left (fun noLine => by rw [State.modPhoto_exposure, noLine] at line; cases line)
    exact takeHold_of_isSome held
  · rfl

theorem lidFell_holds {s : State} (line : s.exposure.work.isLine = true) :
    lidFell s = takeHold .lidOpen (delayOver s) := if_pos line

theorem lidClosedFall_reports {s : State} (closed : s.lidClosed = true) :
    exec .lidClosedFall s = .next (react (lidFell (changeNoted .lidClosed false s))) :=
  exec_acceptanceEvent (l := .lidClosed) (level := false) closed

/-! ### CASSETTE_PRESENT falls (R145, R147, R150) -/

theorem isLine_iff {w : ExposureWork} : w.isLine = true ↔ ∃ l, w = .line l := by
  cases w <;> simp [ExposureWork.isLine]

/-- The cassette is not loaded. -/
def cassetteGone (s : State) : State := s.modFilm fun f => { f with loaded := false, lowNoted := false }

theorem cassetteFell_held {s : State} (h : s.exposure.work.isLine = true ∨
      (∃ t, s.exposure.work = .gap t) ∨ ∃ t p, s.exposure.work = .cut t p) :
    cassetteFell s = takeHold .cassetteOut (cassetteGone s) := by
  have kept : (cassetteGone s).exposure = s.exposure := rfl
  unfold cassetteFell
  dsimp only
  rw [← cassetteGone, kept]
  rcases h with line | ⟨t, work⟩ | ⟨t, p, work⟩
  · obtain ⟨l, work⟩ := isLine_iff.mp line
    rw [work]
  · rw [work]
  · rw [work]

theorem cassetteFell_advance {ch : ChannelId} {clamped : Bool} {s : State}
    (work : s.exposure.work = .advanceFilm ch clamped) :
    cassetteFell s =
      (endFreeMove ch .wrongState (Config.unstatedDetail s.free).toNat (cassetteGone s)).bumpFree := by
  have kept : (cassetteGone s).exposure = s.exposure := rfl
  unfold cassetteFell
  dsimp only
  rw [← cassetteGone, kept, work]
  rfl

theorem cassetteFell_unheard {s : State}
    (h : s.exposure.work = .none ∨ ∃ ch step, s.exposure.work = .cutFilm ch step) : cassetteFell s = cassetteGone s := by
  have kept : (cassetteGone s).exposure = s.exposure := rfl
  unfold cassetteFell
  dsimp only
  rw [← cassetteGone, kept]
  rcases h with work | ⟨ch, step, work⟩ <;> rw [work]

/-- A line, a gap or a cut in progress: LINE or FILM_END where nothing is held (R135). -/
theorem exposing_iff {e : Exposure} :
    (e.state = .line ∨ e.state = .filmEnd) ↔
      e.hold = none ∧ (e.work.isLine = true ∨ (∃ t, e.work = .gap t) ∨ ∃ t p, e.work = .cut t p) := by
  unfold Exposure.state
  cases hold : e.hold <;> cases work : e.work <;> simp [ExposureWork.isLine]

/-- What a cassette fall does in every state of the exposure. -/
theorem cassetteFell_keeps (s : State) :
    (cassetteFell s).sensors = s.sensors ∧ (cassetteFell s).film.loaded = false ∧
    (cassetteFell s).film.position = s.film.position ∧ (cassetteFell s).film.length = s.film.length ∧
    (s.exposure.figuresDeferred = false → (cassetteFell s).film.deepest = s.film.deepest) ∧
    (cassetteFell s).store = s.store ∧ (cassetteFell s).galleys = s.galleys ∧ (cassetteFell s).fonts = s.fonts := by
  unfold cassetteFell
  dsimp only
  split
  case h_4 =>
    rw [endFreeMove_eq]
    refine ⟨rfl, rfl, rfl, rfl, fun undeferred => if_neg fun h => ?_, rfl, rfl, rfl⟩
    exact Bool.false_ne_true (undeferred.symm.trans h.1)
  case h_5 => exact ⟨rfl, rfl, rfl, rfl, fun _ => rfl, rfl, rfl, rfl⟩
  case h_6 => exact ⟨rfl, rfl, rfl, rfl, fun _ => rfl, rfl, rfl, rfl⟩
  all_goals
    unfold takeHold
    split <;> exact ⟨rfl, rfl, rfl, rfl, fun _ => rfl, rfl, rfl, rfl⟩

theorem raised_cassetteFell {a : Attn} {s : State} (h : s.raised a = true) : (cassetteFell s).raised a = true := by
  unfold cassetteFell
  dsimp only
  split
  case h_4 => rw [endFreeMove_eq]; exact h
  case h_5 => exact h
  case h_6 => exact h
  all_goals exact raised_takeHold .cassetteOut h

theorem cassettePresentFall_reports {s : State} (present : s.cassettePresent = true) :
    exec .cassettePresentFall s = .next (react (cassetteFell (changeNoted .cassettePresent false s))) :=
  exec_acceptanceEvent (l := .cassettePresent) (level := false) present

/-! ### PAPER_PRESENT (R160) -/

theorem paperPresentFall_reports {s : State} (present : s.paperPresent = true) :
    exec .paperPresentFall s = .next (react (paperFell (changeNoted .paperPresent false s))) :=
  exec_acceptanceEvent (l := .paperPresent) (level := false) present

theorem paperPresentRise_reports {s : State} (absent : s.paperPresent = false) :
    exec .paperPresentRise s = .next (react (paperRose (changeNoted .paperPresent true s))) :=
  exec_acceptanceEvent (l := .paperPresent) (level := true) absent

theorem paperFell_keeps (s : State) :
    (paperFell s).sensors = s.sensors ∧ (paperFell s).exposure = s.exposure ∧ (paperFell s).store = s.store ∧
    (paperFell s).photo = s.photo := by
  unfold paperFell
  split <;> exact ⟨rfl, rfl, rfl, rfl⟩

theorem raised_paperFell {a : Attn} {s : State} (h : s.raised a = true) : (paperFell s).raised a = true := by
  unfold paperFell
  split
  · exact raised_raise_of_raised .proofHold h
  · exact raised_raise_of_raised .proofHold h
  · exact h

theorem paperRose_keeps (s : State) : (paperRose s).sensors = s.sensors ∧ (paperRose s).attn = s.attn := by
  unfold paperRose
  split <;> exact ⟨rfl, rfl⟩

/-! ### The statement -/

theorem lidFall_clauses {s : State} (closed : s.lidClosed = true) :
    ∃ t, exec .lidClosedFall s = .next (react t) ∧ t.lidClosed = false ∧
      t.sensors.events = s.sensors.events ||| 0x08#6 ∧ t.raised .sensor = true ∧ t.photo.delay = none ∧
      t.exposure.work = s.exposure.work ∧ t.film.position = s.film.position ∧ t.store = s.store ∧
      t.galleys = s.galleys ∧ t.fonts = s.fonts ∧ t.config = s.config ∧
      ((s.exposure.work.isLine = false ∨ s.exposure.hold.isSome) →
        t.exposure = s.exposure ∧ t.film = s.film ∧ t.photo = { s.photo with delay := none }) ∧
      (s.exposure.work.isLine = true → s.exposure.hold = none →
        t.exposure.hold = some .lidOpen ∧ t.raised .expHold = true ∧ t.photo.flash = none ∧ t.film.move = none) := by
  have events := events_changeNoted .lidClosed false s
  have line := debouncer_changeNoted .lidClosed false s
  have raised := raised_lidFell (raised_changeNoted .lidClosed false s)
  have reports := lidClosedFall_reports closed
  have only := changeNoted_only .lidClosed false s
  generalize changeNoted .lidClosed false s = u at events line raised reports only
  obtain ⟨sensors, delay, work, position, store, galleys, fonts, config⟩ := lidFell_keeps u
  have exposure : u.exposure = s.exposure := by rw [only]; rfl
  refine ⟨_, reports, ?_, by rw [sensors]; exact events, raised, delay, work.trans (by rw [only]; rfl),
    position.trans (by rw [only]; rfl), store.trans (by rw [only]; rfl), galleys.trans (by rw [only]; rfl),
    fonts.trans (by rw [only]; rfl), config.trans (by rw [only]; rfl), fun unheard => ?_, fun isLine hold => ?_⟩
  · rw [State.lidClosed, sensors]; exact congrArg (·.accepted) line
  · rw [lidFell_unheard (by rw [exposure]; exact unheard), only]; exact ⟨rfl, rfl, rfl⟩
  · have free : (delayOver u).exposure.hold = none := by rw [← hold]; exact congrArg (·.hold) exposure
    rw [lidFell_holds (by rw [exposure]; exact isLine), takeHold_of_none free]
    exact ⟨rfl, raised_raise_self .expHold _, rfl, rfl⟩

theorem cassetteFall_clauses {s : State} (present : s.cassettePresent = true) :
    ∃ t, exec .cassettePresentFall s = .next (react t) ∧ t.cassettePresent = false ∧
      t.sensors.events = s.sensors.events ||| 0x02#6 ∧ t.raised .sensor = true ∧ t.film.loaded = false ∧
      t.film.position = s.film.position ∧ t.film.length = s.film.length ∧
      (s.exposure.figuresDeferred = false → t.film.deepest = s.film.deepest) ∧ t.store = s.store ∧
      t.galleys = s.galleys ∧ t.fonts = s.fonts ∧
      (s.exposure.work = .none → t.exposure = s.exposure) ∧
      (s.exposure.state = .line ∨ s.exposure.state = .filmEnd →
        t.exposure.hold = some .cassetteOut ∧ t.exposure.work = s.exposure.work ∧ t.raised .expHold = true ∧
        t.film.move = none ∧ t.photo.flash = none) ∧
      (∀ ch clamped, s.exposure.work = .advanceFilm ch clamped →
        t.exposure = { s.exposure with work := .none, figuresDeferred := false, cutTimer := none } ∧
        s.answered t ch .wrongState (Config.unstatedDetail s.free) ∧
        t.film = { s.film with
          loaded := false, lowNoted := false, move := none, timer := none
          galleyStart := if s.exposure.figuresDeferred ∧ s.store.filmHolder.isSome then s.film.position
            else s.film.galleyStart
          deepest := if s.exposure.figuresDeferred ∧ s.store.filmHolder.isSome then s.film.position
            else s.film.deepest }) ∧
      ∀ ch step, s.exposure.work = .cutFilm ch step → t.exposure = s.exposure ∧ t.channels = s.channels ∧
        t.film = { s.film with loaded := false, lowNoted := false } := by
  have events := events_changeNoted .cassettePresent false s
  have line := debouncer_changeNoted .cassettePresent false s
  have raised := raised_cassetteFell (raised_changeNoted .cassettePresent false s)
  have reports := cassettePresentFall_reports present
  have only := changeNoted_only .cassettePresent false s
  generalize changeNoted .cassettePresent false s = u at events line raised reports only
  obtain ⟨sensors, loaded, position, length, deepest, store, galleys, fonts⟩ := cassetteFell_keeps u
  have exposure : u.exposure = s.exposure := by rw [only]; rfl
  have film : u.film = s.film := by rw [only]; rfl
  refine ⟨_, reports, ?_, by rw [sensors]; exact events, raised, loaded, by rw [position, film], by rw [length, film],
    fun undeferred => by rw [deepest (by rw [exposure]; exact undeferred), film], store.trans (by rw [only]; rfl),
    galleys.trans (by rw [only]; rfl), fonts.trans (by rw [only]; rfl), fun idle => ?_, fun exposing => ?_,
    fun ch clamped work => ?_, fun ch step work => ?_⟩
  · rw [State.cassettePresent, sensors]; exact congrArg (·.accepted) line
  · rw [cassetteFell_unheard (.inl (by rw [exposure]; exact idle))]; exact exposure
  · obtain ⟨hold, work⟩ := exposing_iff.mp exposing
    have free : (cassetteGone u).exposure.hold = none := by rw [← hold]; exact congrArg (·.hold) exposure
    rw [cassetteFell_held (by rw [exposure]; exact work), takeHold_of_none free]
    exact ⟨rfl, congrArg (·.work) exposure, raised_raise_self .expHold _, rfl, rfl⟩
  · rw [cassetteFell_advance (by rw [exposure]; exact work)]
    have answers := answered_endFreeMove ch .wrongState (Config.unstatedDetail u.free) (cassetteGone u)
    have free : Config.unstatedDetail s.free = Config.unstatedDetail u.free := by rw [only]; rfl
    have channels : (cassetteGone u).channels = s.channels := by rw [only]; rfl
    refine ⟨?_, by rw [free]; exact answered_congr channels rfl answers, ?_⟩
    · rw [endFreeMove_eq, cassetteGone, only]; rfl
    · rw [endFreeMove_eq, cassetteGone, only]; rfl
  · rw [cassetteFell_unheard (.inr ⟨ch, step, by rw [exposure]; exact work⟩), only]; exact ⟨rfl, rfl, rfl⟩

theorem paperFall_clauses {s : State} (present : s.paperPresent = true) :
    ∃ t, exec .paperPresentFall s = .next (react t) ∧ t.paperPresent = false ∧
      t.sensors.events = s.sensors.events ||| 0x20#6 ∧ t.raised .sensor = true ∧
      (s.proof.port = .sending → t.proof = { s.proof with port := .held .sending } ∧ t.raised .proofHold = true) ∧
      (s.proof.port = .endFeed → t.proof = { s.proof with port := .held .endFeed } ∧ t.raised .proofHold = true) ∧
      (s.proof.port = .idle → t.proof = s.proof ∧ t.raised .proofHold = s.raised .proofHold) ∧
      t.exposure = s.exposure ∧ t.store = s.store ∧ t.photo = s.photo := by
  have events := events_changeNoted .paperPresent false s
  have line := debouncer_changeNoted .paperPresent false s
  have raised := raised_paperFell (raised_changeNoted .paperPresent false s)
  have reports := paperPresentFall_reports present
  have only := changeNoted_only .paperPresent false s
  generalize changeNoted .paperPresent false s = u at events line raised reports only
  obtain ⟨sensors, exposure, store, photo⟩ := paperFell_keeps u
  have proof : u.proof = s.proof := by rw [only]; rfl
  refine ⟨_, reports, ?_, by rw [sensors]; exact events, raised, fun sending => ?_, fun feeding => ?_, fun idle => ?_,
    exposure.trans (by rw [only]; rfl), store.trans (by rw [only]; rfl), photo.trans (by rw [only]; rfl)⟩
  · rw [State.paperPresent, sensors]; exact congrArg (·.accepted) line
  · rw [paperFell, proof, sending]; exact ⟨by rw [← proof]; rfl, raised_raise_self .proofHold _⟩
  · rw [paperFell, proof, feeding]; exact ⟨by rw [← proof]; rfl, raised_raise_self .proofHold _⟩
  · rw [paperFell, proof, idle]
    refine ⟨proof, ?_⟩
    rw [only]
    exact raised_raise_ne (by decide) s

theorem paperRise_clauses {s : State} (absent : s.paperPresent = false) :
    ∃ t, exec .paperPresentRise s = .next (react t) ∧ t.paperPresent = true ∧
      t.sensors.events = s.sensors.events ||| 0x10#6 ∧ t.raised .sensor = true ∧
      (s.proof.port = .held .sending → t.proof = { s.proof with port := .sending }) ∧
      (s.proof.port = .held .endFeed → t.proof = { s.proof with port := .endFeed }) ∧
      ((∀ w, s.proof.port ≠ .held w) → t.proof = s.proof) := by
  have events := events_changeNoted .paperPresent true s
  have line := debouncer_changeNoted .paperPresent true s
  have raised := raised_changeNoted .paperPresent true s
  have reports := paperPresentRise_reports absent
  have only := changeNoted_only .paperPresent true s
  generalize changeNoted .paperPresent true s = u at events line raised reports only
  obtain ⟨sensors, attn⟩ := paperRose_keeps u
  have proof : u.proof = s.proof := by rw [only]; rfl
  refine ⟨_, reports, ?_, by rw [sensors]; exact events, ?_, fun sending => ?_, fun feeding => ?_, fun unheld => ?_⟩
  · rw [State.paperPresent, sensors]; exact congrArg (·.accepted) line
  · rw [State.raised, attn]; exact raised
  · rw [paperRose, proof, sending, ← proof]; rfl
  · rw [paperRose, proof, feeding, ← proof]; rfl
  · unfold paperRose
    split
    · next held => exact absurd (proof ▸ held) (unheld _)
    · next held => exact absurd (proof ▸ held) (unheld _)
    · exact proof

/-- Settles O30. -/
theorem acceptedSensorChangesAreReported : Obligations.AcceptedSensorChangesAreReported := by
  refine ⟨fun s => lidFall_clauses, fun s => cassetteFall_clauses, fun s => paperFall_clauses,
    fun s => paperRise_clauses, fun s l lowered line => ?_, fun s => ⟨rfl, rfl, rfl, rfl⟩⟩
  have rises := exec_acceptanceEvent (l := l) (level := true) lowered
  have only := changeNoted_only l true s
  have unheard : reportDebounced l true (changeNoted l true s) = changeNoted l true s := by
    rcases line with rfl | rfl <;> rfl
  rw [unheard] at rises
  refine ⟨_, rises, by rw [debouncer_changeNoted], raised_changeNoted .., ?_, ?_, ?_, ?_, ?_⟩
  · rw [events_changeNoted]
    rcases line with rfl | rfl <;> rfl
  all_goals rw [only]; rfl

end Sys2Proof.Machine
end

section
/-! PROOF. VERIFY STATIONS (O46): the visit list, the visits in turn and their ends (R132). -/

namespace Sys2Proof.Machine

/-! ### The records placed at a physical station -/

theorem anyPlacedAt_iff {q : Station} {f : FontRecord → Bool} {s : State} :
    s.anyPlacedAt q f = true ↔ ∃ i p, (s.font i).state ≠ .empty ∧ (s.font i).placement = some p ∧
      s.stationMap p.station = q ∧ f (s.font i) = true := by
  simp only [State.anyPlacedAt, List.any_eq_true, List.mem_finRange, true_and, Bool.and_eq_true, FontRecord.inUse,
    bne_iff_ne, Option.any_eq_true, beq_iff_eq]
  constructor
  · rintro ⟨i, ⟨used, p, placed, at_⟩, holds⟩; exact ⟨i, p, used, placed, at_, holds⟩
  · rintro ⟨i, p, used, placed, at_, holds⟩; exact ⟨i, ⟨used, p, placed, at_⟩, holds⟩

/-- A LIVE or RETIRING record is placed at the station. -/
def State.visitedAt (q : Station) (s : State) : Prop :=
  ∃ i p, (s.font i).state ≠ .empty ∧ (s.font i).placement = some p ∧ s.stationMap p.station = q

theorem mem_visitList {q : Station} {s : State} : q ∈ s.visitList ↔ s.visitedAt q := by
  simp [State.visitList, anyPlacedAt_iff, State.visitedAt]

theorem visitList_ascending (s : State) : s.visitList.Pairwise (· < ·) :=
  (List.sortedLT_finRange 4).pairwise.filter _

theorem visitList_congr {s t : State} (fonts : t.fonts = s.fonts) (config : t.config = s.config) :
    t.visitList = s.visitList := by
  simp only [State.visitList, State.anyPlacedAt, State.font, fonts, stationMap_congr config]

/-- The head of the list is the lowest of its stations. -/
theorem head_of_ascending {l : List Station} {q : Station} (ascending : l.Pairwise (· < ·)) (mem : q ∈ l)
    (first : ∀ k, k < q → k ∉ l) : ∃ rest, l = q :: rest := by
  cases l with
  | nil => cases mem
  | cons k rest =>
    rcases List.mem_cons.mp mem with rfl | later
    · exact ⟨rest, rfl⟩
    · exact absurd List.mem_cons_self (first k (List.rel_of_pairwise_cons ascending later))

/-! ### The mask of mismatches -/

theorem stationBit_getLsbD (q : Station) (k : Nat) : (stationBit q).getLsbD k = decide (k = q.val) := by
  have low := q.isLt
  by_cases same : k = q.val
  · simp [stationBit, same]
  · simp [stationBit, same]
    omega

theorem maskMismatch_here {q : Station} {m : BitVec 4} {s : State} :
    (maskMismatch q m s).getLsbD q.val = true ↔ m.getLsbD q.val = true ∨ ∃ i p, (s.font i).state ≠ .empty ∧
      (s.font i).placement = some p ∧ s.stationMap p.station = q ∧ (s.font i).verification = .mismatch := by
  have any : (s.anyPlacedAt q fun r => r.verification == .mismatch) = true ↔ ∃ i p, (s.font i).state ≠ .empty ∧
      (s.font i).placement = some p ∧ s.stationMap p.station = q ∧ (s.font i).verification = .mismatch := by
    simp [anyPlacedAt_iff]
  rw [← any, maskMismatch]
  split
  · next found => simp [stationBit_getLsbD, found]
  · next none_ => simp [none_]

theorem maskMismatch_elsewhere {q : Station} {m : BitVec 4} {s : State} {k : Nat} (ne : k ≠ q.val) :
    (maskMismatch q m s).getLsbD k = m.getLsbD k := by
  rw [maskMismatch]
  split
  · simp [stationBit_getLsbD, ne]
  · rfl

/-! ### A visit -/

theorem visit_nil {ch : ChannelId} {m n : BitVec 4} {s : State} {r : Request} (handed : s.handed ch r) :
    visit ch [] m n s =
      ({ s with photo := { s.photo with verify := none } }).posts ch r .done
        (BitVec.ofNat 16 (n.toNat * 256 + m.toNat)) [] :=
  finish_handed (s := setVerify none s) handed _ _

theorem visit_here {ch : ChannelId} {q : Station} {m n : BitVec 4} {s : State} (rest : List Station)
    (here : s.photo.turret = .standing q) :
    visit ch (q :: rest) m n s = visit ch rest (maskMismatch q m (latchHere q s)) n (latchHere q s) := by
  rw [visit, if_pos here]

theorem visit_elsewhere {ch : ChannelId} {q : Station} {m n : BitVec 4} {s : State} (rest : List Station)
    (away : s.photo.turret ≠ .standing q) :
    visit ch (q :: rest) m n s =
      { s with
        photo := { s.photo with
          turret := .moving (some q) (some .verify), turretTimer := some s.turretTime, turretExpired := false
          disc := .unlocked, disturbed := true, delay := none, lockWatch := none, latched := none
          verify := some { channel := ch, visits := q :: rest, mismatch := m, notReached := n } }
        drives := { s.drives with turretTarget := q }
        pulses := s.pulses ++ [.turretMove q] } := by
  rw [visit, if_neg away]
  rfl

theorem latchHere_only (q : Station) (s : State) :
    latchHere q s = { s with
      fonts := (latchHere q s).fonts, photo := { s.photo with latched := some s.discCodeLines } } := rfl

theorem visitEnds_eq {v : VerifyRun} {q : Station} {rest : List Station} {s : State} (verify : s.photo.verify = some v)
    (visits : v.visits = q :: rest) (reached : Bool) :
    visitEnds reached s =
      if reached = true then visit v.channel rest (maskMismatch q v.mismatch s) v.notReached s
      else visit v.channel rest v.mismatch (v.notReached ||| stationBit q) s := by
  obtain ⟨ch, l, m, n⟩ := v
  subst visits
  unfold visitEnds
  rw [verify]

/-! ### The request taken -/

theorem takeVerify_busy {ch : ChannelId} {s : State}
    (h : s.exposure.work.isLine = true ∨ s.photo.verify.isSome) : takeVerify ch s = refuse ch .busy s := by
  unfold takeVerify
  exact if_pos (by simpa using h)

theorem takeVerify_visits {ch : ChannelId} {s : State} (noLine : s.exposure.work.isLine = false)
    (free : s.photo.verify = none) : takeVerify ch s = visit ch s.visitList 0 0 s := by
  unfold takeVerify
  exact if_neg (by simp [noLine, free])

section Ready

variable {s : State} {ch : ChannelId} {b : Block} (ready : s.readyFor ch) (fits : b.payload.length ≤ 1024)
  (noLine : s.exposure.work.isLine = false) (free : s.photo.verify = none)
include ready fits noLine free

theorem exec_verifyStations : exec (.verifyStations ch b) s =
    .next (react (visit ch s.visitList 0 0 (s.fresh.waits ch { code := 0x50, block := b }))) := by
  refine (requestEvent_ready ready 0x50 b fits).trans ?_
  exact congrArg (fun t : State => (.next (react t) : Answer))
    (takeVerify_visits (s := s.fresh.waits ch { code := 0x50, block := b }) noLine free)

/-- With nothing placed the request is done at once. -/
theorem verifyStations_empty (unplaced : ∀ q, ¬ s.visitedAt q) :
    EventTo (exec (.verifyStations ch b) s) s (s.fresh.posts ch { code := 0x50, block := b } .done 0 []) := by
  have ready' : s.fresh.readyFor ch := (State.readyFor_congr rfl).2 ready
  have none_ : s.visitList = [] := List.eq_nil_iff_forall_not_mem.mpr fun q mem => unplaced q (mem_visitList.mp mem)
  refine eventTo_of_settled ((exec_verifyStations ready fits noLine free).trans ?_)
    (by rw [settled_posts ready', settled_fresh])
  have photo : ({ s.photo with verify := none } : Photo) = s.photo := by rw [← free]
  rw [none_, visit_nil (State.waits_handed _ ready'), State.waits_photo, State.fresh_photo, photo]
  exact congrArg (fun t : State => (.next (react t) : Answer)) (posts_waits ch { code := 0x50, block := b }
    { code := 0x50, block := b } .done 0 [] s.fresh)

theorem verifyStations_drives {q : Station} (placed : s.visitedAt q) (first : ∀ k, k < q → ¬ s.visitedAt k)
    (away : s.photo.turret ≠ .standing q) : ∃ t,
      exec (.verifyStations ch b) s = .next (react t) ∧
      t.channels = (s.waits ch { code := 0x50, block := b }).channels ∧
      t.photo.turret = .moving (some q) (some .verify) ∧ t.photo.turretTimer = some s.turretTime ∧
      t.photo.disc = .unlocked ∧ t.photo.disturbed = true ∧ t.photo.delay = none ∧ t.photo.lockWatch = none ∧
      t.pulses = [.turretMove q] ∧ t.drives.turretTarget = q ∧ t.fonts = s.fonts ∧ t.exposure = s.exposure ∧
      ∃ v, t.photo.verify = some v ∧ v.channel = ch ∧ v.mismatch = 0 ∧ v.notReached = 0 ∧
        v.visits.head? = some q ∧ v.visits.Pairwise (· < ·) ∧ ∀ k, k ∈ v.visits ↔ s.visitedAt k := by
  obtain ⟨rest, list⟩ := head_of_ascending (visitList_ascending s) (mem_visitList.mpr placed)
    fun k lower mem => first k lower (mem_visitList.mp mem)
  have ascending := visitList_ascending s
  have members : ∀ k, k ∈ s.visitList ↔ s.visitedAt k := fun k => mem_visitList
  have runs := exec_verifyStations ready fits noLine free
  rw [list] at ascending members runs
  rw [visit_elsewhere (s := s.fresh.waits ch { code := 0x50, block := b }) rest away] at runs
  exact ⟨_, runs, rfl, rfl, rfl, rfl, rfl, rfl, rfl, rfl, rfl, rfl, rfl, _, rfl, rfl, rfl, rfl, rfl, ascending, members⟩

end Ready

/-! ### The end of a visit -/

theorem exec_turretArrival_visit {s : State} {v : VerifyRun} {q p : Station} {rest : List Station} {code : BitVec 4}
    (turret : s.photo.turret = .moving (some q) (some .verify)) (intime : s.photo.turretExpired = false)
    (verify : s.photo.verify = some v) (visits : v.visits = q :: rest) :
    exec (.turretArrival p code) s = .next (react
      (if p = q then visit v.channel rest (maskMismatch q v.mismatch (arrivalState p code s.fresh)) v.notReached
          (arrivalState p code s.fresh)
        else visit v.channel rest v.mismatch (v.notReached ||| stationBit q) (arrivalState p code s.fresh))) := by
  obtain ⟨x, only⟩ := arrivalState_eq p code s.fresh
  have verify' : (arrivalState p code s.fresh).photo.verify = some v := by rw [only]; exact verify
  rw [exec_turretArrival (by rw [turret]; rfl), turretArrival_reported (s := s.fresh) turret intime,
    reportToRequester, visitEnds_eq verify' visits]
  simp only [beq_iff_eq]

theorem exec_turretTimeout_visit {s : State} {v : VerifyRun} {q : Station} {target : Option Station}
    {rest : List Station} (runs : s.photo.turretTimer.isSome)
    (turret : s.photo.turret = .moving target (some .verify)) (verify : s.photo.verify = some v)
    (visits : v.visits = q :: rest) :
    exec .turretTimeout s = .next (react (visit v.channel rest v.mismatch (v.notReached ||| stationBit q)
      (s.fresh.modPhoto fun p => { p with turretTimer := none, turretExpired := true }))) := by
  have out : turretTimesOut s.fresh =
      visitEnds false (s.fresh.modPhoto fun p => { p with turretTimer := none, turretExpired := true }) := by
    unfold turretTimesOut
    rw [State.fresh_photo, turret]
    rfl
  have missed := visitEnds_eq
    (s := s.fresh.modPhoto fun p => { p with turretTimer := none, turretExpired := true }) verify visits false
  simp only [exec, execTurretTimeout, runs]
  rw [eventReact_true, out, missed]
  rfl

/-- Settles O46. -/
theorem verifyStationsVisitsInOrder : Obligations.VerifyStationsVisitsInOrder := by
  refine ⟨fun s ch b ready fits => ⟨fun busy => ?_, visitList_ascending s, fun k => mem_visitList,
      fun noLine free => ⟨exec_verifyStations ready fits noLine free, verifyStations_empty ready fits noLine free,
        fun q => verifyStations_drives ready fits noLine free⟩⟩,
    fun ch m n s => ⟨fun r => visit_nil, fun q rest here => ⟨latchHere q s, visit_here rest here, latchHere_only q s,
      fun i => ⟨fun p placed used at_ => ?_, fun h => ?_⟩⟩, fun q => visit_elsewhere,
      fun q => ⟨maskMismatch_here, fun k => maskMismatch_elsewhere⟩⟩,
    fun s v q p rest code turret intime verify visits => ?_,
    fun s v q target rest => exec_turretTimeout_visit⟩
  · exact request_refused ready fits fun t waiting => takeVerify_busy (by rw [waiting]; exact busy)
  · exact verifyAt_font_placed (s := s.modPhoto _) placed used at_
  · exact verifyAt_font_elsewhere (s := s.modPhoto _) h
  · obtain ⟨x, only⟩ := arrivalState_eq p code s.fresh
    refine ⟨arrivalState p code s.fresh, exec_turretArrival_visit turret intime verify visits, ?_, ?_, ?_, ?_, ?_, ?_,
      fun i f placed used at_ => ?_⟩
    case refine_7 => rw [arrivalState_font]; exact verifyAt_font_placed (s := s.fresh) placed used at_
    case refine_4 => rw [only]; exact verify
    all_goals rw [only] <;> rfl

end Sys2Proof.Machine
end

section
/-! SUPPORT. What the retry of a held step keeps (R146): the film's position, the sensors, the configuration and, but for a
line done, the channels; the lock watch unless the turret is commanded. -/

namespace Sys2Proof.Machine

/-- What every sub-step that a retry may make keeps. -/
structure Retried (s t : State) : Prop where
  channels : t.channels = s.channels
  config : t.config = s.config
  sensors : t.sensors = s.sensors
  position : t.film.position = s.film.position
  note : s.exposure.note = false → t.exposure.note = false
  pulses : ∀ p ∈ s.pulses, p ∈ t.pulses
  watch : (∀ q, .turretMove q ∉ t.pulses) → t.photo.lockWatch = s.photo.lockWatch

theorem Retried.trans {s t u : State} (h : Retried s t) (k : Retried t u) : Retried s u where
  channels := k.channels.trans h.channels
  config := k.config.trans h.config
  sensors := k.sensors.trans h.sensors
  position := k.position.trans h.position
  note clear := k.note (h.note clear)
  pulses p hp := k.pulses p (h.pulses p hp)
  watch still := (k.watch still).trans (h.watch fun q hq => still q (k.pulses _ hq))

/-! ### The glyph step -/

theorem retried_setStep (l : LineWork) (st : LineStep) (s : State) : Retried s (setStep l st s) :=
  ⟨rfl, rfl, rfl, rfl, id, fun _ => id, fun _ => rfl⟩

theorem retried_takeHold (r : HoldReason) (s : State) : Retried s (takeHold r s) := by
  unfold takeHold
  split
  · exact ⟨rfl, rfl, rfl, rfl, id, fun _ => id, fun _ => rfl⟩
  · exact ⟨rfl, rfl, rfl, rfl, id, fun _ => id, fun _ => rfl⟩

/-- A hold at a step of the line. -/
theorem retried_heldAt (l : LineWork) (st : LineStep) (r : HoldReason) (s : State) :
    Retried s (takeHold r (setStep l st s)) :=
  (retried_setStep l st s).trans (retried_takeHold r _)

theorem retried_noteCleared (s : State) : Retried s (s.modExposure fun e => { e with note := false }) :=
  ⟨rfl, rfl, rfl, rfl, fun _ => rfl, fun _ => id, fun _ => rfl⟩

theorem retried_driveLens (x : LensPos) (s : State) : Retried s (driveLens x s) :=
  ⟨rfl, rfl, rfl, rfl, id, fun _ => List.mem_append_left _, fun _ => rfl⟩

/-- The turret's pulse tells that the lock watch is stopped (R120). -/
theorem retried_driveTurret (q : Station) (r : Requester) (s : State) : Retried s (driveTurret q r s) :=
  ⟨rfl, rfl, rfl, rfl, id, fun _ => List.mem_append_left _,
    fun still => absurd (List.mem_append_right s.pulses (List.mem_singleton_self _)) (still q)⟩

theorem retried_latchHere (q : Station) (s : State) : Retried s (latchHere q s) := by
  obtain ⟨f, c, only⟩ : ∃ f c, latchHere q s = { s with fonts := f, photo := { s.photo with latched := c } } :=
    ⟨_, _, rfl⟩
  rw [only]
  exact ⟨rfl, rfl, rfl, rfl, id, fun _ => id, fun _ => rfl⟩

theorem retried_shutterStep (l : LineWork) (g : SetGlyph) (s : State) : Retried s (shutterStep l g s) := by
  unfold shutterStep
  split
  · exact ⟨rfl, rfl, rfl, rfl, id, fun _ => id, fun _ => rfl⟩
  · exact retried_heldAt l .decision .fontUnplaced s

theorem retried_commandCarriage (x : Nat) (s : State) : Retried s (commandCarriage x s) := by
  obtain ⟨c, k, only⟩ := commandCarriage_only x s
  rw [only]
  exact ⟨rfl, rfl, rfl, rfl, id, fun _ => id, fun _ => rfl⟩

theorem retried_carriageStep (l : LineWork) (g : SetGlyph) (s : State) : Retried s (carriageStep l g s) := by
  have command := (retried_setStep l .carriage s).trans (retried_commandCarriage g.x _)
  unfold carriageStep
  dsimp only
  split
  · exact command.trans (retried_shutterStep l g _)
  · exact command

theorem retried_lensStep (l : LineWork) (g : SetGlyph) (s : State) : Retried s (lensStep l g s) := by
  have start : Retried s (setStep l .lens (s.modExposure fun e => { e with turretAt := s.photo.turret.station })) :=
    ⟨rfl, rfl, rfl, rfl, id, fun _ => id, fun _ => rfl⟩
  unfold lensStep
  dsimp only
  (repeat' split)
  · exact start.trans (retried_carriageStep l g _)
  · exact start.trans (retried_driveLens _ _)
  · exact start

theorem retried_turretStep (l : LineWork) (g : SetGlyph) (p : Placement) (s : State) :
    Retried s (turretStep l g p s) := by
  have start := retried_setStep l .turret s
  unfold turretStep
  dsimp only
  (repeat' split)
  · exact start.trans (retried_heldAt l .decision .discMismatch _)
  · exact start.trans (retried_lensStep l g _)
  · exact start.trans (retried_driveTurret _ _ _)

theorem retried_decidePlaced (l : LineWork) (g : SetGlyph) (p : Placement) (s : State) :
    Retried s (decidePlaced l g p s) := by
  unfold decidePlaced
  (repeat' split)
  · exact retried_takeHold _ s
  · exact retried_takeHold _ s
  · exact (retried_noteCleared s).trans (retried_turretStep l g p _)

theorem retried_glyphDecision (l : LineWork) (g : SetGlyph) (s : State) : Retried s (glyphDecision l g s) := by
  have start := retried_setStep l .decision s
  unfold glyphDecision
  dsimp only
  (repeat' split)
  · exact start.trans (retried_takeHold _ _)
  · exact start.trans (retried_takeHold _ _)
  · exact (start.trans (retried_latchHere _ _)).trans (retried_decidePlaced l g _ _)
  · exact start.trans (retried_decidePlaced l g _ _)

/-! ### The film, the gap and the cut -/

theorem retried_startFilm (forward : Bool) (n : Nat) (s : State) : Retried s (startFilm forward n s) :=
  ⟨rfl, rfl, rfl, rfl, id, fun _ => id, fun _ => rfl⟩

theorem retried_startCut (work : CutPhase → ExposureWork) (s : State) : Retried s (startCut work s) := by
  unfold startCut
  dsimp only
  split
  · exact ⟨rfl, rfl, rfl, rfl, id, fun _ => List.mem_append_left _, fun _ => rfl⟩
  · exact ⟨rfl, rfl, rfl, rfl, id, fun _ => id, fun _ => rfl⟩

theorem retried_beginGap (n : Nat) (s : State) : Retried s (beginGap n s) := by
  have start : Retried s (setWork (.gap n) s) := ⟨rfl, rfl, rfl, rfl, id, fun _ => id, fun _ => rfl⟩
  unfold beginGap
  dsimp only
  (repeat' split)
  · exact start.trans (retried_takeHold _ _)
  · exact start.trans (retried_takeHold _ _)
  · exact start.trans (retried_startCut _ _)
  · exact start.trans (retried_startFilm _ _ _)

/-! ### A line that may be done -/

/-- The retry keeps what its sub-steps keep, up to the end of the line. -/
def RetriedOrDone (s t : State) : Prop := Retried s t ∨ ∃ l u, Retried s u ∧ t = lineDone l u

theorem Retried.orDone {s t u : State} (h : Retried s t) (k : RetriedOrDone t u) : RetriedOrDone s u := by
  rcases k with k | ⟨l, v, k, rfl⟩
  · exact .inl (h.trans k)
  · exact .inr ⟨l, v, h.trans k, rfl⟩

theorem retried_nextGlyph (l : LineWork) (s : State) : RetriedOrDone s (nextGlyph l s) := by
  unfold nextGlyph
  split
  · exact .inl (retried_glyphDecision l _ s)
  · exact .inr ⟨l, s, ⟨rfl, rfl, rfl, rfl, id, fun _ => id, fun _ => rfl⟩, rfl⟩

theorem retried_clampNoted (l : LineWork) (n : Nat) (s : State) : Retried s (clampNoted l n s) := by
  obtain ⟨x, only, -⟩ := clampNoted_only l n s
  rw [only]
  exact ⟨rfl, rfl, rfl, rfl, id, fun _ => id, fun _ => rfl⟩

theorem retried_beginAdvance (l : LineWork) (forward : Bool) (n : Nat) (s : State) :
    RetriedOrDone s (beginAdvance l forward n s) := by
  have start := retried_setStep l (.advance forward n) s
  by_cases steps : n = 0
  · rw [beginAdvance_zero steps]
    exact start.orDone (retried_nextGlyph l _)
  cases loaded : s.film.loaded with
  | false => rw [beginAdvance_unloaded steps loaded]; exact .inl (retried_heldAt l _ _ s)
  | true =>
    cases forward with
    | true =>
      by_cases short : s.film.length < s.film.position + n
      · rw [beginAdvance_out steps loaded short]; exact .inl (retried_heldAt l _ _ s)
      · rw [beginAdvance_forward steps loaded (Nat.not_lt.mp short)]
        exact .inl (start.trans (retried_startFilm _ _ _))
    | false =>
      have noted := start.trans (retried_clampNoted l n _)
      rw [beginAdvance_back steps loaded]
      split
      · exact noted.orDone (retried_nextGlyph l _)
      · exact .inl ((noted.trans (retried_setStep l _ _)).trans (retried_startFilm _ _ _))

/-! ### The retries -/

theorem retried_retryTurret (l : LineWork) (g : SetGlyph) (s : State) : Retried s (retryTurret l g s) := by
  unfold retryTurret
  split
  · exact retried_turretStep l g _ s
  · exact retried_glyphDecision l g s

theorem retried_retryLens (l : LineWork) (g : SetGlyph) (s : State) : Retried s (retryLens l g s) := by
  unfold retryLens
  (repeat' split)
  · exact retried_heldAt l _ _ s
  · exact retried_lensStep l g s
  · exact retried_heldAt l _ _ s

theorem retried_retryPositioning {k : State → State} (keeps : ∀ u, Retried u (k u)) (s : State) :
    Retried s (retryPositioning k s) := by
  unfold retryPositioning
  (repeat' split)
  · exact retried_takeHold _ s
  · exact retried_takeHold _ s
  · exact (retried_noteCleared s).trans (keeps _)

theorem retried_retryStep (s : State) : RetriedOrDone s (retryStep s) := by
  unfold retryStep
  split
  · next l _ =>
    split
    · exact retried_beginAdvance l _ _ s
    · exact .inr ⟨l, s, ⟨rfl, rfl, rfl, rfl, id, fun _ => id, fun _ => rfl⟩, rfl⟩
    · exact .inl (retried_retryPositioning (retried_retryTurret l _) s)
    · exact .inl (retried_retryPositioning (retried_retryLens l _) s)
    · exact .inl (retried_glyphDecision l _ s)
  · exact .inl (retried_beginGap _ s)
  · split
    · exact .inl (retried_startCut _ s)
    · exact .inl (retried_takeHold _ s)
  · exact .inl ⟨rfl, rfl, rfl, rfl, id, fun _ => id, fun _ => rfl⟩

/-! ### The end of the line and the other channels (R12, R110) -/

/-- A channel that posts and is not detached has no request that a completion could answer. -/
def Channel.answeredAlready (k : Channel) : Prop := k.state = .posting ∧ k.detached = false

theorem completed_of_answeredAlready {k : Channel} (h : k.answeredAlready) (c : Completion) (d : Half)
    (bytes : List Byte) : k.completed c d bytes = k := by
  obtain ⟨posting, attached⟩ := h
  simp [Channel.completed, posting, attached]

theorem examine_channel_of_answeredAlready {ch : ChannelId} {s : State} (h : (s.channel ch).answeredAlready)
    (i : FontSlot) : (examine i s).channel ch = s.channel ch := by
  rw [examine_channel]
  split
  · split
    · exact completed_of_answeredAlready h _ _ _
    · rfl
  · rfl

theorem examineAll_channel_of_answeredAlready {ch : ChannelId} (is : List FontSlot) {s : State}
    (h : (s.channel ch).answeredAlready) : (examineAll is s).channel ch = s.channel ch := by
  unfold examineAll
  induction is generalizing s with
  | nil => rfl
  | cons i rest ih =>
    have one := examine_channel_of_answeredAlready h i
    rw [List.foldl_cons, ih (one ▸ h), one]

theorem lineDone_channel {ch : ChannelId} (l : LineWork) {s : State} (h : (s.channel ch).answeredAlready) :
    (lineDone l s).channel ch = s.channel ch := by
  have gone : ∀ slots u, u.channels = s.channels → (lineGone slots u).channel ch = s.channel ch := by
    intro slots u same
    have lowered : (lowerLine slots u).channel ch = s.channel ch := by
      rw [State.channel, lowerLine, foldl_modFont_channels, same, State.channel]
    rw [lineGone, examineAll_channel_of_answeredAlready _ (lowered ▸ h), lowered]
  unfold lineDone filmDone freeIfDone
  split
  · split
    · rfl
    · exact gone _ _ rfl
  · rfl

/-- What every retry keeps, also one that ends the line. -/
theorem RetriedOrDone.keeps {ch : ChannelId} {s t : State} (h : RetriedOrDone s t)
    (posts : (s.channel ch).answeredAlready) :
    t.channel ch = s.channel ch ∧ t.film.position = s.film.position ∧ t.config = s.config ∧ t.sensors = s.sensors ∧
    (s.exposure.note = false → t.exposure.note = false) ∧
    ((∀ q, .turretMove q ∉ t.pulses) → t.photo.lockWatch = s.photo.lockWatch) := by
  rcases h with h | ⟨l, u, h, rfl⟩
  · exact ⟨by rw [State.channel, h.channels, State.channel], h.position, h.config, h.sensors, h.note, h.watch⟩
  · have same : u.channel ch = s.channel ch := by rw [State.channel, h.channels, State.channel]
    have done := lineDone_channel l (same ▸ posts)
    have only := linesOnly_filmDone l.slot (setWork .none u)
    rw [← lineDone] at only
    refine ⟨done.trans same, ?_⟩
    generalize lineDone l u = v at only
    rw [only]
    exact ⟨h.position, h.config, h.sensors, h.note, h.watch⟩

end Sys2Proof.Machine
end

section
/-! SUPPORT. What the retry of a held step finds (R144, R146): each kind of step, with the hold cleared. -/

namespace Sys2Proof.Machine

/-- The state is HELD with a reason and a work, and nothing is armed or in motion on the film (R144). -/
def HeldAgain (why : HoldReason) (w : ExposureWork) (t : State) : Prop :=
  t.exposure.hold = some why ∧ t.exposure.work = w ∧ t.raised .expHold = true ∧ t.photo.flash = none ∧
  t.film.move = none

theorem HeldAt.again {l : LineWork} {st : LineStep} {why : HoldReason} {t : State} (h : HeldAt l st why t) :
    HeldAgain why (.line { l with step := st }) t := by
  obtain ⟨work, held, raised, flash, -, move⟩ := h
  exact ⟨held, work, raised, flash, move⟩

theorem heldAgain_takeHold {why : HoldReason} {w : ExposureWork} {s : State} (hold : s.exposure.hold = none)
    (work : s.exposure.work = w) : HeldAgain why w (takeHold why s) := by
  rw [takeHold_of_none hold]
  exact ⟨rfl, work, raised_raise_self .expHold _, rfl, rfl⟩

/-- No disc fault is noted, or the disc is LOCKED again (log 17). -/
def State.calm (s : State) : Prop := s.exposure.note = false ∨ s.photo.disc = .locked

theorem not_calm_iff {s : State} : ¬ s.calm ↔ s.exposure.note = true ∧ s.photo.disc ≠ .locked := by
  simp [State.calm]

/-- The part with the disc fault note cleared. -/
def noteCleared (s : State) : State := s.modExposure fun e => { e with note := false }

theorem stationMap_noteCleared (s : State) (k : Fin 4) : (noteCleared s).stationMap k = s.stationMap k :=
  stationMap_congr rfl k

/-! ### The lens and the turret commanded from a state without pulses -/

/-- The lens is driven to a position at which it does not stand. -/
def LensDriven (l : LineWork) (x : LensPos) (time : Nat) (t : State) : Prop :=
  t.exposure.hold = none ∧ t.exposure.work = .line { l with step := .lens } ∧ t.photo.lens = .moving x ∧
  t.photo.lensTimer = some time ∧ t.photo.lensExpired = false ∧ t.pulses = [.lensMove x]

/-- The turret is driven to a station at which it does not stand. -/
def TurretDriven (l : LineWork) (q : Station) (time : Nat) (t : State) : Prop :=
  t.exposure.hold = none ∧ t.exposure.work = .line { l with step := .turret } ∧
  t.photo.turret = .moving (some q) (some .exposure) ∧ t.photo.turretTimer = some time ∧
  t.photo.turretExpired = false ∧ t.photo.disc = .unlocked ∧ t.photo.lockWatch = none ∧ t.pulses = [.turretMove q]

section Commanded

variable {l : LineWork} {g : SetGlyph} {p : Placement} {x : LensPos} {q : Station} {s t : State}
  (quiet : s.pulses = [])
include quiet

theorem TurretCommanded.driven (h : TurretCommanded l q s t) : TurretDriven l q s.turretTime t := by
  obtain ⟨⟨work, hold⟩, turret, timer, expired, disc, -, -, watch, -, -, pulses⟩ := h
  exact ⟨hold, work, turret, timer, expired, disc, watch, by rw [pulses, quiet]; rfl⟩

theorem LensCommanded.driven (h : LensCommanded l g p x s t) (away : s.photo.lens ≠ .standing x) :
    LensDriven l x s.lensTime t := by
  rw [LensCommanded, if_neg away] at h
  obtain ⟨⟨work, hold⟩, lens, timer, expired, -, pulses⟩ := h
  exact ⟨hold, work, lens, timer, expired, by rw [pulses, quiet]; rfl⟩

/-- With the lens and the carriage in place the glyph is armed. -/
theorem LensCommanded.armed (h : LensCommanded l g p x s t) (here : s.photo.lens = .standing x)
    (settled : s.photo.carriage = .settled) (there : s.photo.position = g.x) (near : g.x ≤ 17280) :
    GlyphArmed l g p x t ∧ t.pulses = [] := by
  have target : s.photo.position = min 17280 g.x := by rw [there, Nat.min_eq_right near]
  rw [LensCommanded, if_pos here, CarriageCommanded, settled] at h
  obtain ⟨-, pulses, -, command⟩ := h
  dsimp only at command
  rw [if_pos target] at command
  exact ⟨command.1, pulses.trans quiet⟩

end Commanded

/-! ### The film, the gap and the cut -/

section Film

variable {s : State}

theorem retryStep_cut {target : Nat} {p : CutPhase} (work : s.exposure.work = .cut target p)
    (loaded : s.film.loaded = true) : retryStep s = startCut (.cut target) s := by
  unfold retryStep; rw [work]; exact if_pos loaded

theorem retryStep_cut_unloaded {target : Nat} {p : CutPhase} (work : s.exposure.work = .cut target p)
    (unloaded : s.film.loaded = false) : retryStep s = takeHold .cassetteOut s := by
  unfold retryStep; rw [work]; exact if_neg (ne_true_of_eq_false unloaded)

theorem retryStep_gap {target : Nat} (work : s.exposure.work = .gap target) : retryStep s = beginGap target s := by
  unfold retryStep; rw [work]

theorem retryStep_advance {l : LineWork} {forward : Bool} {n : Nat} (work : s.exposure.work = .line l)
    (step : l.step = .advance forward n) : retryStep s = beginAdvance l forward n s := by
  unfold retryStep; rw [work]; dsimp only; rw [step]

theorem startCut_home {work : CutPhase → ExposureWork} (home : s.cutterHome = true) :
    startCut work s =
      (s.modExposure fun e => { e with cutTimer := some s.cutTime, work := work .awaitFall }).pulse .cut := by
  simp [startCut, home]

theorem startCut_away {work : CutPhase → ExposureWork} (away : s.cutterHome = false) :
    startCut work s = s.modExposure fun e => { e with cutTimer := some s.cutTime, work := work .awaitRise } := by
  simp [startCut, away]

theorem setStep_same {l : LineWork} {st : LineStep} (work : s.exposure.work = .line l) (step : l.step = st) :
    setStep l st s = s := by
  subst step
  rw [setStep, setWork, ← work]
  rfl

end Film

/-! ### A line without a glyph left -/

theorem retryStep_done {l : LineWork} {s : State} (work : s.exposure.work = .line l)
    (other : ∀ forward n, l.step ≠ .advance forward n) (none_ : l.glyph = none) : retryStep s = lineDone l s := by
  unfold retryStep
  rw [work]
  dsimp only
  rw [none_]
  cases step : l.step with
  | advance forward n => exact absurd step (other forward n)
  | _ => rfl

theorem lineDone_exposure (l : LineWork) (s : State) :
    (lineDone l s).exposure.work = .none ∧ (lineDone l s).exposure.hold = s.exposure.hold := by
  obtain ⟨y, c, slots, order, only⟩ := (linesOnly_filmDone l.slot (setWork .none s)).exists
  exact ⟨(congrArg (·.exposure.work) only).trans rfl, (congrArg (·.exposure.hold) only).trans rfl⟩

theorem lineDone_lineAt {l : LineWork} {r : LineRecord} {s : State} (line : s.lineAt l.slot = some r) :
    if r.proof then (lineDone l s).lineAt l.slot = some { r with film := false, filmProgress := .notBegun }
    else (lineDone l s).lineAt l.slot = none := by
  have found : (setWork .none s).lineAt l.slot = some r := line
  split
  · next proof => exact filmDone_kept found proof
  · next noProof => exact (filmDone_freed found (by simpa using noProof)).1

/-! ### A glyph -/

/-- The steps that are decided afresh from check 1. -/
def LineStep.afresh (st : LineStep) : Prop := st = .decision ∨ st = .carriage ∨ st = .shutter ∨ st = .armed

section Glyph

variable {l : LineWork} {g : SetGlyph} {s : State} (work : s.exposure.work = .line l) (glyph : l.glyph = some g)
include work glyph

theorem retryStep_decides (h : l.step.afresh) : retryStep s = glyphDecision l g s := by
  unfold retryStep
  rw [work]
  dsimp only
  rw [glyph]
  rcases h with step | step | step | step <;> rw [step]

theorem retryStep_turret (h : l.step = .turret) : retryStep s = retryPositioning (retryTurret l g) s := by
  unfold retryStep; rw [work]; dsimp only; rw [h, glyph]

theorem retryStep_lens (h : l.step = .lens) : retryStep s = retryPositioning (retryLens l g) s := by
  unfold retryStep; rw [work]; dsimp only; rw [h, glyph]

/-- With a glyph left the retry ends no line, and touches no channel. -/
theorem retried_glyph (h : l.step.afresh ∨ l.step = .turret ∨ l.step = .lens) : Retried s (retryStep s) := by
  rcases h with step | step | step
  · rw [retryStep_decides work glyph step]; exact retried_glyphDecision l g s
  · rw [retryStep_turret work glyph step]; exact retried_retryPositioning (retried_retryTurret l g) s
  · rw [retryStep_lens work glyph step]; exact retried_retryPositioning (retried_retryLens l g) s

variable (hold : s.exposure.hold = none)
include hold

theorem glyphDecided_retryStep (h : l.step.afresh) : GlyphDecided l g s (retryStep s) := by
  rw [retryStep_decides work glyph h]; exact glyphDecided_glyphDecision hold

/-! #### The turret and the lens sub-step: no cassette, the disc fault note -/

theorem retry_positioning_unloaded (h : l.step = .turret ∨ l.step = .lens) (unloaded : s.film.loaded = false) :
    HeldAgain .cassetteOut (.line l) (retryStep s) := by
  have holds : HeldAgain .cassetteOut (.line l) (takeHold .cassetteOut s) := heldAgain_takeHold hold work
  rcases h with step | step
  · rwa [retryStep_turret work glyph step, retryPositioning_unloaded unloaded]
  · rwa [retryStep_lens work glyph step, retryPositioning_unloaded unloaded]

theorem retry_positioning_fault (h : l.step = .turret ∨ l.step = .lens) (loaded : s.film.loaded = true)
    (fault : ¬ s.calm) : HeldAgain .discFault (.line l) (retryStep s) := by
  obtain ⟨note, disc⟩ := not_calm_iff.mp fault
  have holds : HeldAgain .discFault (.line l) (takeHold .discFault s) := heldAgain_takeHold hold work
  rcases h with step | step
  · rwa [retryStep_turret work glyph step, retryPositioning_fault loaded note disc]
  · rwa [retryStep_lens work glyph step, retryPositioning_fault loaded note disc]

/-! #### The glyph decision -/

theorem retry_decision_unloaded (h : l.step.afresh) (unloaded : s.film.loaded = false) :
    HeldAgain .cassetteOut (.line { l with step := .decision }) (retryStep s) :=
  ((glyphDecided_retryStep work glyph hold h).1 unloaded).again

theorem retry_unplaced (h : l.step.afresh ∨ l.step = .turret ∧ s.calm) (loaded : s.film.loaded = true)
    (unplaced : (s.font g.slot).placement = none) :
    HeldAgain .fontUnplaced (.line { l with step := .decision }) (retryStep s) := by
  rcases h with step | ⟨step, calm⟩
  · exact ((glyphDecided_retryStep work glyph hold step).2.1 loaded unplaced).again
  · have unplaced' : ((noteCleared s).font g.slot).placement = none := unplaced
    have decides : retryTurret l g (noteCleared s) = glyphDecision l g (noteCleared s) := by
      unfold retryTurret; rw [unplaced']
    rw [retryStep_turret work glyph step, retryPositioning_passes loaded calm, ← noteCleared, decides,
      glyphDecision_unplaced (s := noteCleared s) loaded unplaced']
    exact (takeHold_at (l := l) (st := .decision) (s := setStep l .decision (noteCleared s)) hold rfl).again

section Decided

variable {p : Placement} (h : l.step.afresh) (loaded : s.film.loaded = true)
  (placed : (s.font g.slot).placement = some p)
include h loaded placed

theorem retry_decision_mismatch (judged : judgedVerification g p s = .mismatch) :
    HeldAgain .discMismatch (.line { l with step := .decision }) (retryStep s) := by
  obtain ⟨-, -, decided⟩ := glyphDecided_retryStep work glyph hold h
  obtain ⟨-, holds, -⟩ := decided p loaded placed
  exact (holds judged).again

theorem retry_decision_fault (judged : judgedVerification g p s ≠ .mismatch) (fault : ¬ s.calm) :
    HeldAgain .discFault (.line { l with step := .decision }) (retryStep s) := by
  obtain ⟨-, -, decided⟩ := glyphDecided_retryStep work glyph hold h
  obtain ⟨-, -, holds, -⟩ := decided p loaded placed
  exact (holds judged (not_calm_iff.mp fault)).again

theorem retry_decision_verification : ((retryStep s).font g.slot).verification = judgedVerification g p s := by
  obtain ⟨-, -, decided⟩ := glyphDecided_retryStep work glyph hold h
  exact (decided p loaded placed).1

end Decided

end Glyph

theorem judgedVerification_kept {g : SetGlyph} {p : Placement} {s : State}
    (h : (s.font g.slot).verification ≠ .unverified ∨ s.photo.turret ≠ .standing (s.stationMap p.station)) :
    judgedVerification g p s = (s.font g.slot).verification := by
  refine if_neg fun ⟨unverified, here, _⟩ => ?_
  exact h.elim (fun ne => ne unverified) fun ne => ne here

theorem judgedVerification_judged {g : SetGlyph} {p : Placement} {s : State}
    (unverified : (s.font g.slot).verification = .unverified) (used : (s.font g.slot).state ≠ .empty)
    (here : s.photo.turret = .standing (s.stationMap p.station)) :
    judgedVerification g p s = if p.code = s.discCodeLines then .verified else .mismatch :=
  if_pos ⟨unverified, here, used⟩

/-! ### The turret and the lens sub-step retried without a fault -/

theorem turretStep_mismatch {l : LineWork} {g : SetGlyph} {p : Placement} {s : State}
    (here : s.photo.turret = .standing (s.stationMap p.station)) (h : (s.font g.slot).verification = .mismatch) :
    turretStep l g p s = takeHold .discMismatch (setStep l .decision (setStep l .turret s)) := by
  have stands : (setStep l .turret s).photo.turret = .standing ((setStep l .turret s).stationMap p.station) := here
  have fits : ((setStep l .turret s).font g.slot).verification = .mismatch := h
  unfold turretStep
  dsimp only
  rw [if_pos stands, if_pos fits]

theorem turretPlaced_iff {g : SetGlyph} {s : State} : s.turretPlaced g = true ↔
    ∃ p, (s.font g.slot).placement = some p ∧ s.photo.turret = .standing (s.stationMap p.station) := by
  simp [State.turretPlaced, Option.any_eq_true]

theorem stationKept_iff {s : State} :
    s.stationKept = true ↔ ∃ q, s.exposure.turretAt = some q ∧ s.photo.turret = .standing q := by
  simp [State.stationKept, Option.any_eq_true]

theorem lensStep_drives {l : LineWork} {g : SetGlyph} {x : LensPos} {s : State} (quiet : s.pulses = [])
    (hold : s.exposure.hold = none) (lens : s.lensFor g.size = some x) (away : s.photo.lens ≠ .standing x) :
    LensDriven l x s.lensTime (lensStep l g s) := by
  unfold lensStep
  dsimp only
  have lens' : (setStep l .lens (s.modExposure fun e => { e with turretAt := s.photo.turret.station })).lensFor g.size =
      some x := (lensFor_congr (s := s) rfl _).trans lens
  rw [lens']
  dsimp only
  rw [if_neg (show (setStep l .lens (s.modExposure _)).photo.lens ≠ _ from away)]
  exact ⟨hold, rfl, rfl, rfl, rfl, congrArg (· ++ [Pulse.lensMove x]) quiet⟩

section Positioning

variable {l : LineWork} {g : SetGlyph} {s : State} (work : s.exposure.work = .line l) (glyph : l.glyph = some g)
  (hold : s.exposure.hold = none) (loaded : s.film.loaded = true) (calm : s.calm)
include work glyph loaded calm

theorem retryStep_turret_placed {p : Placement} (h : l.step = .turret) (placed : (s.font g.slot).placement = some p) :
    retryStep s = turretStep l g p (noteCleared s) := by
  have placed' : ((noteCleared s).font g.slot).placement = some p := placed
  rw [retryStep_turret work glyph h, retryPositioning_passes loaded calm, ← noteCleared, retryTurret, placed']

theorem retryStep_lens_calm (h : l.step = .lens) : retryStep s = retryLens l g (noteCleared s) := by
  rw [retryStep_lens work glyph h, retryPositioning_passes loaded calm, ← noteCleared]

include hold

theorem retry_turret_drives {p : Placement} (h : l.step = .turret) (placed : (s.font g.slot).placement = some p)
    (away : s.photo.turret ≠ .standing (s.stationMap p.station)) :
    TurretCommanded l (s.stationMap p.station) s (retryStep s) := by
  rw [retryStep_turret_placed work glyph loaded calm h placed]
  have drives := turretStep_drives (l := l) (g := g) (p := p) (s := noteCleared s) hold
    (by rw [stationMap_noteCleared]; exact away)
  rw [stationMap_noteCleared] at drives
  exact turretCommanded_congr rfl rfl drives

theorem retry_lens_lost (h : l.step = .lens)
    (displaced : ∀ p, (s.font g.slot).placement = some p → s.photo.turret ≠ .standing (s.stationMap p.station))
    (lost : ∀ q, s.exposure.turretAt = some q → s.photo.turret ≠ .standing q) :
    HeldAgain .turretJam (.line { l with step := .turret }) (retryStep s) := by
  have displaced' : (noteCleared s).turretPlaced g = false := Bool.eq_false_iff.mpr fun here => by
    obtain ⟨p, placed, here⟩ := turretPlaced_iff.mp here
    rw [stationMap_noteCleared] at here
    exact displaced p placed here
  have lost' : (noteCleared s).stationKept = false := Bool.eq_false_iff.mpr fun here => by
    obtain ⟨q, at_, here⟩ := stationKept_iff.mp here
    exact lost q at_ here
  rw [retryStep_lens_calm work glyph loaded calm h, retryLens_lost displaced' lost']
  exact (takeHold_at (l := l) (st := .turret) (s := setStep l .turret (noteCleared s)) hold rfl).again

/-- With the turret where it ended, the lens is commanded whatever became of the placement. -/
theorem retry_lens_drives {q : Station} {x : LensPos} (quiet : s.pulses = []) (h : l.step = .lens)
    (kept : s.exposure.turretAt = some q) (stands : s.photo.turret = .standing q)
    (fits : ∀ p, (s.font g.slot).placement = some p → s.stationMap p.station = q →
      (s.font g.slot).verification ≠ .mismatch)
    (lens : s.lensFor g.size = some x) (away : s.photo.lens ≠ .standing x) :
    LensDriven l x s.lensTime (retryStep s) := by
  have kept' : (noteCleared s).stationKept = true := stationKept_iff.mpr ⟨q, kept, stands⟩
  have fits' : ¬ ((noteCleared s).turretPlaced g ∧ ((noteCleared s).font g.slot).verification = .mismatch) := by
    rintro ⟨here, mismatch⟩
    obtain ⟨p, placed, here⟩ := turretPlaced_iff.mp here
    rw [stationMap_noteCleared] at here
    have station : Turret.standing q = .standing (s.stationMap p.station) := stands.symm.trans here
    exact fits p placed (Turret.standing.inj station).symm mismatch
  have time : (noteCleared s).lensTime = s.lensTime := by
    simp only [State.lensTime, State.setting1, State.setting, State.entry, noteCleared, State.modExposure_config]
  rw [retryStep_lens_calm work glyph loaded calm h, retryLens_commands (.inr kept') fits', ← time]
  exact lensStep_drives (s := noteCleared s) quiet hold ((lensFor_congr (s := s) rfl _).trans lens) away

section Here

variable {p : Placement} (placed : (s.font g.slot).placement = some p)
  (here : s.photo.turret = .standing (s.stationMap p.station))
include placed here

theorem retry_here_mismatch (h : l.step = .turret ∨ l.step = .lens)
    (mismatch : (s.font g.slot).verification = .mismatch) :
    HeldAgain .discMismatch (.line { l with step := .decision }) (retryStep s) := by
  have here' : (noteCleared s).photo.turret = .standing ((noteCleared s).stationMap p.station) := by
    rw [stationMap_noteCleared]; exact here
  rcases h with step | step
  · rw [retryStep_turret_placed work glyph loaded calm step placed, turretStep_mismatch here' mismatch]
    exact (takeHold_at (l := l) (st := .decision)
      (s := setStep l .decision (setStep l .turret (noteCleared s))) hold rfl).again
  · rw [retryStep_lens_calm work glyph loaded calm step,
      retryLens_mismatch (s := noteCleared s) (turretPlaced_iff.mpr ⟨p, placed, here'⟩) mismatch]
    exact (takeHold_at (l := l) (st := .decision) (s := setStep l .decision (noteCleared s)) hold rfl).again

theorem retry_here_commands {x : LensPos} (h : l.step.afresh ∨ l.step = .turret ∨ l.step = .lens)
    (fits : judgedVerification g p s ≠ .mismatch) (fits' : (s.font g.slot).verification ≠ .mismatch)
    (lens : s.lensFor g.size = some x) : LensCommanded l g p x s (retryStep s) := by
  have here' : (noteCleared s).photo.turret = .standing ((noteCleared s).stationMap p.station) := by
    rw [stationMap_noteCleared]; exact here
  have lens' : (noteCleared s).lensFor g.size = some x := (lensFor_congr (s := s) rfl _).trans lens
  rcases h with step | step | step
  · obtain ⟨-, -, decided⟩ := glyphDecided_retryStep work glyph hold step
    obtain ⟨-, -, -, goesOn⟩ := decided p loaded placed
    obtain ⟨-, -, commands⟩ := goesOn fits fun fault => not_calm_iff.mpr fault calm
    exact commands x here lens
  · rw [retryStep_turret_placed work glyph loaded calm step placed]
    exact lensCommanded_congr rfl rfl rfl rfl rfl
      (lensStep_commands_turretStep (s := noteCleared s) hold placed lens' here' fits')
  · have commands := retryLens_commands (l := l) (g := g) (s := noteCleared s)
      (.inl (turretPlaced_iff.mpr ⟨p, placed, here'⟩)) fun ⟨_, mismatch⟩ => fits' mismatch
    rw [retryStep_lens_calm work glyph loaded calm step, commands]
    exact lensCommanded_congr rfl rfl rfl rfl rfl (lensStep_commands (s := noteCleared s) placed lens' hold)

/-- A font judged by the code on the lines at its station (R140 check 4). -/
theorem retry_here_unverified (h : l.step.afresh) (unverified : (s.font g.slot).verification = .unverified)
    (used : (s.font g.slot).state ≠ .empty) (same : p.code = s.discCodeLines) {x : LensPos}
    (lens : s.lensFor g.size = some x) :
    LensCommanded l g p x s (retryStep s) ∧ ((retryStep s).font g.slot).verification = .verified := by
  have judged := judgedVerification_judged unverified used here
  rw [if_pos same] at judged
  have agrees : judgedVerification g p s ≠ .mismatch := by rw [judged]; exact Verification.noConfusion
  have fits : (s.font g.slot).verification ≠ .mismatch := by rw [unverified]; exact Verification.noConfusion
  exact ⟨retry_here_commands work glyph hold loaded calm placed here (.inl h) agrees fits lens,
    (retry_decision_verification work glyph hold h loaded placed).trans judged⟩

theorem retry_here_verified {x : LensPos} (h : l.step.afresh ∨ l.step = .turret ∨ l.step = .lens)
    (verified : (s.font g.slot).verification = .verified) (lens : s.lensFor g.size = some x) :
    LensCommanded l g p x s (retryStep s) := by
  have fits : (s.font g.slot).verification ≠ .mismatch := by rw [verified]; exact Verification.noConfusion
  have known : (s.font g.slot).verification ≠ .unverified := by rw [verified]; exact Verification.noConfusion
  have judged : judgedVerification g p s ≠ .mismatch := by rw [judgedVerification_kept (.inl known)]; exact fits
  exact retry_here_commands work glyph hold loaded calm placed here h judged fits lens

end Here

theorem retry_away_drives {p : Placement} (h : l.step.afresh ∨ l.step = .turret)
    (placed : (s.font g.slot).placement = some p) (fits : (s.font g.slot).verification ≠ .mismatch)
    (away : s.photo.turret ≠ .standing (s.stationMap p.station)) :
    TurretCommanded l (s.stationMap p.station) s (retryStep s) := by
  rcases h with step | step
  · obtain ⟨-, -, decided⟩ := glyphDecided_retryStep work glyph hold step
    obtain ⟨-, -, -, goesOn⟩ := decided p loaded placed
    have judged : judgedVerification g p s ≠ .mismatch := by rw [judgedVerification_kept (.inr away)]; exact fits
    obtain ⟨-, drives, -⟩ := goesOn judged fun fault => not_calm_iff.mpr fault calm
    exact drives away
  · exact retry_turret_drives work glyph hold loaded calm step placed away

end Positioning

end Sys2Proof.Machine
end

section
/-! PROOF. RESUME EXPOSURE retries the held step (O45). -/

namespace Sys2Proof.Machine

/-! ### The request (R146) -/

/-- The hold is cleared and the request has completed with the reason's code. -/
def released (ch : ChannelId) (b : Block) (reason : HoldReason) (s : State) : State :=
  (s.fresh.modExposure fun e => { e with hold := none }).posts ch { code := 0x41, block := b } .done
    (BitVec.ofNat 16 reason.code) []

/-- What the reason adds before the retry: after DISC_FAULT the note is cleared and the lock watch restarted. -/
def readied (reason : HoldReason) (s : State) : State :=
  match reason with
  | .discFault => (startLockWatch s).modExposure fun e => { e with note := false }
  | _ => s

theorem retry_readied {reason : HoldReason} {s : State} (lid : reason = .lidOpen → s.lidClosed = true) :
    retry reason s = retryStep (readied reason s) := by
  cases reason with
  | lidOpen => exact if_pos (lid rfl)
  | _ => rfl

theorem retry_lidOpen {s : State} (opened : s.lidClosed = false) : retry .lidOpen s = takeHold .lidOpen s :=
  if_neg (ne_true_of_eq_false opened)

section Request

variable {s : State} {ch : ChannelId} {b : Block} (ready : s.readyFor ch) (fits : b.payload.length ≤ 1024)
include ready fits

theorem resume_refused (hold : s.exposure.hold = none) :
    EventTo (exec (.resumeExposure ch b) s) s (s.fresh.refuses ch { code := 0x41, block := b } .wrongState) :=
  request_refused ready fits fun t ht => by
    have hold' : t.exposure.hold = none := by rw [ht]; exact hold
    exact (show ownerTakes ch _ t = takeResume ch t from rfl).trans (by rw [takeResume, hold'])

theorem resume_retries {reason : HoldReason} (hold : s.exposure.hold = some reason) :
    exec (.resumeExposure ch b) s = .next (react (retry reason (released ch b reason s))) := by
  refine (requestEvent_ready ready _ _ fits).trans (congrArg (fun t : State => (.next (react t) : Answer)) ?_)
  set w := s.fresh.waits ch { code := 0x41, block := b } with hw
  have takes : ownerTakes ch { code := 0x41, block := b } w = takeResume ch w := rfl
  have hold' : w.exposure.hold = some reason := hold
  have handed : (w.modExposure fun e => { e with hold := none }).handed ch { code := 0x41, block := b } :=
    (State.handed_congr rfl).2 (State.waits_handed _ ((State.readyFor_congr rfl).2 ready))
  rw [takes, takeResume, hold']
  dsimp only
  rw [finish_handed handed]
  exact congrArg (retry reason) (posts_waits ch { code := 0x41, block := b } _ _ _ _
    (s.fresh.modExposure fun e => { e with hold := none }))

end Request

/-! ### The part in which the step is retried -/

/-- The part as the retry of the held step finds it: all but the hold, the note, the lock watch and the channel is as
before. -/
structure Resumed (reason : HoldReason) (s u : State) : Prop where
  hold : u.exposure.hold = none
  quiet : u.pulses = []
  config : u.config = s.config
  sensors : u.sensors = s.sensors
  film : u.film = s.film
  fonts : u.fonts = s.fonts
  store : u.store = s.store
  work : u.exposure.work = s.exposure.work
  turretAt : u.exposure.turretAt = s.exposure.turretAt
  turret : u.photo.turret = s.photo.turret
  lens : u.photo.lens = s.photo.lens
  carriage : u.photo.carriage = s.photo.carriage
  position : u.photo.position = s.photo.position
  calm : (reason = .discFault ∨ s.exposure.note = false ∨ s.photo.disc = .locked) ↔ u.calm
  fault : reason = .discFault → u.exposure.note = false ∧
    u.photo.lockWatch = if s.photo.disc = .locked then none else some s.lockTime

theorem resumed_readied (ch : ChannelId) (b : Block) (reason : HoldReason) (s : State) :
    Resumed reason s (readied reason (released ch b reason s)) := by
  by_cases fault : reason = .discFault
  · subst fault
    have time : (released ch b .discFault s).lockTime = s.lockTime := by
      simp only [State.lockTime, State.setting1, State.setting, State.entry, released, State.posts,
        State.modChannel_config, State.modExposure_config, State.fresh_config]
    refine ⟨rfl, rfl, rfl, rfl, rfl, rfl, rfl, rfl, rfl, rfl, rfl, rfl, rfl, ?_, fun _ => ⟨rfl, ?_⟩⟩
    · exact ⟨fun _ => .inl rfl, fun _ => .inl rfl⟩
    · rw [← time]; rfl
  · have same : readied reason (released ch b reason s) = released ch b reason s := by
      cases reason with
      | discFault => exact absurd rfl fault
      | _ => rfl
    rw [same]
    refine ⟨rfl, rfl, rfl, rfl, rfl, rfl, rfl, rfl, rfl, rfl, rfl, rfl, rfl, ?_, fun h => absurd h fault⟩
    exact or_iff_right fault

/-! What the model reads of those fields. -/

section Reads

variable {reason : HoldReason} {s u : State} (R : Resumed reason s u)
include R

theorem Resumed.font (i : FontSlot) : u.font i = s.font i := by rw [State.font, R.fonts, State.font]
theorem Resumed.lineAt (i : LineSlot) : u.lineAt i = s.lineAt i := by rw [State.lineAt, R.store, State.lineAt]
theorem Resumed.stationMap (k : Fin 4) : u.stationMap k = s.stationMap k := stationMap_congr R.config k
theorem Resumed.lensFor (n : Nat) : u.lensFor n = s.lensFor n := lensFor_congr R.config n
theorem Resumed.setting1 (i : Nat) : u.setting1 i = s.setting1 i := by
  simp only [State.setting1, State.setting, State.entry, R.config]
theorem Resumed.turretTime : u.turretTime = s.turretTime := by rw [State.turretTime, R.setting1, State.turretTime]
theorem Resumed.lensTime : u.lensTime = s.lensTime := by rw [State.lensTime, R.setting1, State.lensTime]
theorem Resumed.filmPeriod : u.filmPeriod = s.filmPeriod := by rw [State.filmPeriod, R.setting1, State.filmPeriod]
theorem Resumed.cutTime : u.cutTime = s.cutTime := by rw [State.cutTime, R.setting1, State.cutTime]
theorem Resumed.conditioned (bit : Nat) : u.conditioned bit = s.conditioned bit :=
  conditioned_congr (by rw [R.sensors]) R.config bit
theorem Resumed.cutterHome : u.cutterHome = s.cutterHome := R.conditioned _
theorem Resumed.discCodeLines : u.discCodeLines = s.discCodeLines := by
  simp only [State.discCodeLines, State.inversion, State.entry, R.sensors, R.config]

end Reads

theorem readied_channels (ch : ChannelId) (b : Block) (reason : HoldReason) (s : State) :
    (readied reason (released ch b reason s)).channels =
      (s.posts ch { code := 0x41, block := b } .done (BitVec.ofNat 16 reason.code) []).channels := by
  cases reason with
  | _ => rfl

theorem retried_retry (reason : HoldReason) (s : State) : RetriedOrDone (readied reason s) (retry reason s) := by
  by_cases lid : reason = .lidOpen → s.lidClosed = true
  · rw [retry_readied lid]; exact retried_retryStep _
  · obtain ⟨rfl, opened⟩ := Classical.not_imp.mp lid
    rw [retry_lidOpen (Bool.eq_false_iff.mpr opened)]
    exact .inl (retried_takeHold .lidOpen s)

/-- The requesting channel posts the reply. -/
theorem answeredAlready_posts {ch : ChannelId} {s u : State} (ready : s.readyFor ch) (r : Request) (d : Half)
    (channels : u.channels = (s.posts ch r .done d []).channels) : (u.channel ch).answeredAlready := by
  obtain ⟨-, -, attached⟩ := ready
  rw [State.channel, channels, ← State.channel, State.posts, State.channel_modChannel_self]
  exact ⟨rfl, attached⟩

/-! ### The lid (R144) -/

/-- A retry that finds the lid open holds again, and wakes no reaction. -/
theorem settled_lidOpen {s : State} {ch : ChannelId} {b : Block} {reason : HoldReason} (ready : s.readyFor ch)
    (hold : s.exposure.hold = some reason) :
    (takeHold .lidOpen (released ch b reason s)).settled = s.settled := by
  have ready' : s.fresh.readyFor ch := (State.readyFor_congr rfl).2 ready
  have posts : (s.fresh.posts ch { code := 0x41, block := b } .done (BitVec.ofNat 16 reason.code) []).settled =
      s.settled := by rw [settled_posts ready', settled_fresh]
  rw [takeHold_of_none rfl, ← posts]
  refine settled_of_fields (fun _ => rfl) rfl ?_ rfl rfl rfl rfl rfl
  have busy : s.exposureIdle = false := by simp [State.exposureIdle, hold]
  have held : State.exposureIdle ((stopFilm (withdrawFlash (released ch b reason s))).modExposure fun e =>
      { e with hold := some .lidOpen, cutTimer := none }) = false := by simp [State.exposureIdle]
  exact held.trans busy.symm

/-! ### The film moves and the cut -/

theorem startFilm_moves {forward : Bool} {n : Nat} {s u : State} (config : u.config = s.config) :
    (startFilm forward n u).film.move = some { forward := forward, remaining := n } ∧
    (startFilm forward n u).film.timer = some s.filmPeriod := by
  have time : u.filmPeriod = s.filmPeriod := by
    simp only [State.filmPeriod, State.setting1, State.setting, State.entry, config]
  exact ⟨rfl, congrArg some time⟩

/-- A film advance toward the galley start, retried with the film beyond it. -/
theorem retry_back {l : LineWork} {n : Nat} {s : State} (work : s.exposure.work = .line l)
    (step : l.step = .advance false n) (steps : 0 < n) (loaded : s.film.loaded = true)
    (beyond : s.film.galleyStart < s.film.position) :
    ∃ x, retryStep s = startFilm false (s.backSteps n)
      (setStep l (.advance false (s.backSteps n)) { s with galleys := x }) := by
  have more : s.backSteps n ≠ 0 := by unfold State.backSteps; omega
  obtain ⟨x, only, -⟩ := clampNoted_only l n s
  refine ⟨x, ?_⟩
  rw [retryStep_advance work step, beginAdvance_back steps.ne' loaded, if_neg more, setStep_same work step, only]

/-- The request has brought the part to a state with the posted channels and `P`, and the reactions follow. -/
def ResumesTo (ch : ChannelId) (b : Block) (reason : HoldReason) (s : State) (P : State → Prop) : Prop :=
  ∃ t, exec (.resumeExposure ch b) s = .next (react t) ∧
    t.channels = (s.posts ch { code := 0x41, block := b } .done (BitVec.ofNat 16 reason.code) []).channels ∧ P t

/-- Settles O45. -/
theorem resumeRetriesTheHeldStep : Obligations.ResumeRetriesTheHeldStep := by
  intro s ch b ready fits
  refine ⟨resume_refused ready fits, fun reason hold => ?_⟩
  have command := resume_retries ready fits hold
  have R := resumed_readied ch b reason s
  have channels := readied_channels ch b reason s
  have readies := retry_readied (reason := reason) (s := released ch b reason s)
  have retried := retried_retry reason (released ch b reason s)
  generalize readied reason (released ch b reason s) = u at R channels readies retried
  have resumes : ∀ {P : State → Prop}, (reason = .lidOpen → s.lidClosed = true) →
      (retryStep u).channels = u.channels → P (retryStep u) → ResumesTo ch b reason s P :=
    fun lid kept h => ⟨_, by rw [command, readies lid], kept.trans channels, h⟩
  have hold' := R.hold
  have holdsAgain : ∀ {why : HoldReason}, (reason = .lidOpen → s.lidClosed = true) →
      retryStep u = takeHold why u → ResumesTo ch b reason s (HeldAgain why u.exposure.work) :=
    fun lid holds => resumes lid (by rw [holds, (retried_takeHold ..).channels])
      (by rw [holds]; exact heldAgain_takeHold hold' rfl)
  have posts := answeredAlready_posts ready _ _ channels
  have posted : u.channel ch =
      (s.posts ch { code := 0x41, block := b } .done (BitVec.ofNat 16 reason.code) []).channel ch := by
    rw [State.channel, channels, State.channel]
  refine ⟨?everyHold, fun why opened => ?lidOpen, fun target p work lid => ?cut, fun target work lid => ?gap,
    fun l forward n work step steps lid => ?advance, fun l line work other none_ lid found => ?done,
    fun l g work glyph lid => ?glyph⟩
  case everyHold =>
    obtain ⟨channel, position, config, sensors, note, watch⟩ := retried.keeps posts
    refine ⟨_, command, channel.trans posted, position.trans (by rw [R.film]), config.trans R.config,
      sensors.trans R.sensors, fun fault => ?_⟩
    obtain ⟨clear, restarted⟩ := R.fault fault
    exact ⟨note clear, fun still => (watch still).trans restarted⟩
  case lidOpen =>
    subst why
    rw [retry_lidOpen (s := released ch b .lidOpen s) opened] at command
    obtain ⟨held, work, raised, -⟩ := heldAgain_takeHold (why := .lidOpen) (s := released ch b .lidOpen s) rfl rfl
    exact ⟨_, eventTo_of_settled command (settled_lidOpen ready hold), (retried_takeHold ..).channels, held, work, raised⟩
  case cut =>
    simp only [← R.film, ← R.cutTime, ← R.cutterHome, ← R.work] at work ⊢
    refine ⟨fun loaded home => ?_, fun loaded away => ?_,
      fun unloaded => holdsAgain lid (retryStep_cut_unloaded work unloaded)⟩
    · have cuts := (retryStep_cut work loaded).trans (startCut_home home)
      refine resumes lid (by rw [cuts]; rfl) ?_
      rw [cuts]
      exact ⟨hold', rfl, rfl, congrArg (· ++ [Pulse.cut]) R.quiet⟩
    · have waits := (retryStep_cut work loaded).trans (startCut_away away)
      refine resumes lid (by rw [waits]; rfl) ?_
      rw [waits]
      exact ⟨hold', rfl, rfl, R.quiet⟩
  case gap =>
    simp only [← R.film, ← R.filmPeriod, ← R.work] at work ⊢
    have gap := retryStep_gap work
    have kept : (retryStep u).channels = u.channels := by rw [gap]; exact (retried_beginGap ..).channels
    refine ⟨fun loaded ahead room => resumes lid kept ?_, fun loaded short => resumes lid kept ?_,
      fun unloaded => resumes lid kept ?_⟩
    · rw [gap, beginGap_moves loaded room ahead]
      obtain ⟨move, timer⟩ := startFilm_moves (forward := true) (n := target - u.film.position)
        (s := u) (u := setWork (.gap target) u) rfl
      exact ⟨hold', move, timer, rfl⟩
    · rw [gap, beginGap_out loaded short]
      exact heldAgain_takeHold (s := setWork (.gap target) u) hold' rfl
    · rw [gap, beginGap_unloaded unloaded]
      exact heldAgain_takeHold (s := setWork (.gap target) u) hold' rfl
  case advance =>
    simp only [← R.film, ← R.filmPeriod, ← R.work] at work ⊢
    have advance := retryStep_advance work step
    have same := setStep_same work step
    refine ⟨fun unloaded => holdsAgain lid ?_, ?_, ?_, ?_⟩
    · rw [advance, beginAdvance_unloaded steps.ne' unloaded, same]
    · rintro loaded rfl short
      exact holdsAgain lid (by rw [advance, beginAdvance_out steps.ne' loaded short, same])
    · rintro loaded rfl room
      have moves : retryStep u = startFilm true n u := by
        rw [advance, beginAdvance_forward steps.ne' loaded room, same]
      refine resumes lid (by rw [moves]; rfl) ?_
      rw [moves]
      exact ⟨hold', rfl, startFilm_moves rfl⟩
    · rintro loaded rfl beyond
      obtain ⟨x, moves⟩ := retry_back work step steps loaded beyond
      refine resumes lid (by rw [moves]; rfl) ?_
      rw [moves]
      exact ⟨hold', rfl, startFilm_moves rfl⟩
  case done =>
    have done := retryStep_done (R.work.trans work) other none_
    obtain ⟨ended, idle⟩ := lineDone_exposure l u
    exact ⟨_, by rw [command, readies lid, done], (lineDone_channel l posts).trans posted, idle.trans hold', ended,
      lineDone_lineAt ((R.lineAt _).trans found)⟩
  case glyph =>
    simp only [R.calm]
    simp only [← R.film, ← R.font, ← R.stationMap, ← R.lensFor, ← R.turretTime, ← R.lensTime, ← R.discCodeLines,
      ← R.turret, ← R.lens, ← R.carriage, ← R.position, ← R.turretAt, ← R.work] at work ⊢
    have goesOn : ∀ {P : State → Prop}, l.step.afresh ∨ l.step = .turret ∨ l.step = .lens → P (retryStep u) →
        ResumesTo ch b reason s P :=
      fun step => resumes lid (retried_glyph work glyph step).channels
    refine ⟨fun afresh unloaded => goesOn (.inl afresh) (retry_decision_unloaded work glyph hold' afresh unloaded),
      fun step loaded unplaced => goesOn (step.imp_right fun h => .inl h.1)
        (retry_unplaced work glyph hold' step loaded unplaced),
      fun afresh loaded placed mismatch => ?_, fun afresh loaded placed verified fault => ?_,
      fun p afresh loaded placed unverified used here => ?_,
      fun p step loaded placed fits calm away => goesOn (step.imp_right .inl)
        (retry_away_drives work glyph hold' loaded calm step placed fits away |>.driven R.quiet),
      fun step unloaded => goesOn (.inr step) ?_, fun step loaded fault => goesOn (.inr step) ?_,
      fun step loaded calm displaced lost => goesOn (.inr (.inr step))
        (retry_lens_lost work glyph hold' loaded calm step displaced lost),
      fun p step loaded calm placed here mismatch => goesOn (.inr step)
        (retry_here_mismatch work glyph hold' loaded calm placed here step mismatch),
      fun p step loaded calm placed away => goesOn (.inr (.inl step))
        ((retry_turret_drives work glyph hold' loaded calm step placed away).driven R.quiet),
      fun p x step loaded calm placed here verified lens away => goesOn step
        ((retry_here_verified work glyph hold' loaded calm placed here step verified lens).driven R.quiet away),
      fun q x step loaded calm kept stands fits lens away => goesOn (.inr (.inr step))
        (retry_lens_drives work glyph hold' loaded calm R.quiet step kept stands fits lens away),
      fun p x step loaded calm placed here verified lens standing settled there near => goesOn step ?_⟩
    · obtain ⟨p, placed⟩ := Option.isSome_iff_exists.mp placed
      have judged := judgedVerification_kept (g := g) (p := p) (s := u)
        (.inl (by rw [mismatch]; exact Verification.noConfusion))
      exact goesOn (.inl afresh)
        (retry_decision_mismatch work glyph hold' afresh loaded placed (judged.trans mismatch))
    · obtain ⟨p, placed⟩ := Option.isSome_iff_exists.mp placed
      have judged := judgedVerification_kept (g := g) (p := p) (s := u)
        (.inl (by rw [verified]; exact Verification.noConfusion))
      exact goesOn (.inl afresh) (retry_decision_fault work glyph hold' afresh loaded placed
        (by rw [judged, verified]; exact Verification.noConfusion) fault)
    · have judged := judgedVerification_judged unverified used here
      refine ⟨fun other => goesOn (.inl afresh) ?_, fun same fault => goesOn (.inl afresh) ?_,
        fun x same calm lens => ?_⟩
      · exact retry_decision_mismatch work glyph hold' afresh loaded placed (judged.trans (if_neg other))
      · exact retry_decision_fault work glyph hold' afresh loaded placed
          (by rw [judged, if_pos same]; exact Verification.noConfusion) fault
      · obtain ⟨commands, verified⟩ :=
          retry_here_unverified work glyph hold' loaded calm placed here afresh unverified used same lens
        refine ⟨fun away => goesOn (.inl afresh) (commands.driven R.quiet away),
          fun standing settled there near => goesOn (.inl afresh) ?_⟩
        obtain ⟨⟨⟨work', idle⟩, -, -, flash⟩, -⟩ := commands.armed R.quiet standing settled there near
        exact ⟨idle, work', verified, flash⟩
    · rw [work]; exact retry_positioning_unloaded work glyph hold' step unloaded
    · rw [work]; exact retry_positioning_fault work glyph hold' step loaded fault
    · obtain ⟨⟨⟨work', idle⟩, shutter, delay, flash⟩, pulses⟩ :=
        (retry_here_verified work glyph hold' loaded calm placed here step verified lens).armed R.quiet standing
          settled there near
      exact ⟨idle, work', shutter, flash, delay, pulses⟩

end Sys2Proof.Machine
end

section
/-! PROOF. A step of the film (O41): the step itself (R138), low film (R147), and what the last step of a move leads to
(R137, R148, R150). -/

namespace Sys2Proof.Machine

/-! ### Low film (R147) -/

theorem judgeLow_only (s : State) : judgeLow s =
    { s with film := { s.film with lowNoted := (judgeLow s).film.lowNoted }, attn := (judgeLow s).attn } := by
  unfold judgeLow
  split <;> rfl

/-- The event in which film becomes low raises FILM_LOW. -/
theorem judgeLow_notes {s : State} (low : s.filmLow = true) (fresh : s.film.lowNoted = false) :
    judgeLow s = (s.modFilm fun f => { f with lowNoted := true }).raise .filmLow := by
  simp [judgeLow, low, fresh]

theorem filmLow_iff (s : State) :
    s.filmLow = true ↔ s.film.loaded = true ∧ s.film.length - s.film.deepest < s.setting 0x0F * 1440 := by
  simp [State.filmLow]

/-! ### One step (R138) -/

/-- Where a step of the move brings the film. -/
def FilmMove.reaches (m : FilmMove) (s : State) : Nat :=
  if m.forward then s.film.position + 1 else s.film.position - 1

/-- The film after a step of the move, before low film is judged. -/
def filmMoved (m : FilmMove) (s : State) : State :=
  (s.modFilm fun f =>
    { f with
      position := m.reaches s, deepest := max f.deepest (m.reaches s),
      move := if m.remaining - 1 = 0 then none else some { m with remaining := m.remaining - 1 },
      timer := if m.remaining - 1 = 0 then none else some s.filmPeriod }).pulse (.filmStep m.forward)

theorem moveFilm_eq (m : FilmMove) (s : State) :
    moveFilm m s = if s.film.deepest < m.reaches s then judgeLow (filmMoved m s) else filmMoved m s := rfl

theorem moveFilm_only (m : FilmMove) (s : State) : moveFilm m s =
    { filmMoved m s with
      film := { (filmMoved m s).film with lowNoted := (moveFilm m s).film.lowNoted }
      attn := (moveFilm m s).attn } := by
  rw [moveFilm_eq]
  split
  · exact judgeLow_only _
  · rfl

/-- A step beyond the deepest point notes low film (R147). -/
theorem moveFilm_notes {m : FilmMove} {s : State} (loaded : s.film.loaded = true) (fresh : s.film.lowNoted = false)
    (beyond : s.film.deepest < m.reaches s) (low : s.film.length - m.reaches s < s.setting 0x0F * 1440) :
    (moveFilm m s).raised .filmLow = true ∧ (moveFilm m s).film.lowNoted = true := by
  have deepest : (filmMoved m s).film.deepest = m.reaches s := Nat.max_eq_right beyond.le
  have becomes : (filmMoved m s).filmLow = true := (filmLow_iff _).mpr ⟨loaded, by rw [deepest]; exact low⟩
  rw [moveFilm_eq, if_pos beyond, judgeLow_notes becomes fresh]
  exact ⟨raised_raise_self .filmLow _, rfl⟩

theorem noteRemaining_line {m : FilmMove} {l : LineWork} {s : State} (work : s.exposure.work = .line l) :
    noteRemaining m s = setStep l (.advance m.forward (m.remaining - 1)) s := by
  rw [noteRemaining, work]

theorem noteRemaining_other {m : FilmMove} {s : State} (other : s.exposure.work.isLine = false) :
    noteRemaining m s = s := by
  unfold noteRemaining
  split
  · next work => rw [work] at other; cases other
  · rfl

/-- The part after a step of the move, before what follows a last step. -/
def filmStepped (m : FilmMove) (s : State) : State := noteRemaining m (moveFilm m s.fresh)

theorem filmStepped_line {m : FilmMove} {l : LineWork} {s : State} (work : s.exposure.work = .line l) :
    filmStepped m s = setStep l (.advance m.forward (m.remaining - 1)) (moveFilm m s.fresh) := by
  refine noteRemaining_line ?_
  rw [moveFilm_only]
  exact work

theorem filmStepped_other {m : FilmMove} {s : State} (other : s.exposure.work.isLine = false) :
    filmStepped m s = moveFilm m s.fresh := by
  refine noteRemaining_other ?_
  rw [moveFilm_only]
  exact other

theorem noteRemaining_only (m : FilmMove) (s : State) :
    noteRemaining m s = { s with exposure := { s.exposure with work := (noteRemaining m s).exposure.work } } := by
  unfold noteRemaining
  split <;> rfl

theorem filmStepped_only (m : FilmMove) (s : State) : filmStepped m s =
    { s with
      film := { (filmMoved m s.fresh).film with lowNoted := (filmStepped m s).film.lowNoted }
      exposure := { s.exposure with work := (filmStepped m s).exposure.work }
      attn := (filmStepped m s).attn, pulses := [.filmStep m.forward] } := by
  have noted := noteRemaining_only m (moveFilm m s.fresh)
  have moved := moveFilm_only m s.fresh
  rw [← filmStepped] at noted
  generalize filmStepped m s = u at *
  generalize moveFilm m s.fresh = v at *
  rw [noted, moved]
  rfl

theorem filmStepped_notes {m : FilmMove} {s : State} (loaded : s.film.loaded = true) (fresh : s.film.lowNoted = false)
    (beyond : s.film.deepest < m.reaches s) (low : s.film.length - m.reaches s < s.setting 0x0F * 1440) :
    (filmStepped m s).raised .filmLow = true ∧ (filmStepped m s).film.lowNoted = true := by
  have noted := moveFilm_notes (s := s.fresh) loaded fresh beyond low
  rw [filmStepped, noteRemaining_only]
  exact noted

theorem exposureIdle_of_working {w : ExposureWork} {s : State} (work : s.exposure.work = w) (some_ : w ≠ .none) :
    s.exposureIdle = false := by
  simp [State.exposureIdle, work, some_]

/-- A step neither begins nor ends the work, and wakes no reaction. -/
theorem settled_filmStepped (m : FilmMove) (s : State) : (filmStepped m s).settled = s.settled := by
  have idle : (filmStepped m s).exposureIdle = s.exposureIdle := by
    cases line : s.exposure.work.isLine with
    | false =>
      rw [filmStepped_other line, moveFilm_only]
      rfl
    | true =>
      obtain ⟨l, work⟩ := isLine_iff.mp line
      rw [filmStepped_line work, exposureIdle_of_working work nofun]
      exact exposureIdle_of_working rfl nofun
  rw [filmStepped_only] at idle ⊢
  exact settled_of_fields (fun _ => rfl) rfl idle rfl rfl rfl rfl rfl

/-! ### The event (R138) -/

section Steps

variable {m : FilmMove} {s : State} (due : s.film.timer.isSome) (move : s.film.move = some m)
include due move

theorem exec_filmStep : exec .filmStep s =
    .next (react (if m.remaining ≤ 1 then filmMoveDone (filmStepped m s) else filmStepped m s)) := by
  have steps : stepFilm s.fresh =
      if m.remaining ≤ 1 then filmMoveDone (filmStepped m s) else filmStepped m s := by
    rw [stepFilm, State.fresh_film, move]
    rfl
  rw [← steps]
  exact (congrArg (eventReact · stepFilm s) due).trans (eventReact_true stepFilm s)

/-- A step that is not the last is followed by the next after the step period. -/
theorem filmStep_goesOn (more : 1 < m.remaining) : EventTo (exec .filmStep s) s (filmStepped m s) := by
  have notLast : ¬ m.remaining ≤ 1 := by omega
  refine eventTo_of_settled ?_ (settled_filmStepped m s)
  rw [exec_filmStep due move, if_neg notLast]

theorem filmStep_ends (last : m.remaining = 1) :
    exec .filmStep s = .next (react (filmMoveDone (filmStepped m s))) := by
  rw [exec_filmStep due move, if_pos last.le]

end Steps

theorem filmMoved_goesOn {m : FilmMove} (more : 1 < m.remaining) (s : State) : (filmMoved m s).film =
    { s.film with position := m.reaches s, deepest := max s.film.deepest (m.reaches s),
                  move := some { m with remaining := m.remaining - 1 }, timer := some s.filmPeriod } := by
  have left : m.remaining - 1 ≠ 0 := by omega
  simp only [filmMoved, State.pulse_film, State.modFilm_film, if_neg left]

theorem filmMoved_ends {m : FilmMove} (last : m.remaining = 1) (s : State) : (filmMoved m s).film =
    { s.film with position := m.reaches s, deepest := max s.film.deepest (m.reaches s), move := none,
                  timer := none } := by
  simp [filmMoved, last]

/-! ### What the last step leads to (R137, R148, R150) -/

theorem filmMoveDone_line {l : LineWork} {s : State} (work : s.exposure.work = .line l) :
    filmMoveDone s = nextGlyph l s := by rw [filmMoveDone, work]

theorem filmMoveDone_gap {target : Nat} {s : State} (work : s.exposure.work = .gap target) :
    filmMoveDone s = startCut (.cut target) s := by rw [filmMoveDone, work]

theorem filmMoveDone_advance {ch : ChannelId} {clamped : Bool} {s : State}
    (work : s.exposure.work = .advanceFilm ch clamped) :
    filmMoveDone s = endFreeMove ch (doneOr clamped) 0 s := by rw [filmMoveDone, work]

/-- The free move's request is posted, and the figures of a head assigned meanwhile were not deferred (R136, R150). -/
theorem endFreeMove_posts {ch : ChannelId} {r : Request} {s : State} (handed : s.handed ch r)
    (undeferred : s.exposure.figuresDeferred = false) (c : Completion) (n : Nat) :
    endFreeMove ch c n s = { s with
      channels := (s.posts ch r c (BitVec.ofNat 16 n) []).channels
      exposure := { s.exposure with work := .none, figuresDeferred := false, cutTimer := none }
      film := { s.film with move := none, timer := none } } := by
  rw [endFreeMove_eq, finish_handed handed]
  simp [undeferred]

/-- The decision does not depend on the step at which the line stood. -/
theorem glyphDecision_setStep (l : LineWork) (st : LineStep) (g : SetGlyph) (s : State) :
    glyphDecision { l with step := st } g s = glyphDecision l g s := rfl

theorem gap_goesOnToCut {m : FilmMove} {s : State} {target : Nat} (work : s.exposure.work = .gap target) :
    filmMoveDone (filmStepped m s) = startCut (.cut target) (filmStepped m s) ∧
    (filmStepped m s).cutterHome = s.cutterHome ∧ (filmStepped m s).cutTime = s.cutTime ∧
    (filmStepped m s).pulses = [.filmStep m.forward] := by
  have other : s.exposure.work.isLine = false := by rw [work]; rfl
  have work' : (filmStepped m s).exposure.work = .gap target := by
    rw [filmStepped_other other, moveFilm_only]; exact work
  rw [filmMoveDone_gap work', filmStepped_only]
  exact ⟨rfl, rfl, rfl, rfl⟩

section Ends

variable {m : FilmMove} {s : State} (last : m.remaining = 1)
include last

theorem filmStepped_ends : (filmStepped m s).film.position = m.reaches s ∧ (filmStepped m s).film.move = none := by
  have film := filmMoved_ends last s.fresh
  rw [filmStepped_only, film]
  exact ⟨rfl, rfl⟩

theorem advanceFilm_completes {ch : ChannelId} {clamped : Bool} {r : Request}
    (work : s.exposure.work = .advanceFilm ch clamped) (handed : s.handed ch r)
    (undeferred : s.exposure.figuresDeferred = false) :
    let t := filmMoveDone (filmStepped m s)
    t.exposure.work = .none ∧ t.film.move = none ∧ t.film.timer = none ∧ t.film.position = m.reaches s ∧
    t.film.galleyStart = s.film.galleyStart ∧
    t.channels = (s.posts ch r (if clamped then .doneClamped else .done) 0 []).channels := by
  have other : s.exposure.work.isLine = false := by rw [work]; rfl
  have film := filmMoved_ends last s.fresh
  have only := moveFilm_only m s.fresh
  intro t
  have reached : t = filmMoveDone (moveFilm m s.fresh) := by rw [← filmStepped_other other]
  generalize moveFilm m s.fresh = u at only reached
  have work' : u.exposure.work = .advanceFilm ch clamped := by rw [only]; exact work
  have handed' : u.handed ch r := (State.handed_congr (s := s) (by rw [only]; rfl)).2 handed
  have undeferred' : u.exposure.figuresDeferred = false := by rw [only]; exact undeferred
  rw [reached, filmMoveDone_advance work', endFreeMove_posts handed' undeferred', only, film]
  exact ⟨rfl, rfl, rfl, rfl, rfl, rfl⟩

theorem filmStepped_work {l : LineWork} (work : s.exposure.work = .line l) :
    (filmStepped m s).exposure.work = .line { l with step := .advance m.forward 0 } := by
  rw [filmStepped_line work, last]; rfl

/-- A line whose advance ends goes on to its next glyph. -/
theorem line_goesOn {l : LineWork} (work : s.exposure.work = .line l) :
    filmMoveDone (filmStepped m s) = nextGlyph { l with step := .advance m.forward 0 } (filmStepped m s) :=
  filmMoveDone_line (filmStepped_work last work)

/-- The advance of a line without a glyph to flash ends the line (R142). -/
theorem emptyLine_done {l : LineWork} (work : s.exposure.work = .line l) (empty : l.order = []) :
    let t := filmMoveDone (filmStepped m s)
    t.exposure.work = .none ∧ t.film.position = m.reaches s ∧ t.film.move = none := by
  have noGlyph : ({ l with step := .advance m.forward 0 } : LineWork).glyph = none := by simp [LineWork.glyph, empty]
  have done : filmMoveDone (filmStepped m s) = filmDone l.slot (setWork .none (filmStepped m s)) := by
    rw [line_goesOn last work, nextGlyph, noGlyph]; rfl
  obtain ⟨y, c, slots, order, only⟩ := (linesOnly_filmDone l.slot (setWork .none (filmStepped m s))).exists
  intro t
  rw [show t = _ from done, only]
  exact ⟨rfl, filmStepped_ends last⟩

end Ends

/-! ### The obligation -/

/-- A step that is not the last, field by field. -/
theorem filmStep_moves {s : State} {m : FilmMove} (due : s.film.timer.isSome) (move : s.film.move = some m)
    (more : 1 < m.remaining) :
    ∃ t, EventTo (exec .filmStep s) s t ∧
      t.film = { s.film with position := m.reaches s, deepest := max s.film.deepest (m.reaches s),
                             lowNoted := t.film.lowNoted, move := some { m with remaining := m.remaining - 1 },
                             timer := some s.filmPeriod } ∧
      t.pulses = [.filmStep m.forward] ∧ t.store = s.store ∧ t.galleys = s.galleys ∧ t.fonts = s.fonts ∧
      t.photo = s.photo ∧ t.exposure.hold = s.exposure.hold ∧
      (∀ l, s.exposure.work = .line l →
        t.exposure.work = .line { l with step := .advance m.forward (m.remaining - 1) }) ∧
      (s.exposure.work.isLine = false → t.exposure = s.exposure) ∧
      (s.film.loaded = true → s.film.lowNoted = false → s.film.deepest < m.reaches s →
        s.film.length - m.reaches s < s.setting 0x0F * 1440 → t.raised .filmLow = true ∧ t.film.lowNoted = true) := by
  have only := filmStepped_only m s
  rw [filmMoved_goesOn more] at only
  refine ⟨filmStepped m s, filmStep_goesOn due move more, congrArg State.film only, congrArg State.pulses only,
    (congrArg State.store only :), (congrArg State.galleys only :), (congrArg State.fonts only :),
    (congrArg State.photo only :), (congrArg (·.exposure.hold) only :), fun l work => ?_, fun other => ?_,
    filmStepped_notes⟩
  · rw [filmStepped_line work]; rfl
  · rw [filmStepped_other other, moveFilm_only]; rfl

/-- Settles O41: the step, and the end of each move by the work that it belongs to. -/
theorem filmStepMovesOneStep : Obligations.FilmStepMovesOneStep := by
  intro s m due move pos
  refine ⟨filmStep_moves due move, fun last => ⟨fun ch clamped r work handed undeferred => ?_,
    fun target work home => ?_, fun target work away => ?_, fun l work empty => ?_⟩, fun last l g work glyph => ?_⟩
  · exact ⟨_, filmStep_ends due move last, advanceFilm_completes last work handed undeferred⟩
  · obtain ⟨goesOn, home', time, pulses⟩ := gap_goesOnToCut work
    obtain ⟨position, still⟩ := filmStepped_ends last (s := s)
    refine ⟨_, filmStep_ends due move last, ?_⟩
    rw [goesOn, startCut_home (home'.trans home)]
    exact ⟨rfl, congrArg some time, still, position, congrArg (· ++ [Pulse.cut]) pulses⟩
  · obtain ⟨goesOn, home', time, pulses⟩ := gap_goesOnToCut work
    obtain ⟨position, still⟩ := filmStepped_ends last (s := s)
    refine ⟨_, filmStep_ends due move last, ?_⟩
    rw [goesOn, startCut_away (home'.trans away)]
    exact ⟨rfl, congrArg some time, still, position, pulses⟩
  · exact ⟨_, filmStep_ends due move last, emptyLine_done last work empty⟩
  · have glyph' : ({ l with step := .advance m.forward 0 } : LineWork).glyph = some g := glyph
    have decides : filmMoveDone (filmStepped m s) = glyphDecision l g (filmStepped m s) := by
      rw [line_goesOn last work, nextGlyph_decides glyph', glyphDecision_setStep]
    have only := filmStepped_only m s
    rw [filmMoved_ends last] at only
    refine ⟨filmStepped m s, decides ▸ filmStep_ends due move last, ?_, congrArg State.film only, ?_⟩
    · generalize filmStepped m s = u at only
      rw [only]
    · rw [← filmStepped_work last work]; exact congrArg State.exposure only

end Sys2Proof.Machine
end

section
/-! PROOF. The cut (O42): what CUTTER_HOME and the cut timeout report (R148, R151). -/

namespace Sys2Proof.Machine

/-! ### CUTTER_HOME (R148, R151) -/

/-- CUTTER_HOME is brought to a level. -/
def cutterSet (level : Bool) (s : State) : State := s.fresh.setConditioned (sensorBit .cutterHome) level

theorem cutterSet_only (level : Bool) (s : State) : cutterSet level s =
    { s.fresh with sensors := { s.sensors with inputs := (cutterSet level s).sensors.inputs } } := rfl

theorem cutterHome_cutterSet (level : Bool) (s : State) : (cutterSet level s).cutterHome = level :=
  (conditioned_setConditioned 10 10 level s.fresh (by omega)).trans (if_pos rfl)

theorem exec_cutterHomeFall (s : State) : exec .cutterHomeFall s = .next (cutterFell (cutterSet false s)) := rfl

theorem exec_cutComplete (s : State) : exec .cutComplete s = .next (react (cutterRose (cutterSet true s))) := rfl

section Cut

variable {s : State} {target : Nat}

theorem cutterFell_cut (work : s.exposure.work = .cut target .awaitFall) (hold : s.exposure.hold = none) :
    cutterFell s = setWork (.cut target .awaitRise) s := by
  rw [cutterFell, work, hold]

/-- A fall that no cut waits for is only the line's level. -/
theorem cutterFell_unheard (noCut : s.exposure.work.isCut = false) (noFree : ∀ ch p, s.exposure.work ≠ .cutFilm ch p) :
    cutterFell s = s := by
  unfold cutterFell
  split
  · next work _ => rw [work] at noCut; cases noCut
  · next work => exact absurd work (noFree _ _)
  · rfl

theorem cutterRose_cut (work : s.exposure.work = .cut target .awaitRise) (hold : s.exposure.hold = none) :
    cutterRose s =
      ((setGalleyStart s).modExposure fun e => { e with work := .none, cutTimer := none }).modStore
        fun t => { t with filmEndDone := true } := by
  rw [cutterRose, work, hold]

theorem cutterRose_cutFilm {ch : ChannelId} (work : s.exposure.work = .cutFilm ch .awaitRise) :
    cutterRose s = endFreeMove ch .done 0 (setGalleyStart s) := by
  rw [cutterRose, work]

end Cut

/-! ### The timeout (R148, R151) -/

/-- The cut timer has run out. -/
def cutTimeUp (s : State) : State := s.modExposure fun e => { e with cutTimer := none }

section Timeout

variable {s : State}

theorem exec_cutTimeout (due : s.exposure.cutTimer.isSome) :
    exec .cutTimeout s = .next (react (cutTimedOut s.fresh)) :=
  (congrArg (eventReact · cutTimedOut s) due).trans (eventReact_true cutTimedOut s)

theorem cutTimedOut_cut {target : Nat} {p : CutPhase} (work : s.exposure.work = .cut target p) :
    cutTimedOut s = takeHold .cutJam (cutTimeUp s) := by
  have work' : (cutTimeUp s).exposure.work = .cut target p := work
  rw [cutTimedOut, ← cutTimeUp, work']

theorem cutTimedOut_cutFilm {ch : ChannelId} {p : CutPhase} (work : s.exposure.work = .cutFilm ch p) :
    cutTimedOut s = endFreeMove ch .wrongState 1 (cutTimeUp s) := by
  have work' : (cutTimeUp s).exposure.work = .cutFilm ch p := work
  rw [cutTimedOut, ← cutTimeUp, work']

/-- Exposure Control is not idle before a hold of its work and is not after it, so that no reaction wakes. -/
theorem settled_takeHold_cutTimeUp {r : HoldReason} {w : ExposureWork} (work : s.exposure.work = w)
    (some_ : w ≠ .none) : (takeHold r (cutTimeUp s)).settled = s.settled := by
  have busy : (takeHold r (cutTimeUp s)).exposureIdle = s.exposureIdle := by
    rw [exposureIdle_of_working work some_]
    exact exposureIdle_of_working ((takeHold_work r _).trans work) some_
  obtain ⟨e, f, a, q, d, -, only⟩ := takeHold_only r (cutTimeUp s)
  rw [only] at busy ⊢
  exact settled_of_fields (fun _ => rfl) rfl busy rfl rfl rfl rfl rfl

end Timeout

/-! ### The obligation -/

/-- Settles O42: what each report means for the cut in hand. -/
theorem cutEndsAtTheCutterOrTimesOut : Obligations.CutEndsAtTheCutterOrTimesOut := by
  refine ⟨fun s target work hold => ?_, fun s noCut noFree => ?_, fun s target work hold => ?_,
    fun s ch r work handed undeferred => ?_, fun s target p due work hold => ?_,
    fun s ch p r due work handed undeferred => ?_⟩
  · refine ⟨_, exec_cutterHomeFall s, ?_, ?_⟩
    all_goals rw [cutterFell_cut (s := cutterSet false s) work hold]
    · rfl
    · exact cutterHome_cutterSet false s
  · refine ⟨_, exec_cutterHomeFall s, ?_, ?_⟩
    all_goals rw [cutterFell_unheard (s := cutterSet false s) noCut noFree]
    · exact cutterSet_only false s
    · exact cutterHome_cutterSet false s
  · refine ⟨_, exec_cutComplete s, ?_, ?_⟩
    all_goals rw [cutterRose_cut (s := cutterSet true s) work hold]
    · rfl
    · exact cutterHome_cutterSet true s
  · refine ⟨_, exec_cutComplete s, ?_⟩
    rw [cutterRose_cutFilm (s := cutterSet true s) work,
      endFreeMove_posts (s := setGalleyStart (cutterSet true s)) handed undeferred]
    exact ⟨rfl, rfl, rfl, rfl, rfl⟩
  · have settled : (takeHold .cutJam (cutTimeUp s.fresh)).settled = s.settled :=
      (settled_takeHold_cutTimeUp (s := s.fresh) work nofun).trans (settled_fresh s)
    have held := takeHold_of_none (r := .cutJam) (s := cutTimeUp s.fresh) hold
    refine ⟨takeHold .cutJam (cutTimeUp s.fresh), eventTo_of_settled ?_ settled, ?_⟩
    · rw [exec_cutTimeout due, cutTimedOut_cut (s := s.fresh) work]
    · rw [held]; exact ⟨rfl, rfl, raised_raise_self .expHold _, rfl⟩
  · refine ⟨_, exec_cutTimeout due, ?_⟩
    rw [cutTimedOut_cutFilm (s := s.fresh) work, endFreeMove_posts (s := cutTimeUp s.fresh) handed undeferred]
    exact ⟨rfl, rfl, rfl⟩

end Sys2Proof.Machine
end

section
/-! PROOF. The requests to Film Transport: LOAD CASSETTE (O43; R149, R147), and ADVANCE FILM and CUT FILM (O44; R150,
R151). -/

namespace Sys2Proof.Machine

/-! ### Film that is free (R135) -/

theorem exposureIdle_iff (s : State) : s.exposureIdle = true ↔ s.exposure.state = .idle := by
  unfold State.exposureIdle Exposure.state
  cases hold : s.exposure.hold <;> cases work : s.exposure.work <;> simp

theorem cassetteAllowed_iff (s : State) : s.cassetteAllowed = true ↔
    (s.store.filmHolder = none ∧ s.exposure.state = .idle) ∨ s.exposure.hold = some .filmOut ∨
      s.exposure.hold = some .cassetteOut := by
  simp [State.cassetteAllowed, exposureIdle_iff, or_assoc]

/-- Check 2 of ADVANCE FILM, with which check 2 of CUT FILM begins (R150, R151). -/
theorem filmTaken_iff (s : State) : (s.store.filmHolder.isSome || !s.exposureIdle) = true ↔
    ¬ (s.store.filmHolder = none ∧ s.exposure.state = .idle) := by
  rw [← exposureIdle_iff]
  cases s.store.filmHolder <;> simp

theorem doneOr_decide (clamped : Prop) [Decidable clamped] :
    doneOr (decide clamped) = if clamped then .doneClamped else .done := by
  simp [doneOr]

/-! ### A new cassette (R149, R147) -/

/-- The work in hand with a new cassette: the target of a gap is counted from its start. -/
def State.workAnew (s : State) : ExposureWork :=
  match s.exposure.work with
  | .gap _ => .gap s.gapSteps
  | w => w

theorem workAnew_gap {target : Nat} {s : State} (work : s.exposure.work = .gap target) :
    s.workAnew = .gap (s.setting 0x0E * 10) := by
  rw [State.workAnew, work]; rfl

theorem workAnew_other {s : State} (noGap : ∀ target, s.exposure.work ≠ .gap target) :
    s.workAnew = s.exposure.work := by
  unfold State.workAnew
  split
  · next target work => exact absurd work (noGap target)
  · rfl

/-- The part with a new cassette, before low film is judged. -/
def cassetteAnew (inches : Nat) (s : State) : State :=
  { s with
    film := { s.film with loaded := true, length := inches * 1440, position := 0, deepest := 0, galleyStart := 0 }
    exposure := { s.exposure with work := s.workAnew } }

theorem loadCassette_judges (inches : Nat) (s : State) : loadCassette inches s =
    if (cassetteAnew inches s).filmLow then judgeLow (cassetteAnew inches s)
    else (cassetteAnew inches s).modFilm fun f => { f with lowNoted := false } := by
  obtain ⟨_, _, _, _, _, _, ⟨work, _⟩, _⟩ := s
  cases work with
  | _ => rfl

/-- A new cassette is low from the start where it is shorter than the threshold; FILM_LOW is raised if film was not low
before (R147, log 29). -/
theorem loadCassette_eq (inches : Nat) (s : State) : loadCassette inches s =
    { s with
      film := { s.film with loaded := true, length := inches * 1440, position := 0, galleyStart := 0, deepest := 0,
                            lowNoted := decide (inches < s.setting 0x0F) }
      exposure := { s.exposure with work := s.workAnew }
      attn := if inches < s.setting 0x0F ∧ s.film.lowNoted = false then s.attn ||| Attn.filmLow.mask else s.attn } := by
  have low : (cassetteAnew inches s).filmLow = true ↔ inches < s.setting 0x0F := by
    rw [filmLow_iff]
    exact ⟨fun h => Nat.lt_of_mul_lt_mul_right h.2, fun h => ⟨rfl, Nat.mul_lt_mul_of_pos_right h (by omega)⟩⟩
  rw [loadCassette_judges]
  by_cases short : inches < s.setting 0x0F
  · cases noted : s.film.lowNoted with
    | false =>
      rw [if_pos (low.mpr short), judgeLow_notes (low.mpr short) noted]
      simp [cassetteAnew, State.modFilm, State.raise, short]
    | true =>
      rw [if_pos (low.mpr short)]
      simp [judgeLow, cassetteAnew, noted, short]
  · rw [if_neg (mt low.mp short)]
    simp [cassetteAnew, State.modFilm, short]

theorem workAnew_isNone (s : State) : (s.workAnew == .none) = (s.exposure.work == .none) := by
  unfold State.workAnew
  split
  · next work => rw [work]; rfl
  · rfl

theorem settled_loadCassette (inches : Nat) (s : State) : (loadCassette inches s).settled = s.settled := by
  rw [loadCassette_eq]
  exact settled_of_fields (fun _ => rfl) rfl (congrArg (· && _) (workAnew_isNone s)) rfl rfl rfl rfl rfl

/-! ### LOAD CASSETTE (R149) -/

section LoadCassette

variable {s : State} {ch : ChannelId} {b : Block} (ready : s.readyFor ch) (fits : b.payload.length ≤ 1024)
include ready fits

theorem loadCassette_refusedLength (other : b.payload.length ≠ 2) :
    EventTo (exec (.loadCassette ch b) s) s (s.fresh.refuses ch { code := 0x40, block := b } .badArgument) :=
  request_refused ready fits fun _ _ => if_pos other

theorem loadCassette_refusedState (length : b.payload.length = 2) (absent : s.cassettePresent = false) :
    EventTo (exec (.loadCassette ch b) s) s (s.fresh.refuses ch { code := 0x40, block := b } .wrongState) := by
  refine request_refused ready fits fun t ht => ?_
  have absent' : t.cassettePresent = false := by rw [ht]; exact absent
  exact (show ownerTakes ch _ t = takeLoadCassette ch b t from rfl).trans (by simp [takeLoadCassette, length, absent'])

theorem loadCassette_refusedBusy (length : b.payload.length = 2) (present : s.cassettePresent = true)
    (barred : ¬ s.cassetteAllowed = true) :
    EventTo (exec (.loadCassette ch b) s) s (s.fresh.refuses ch { code := 0x40, block := b } .busy) := by
  refine request_refused ready fits fun t ht => ?_
  have present' : t.cassettePresent = true := by rw [ht]; exact present
  have barred' : ¬ t.cassetteAllowed = true := by rw [ht]; exact barred
  exact (show ownerTakes ch _ t = takeLoadCassette ch b t from rfl).trans
    (by simp [takeLoadCassette, length, present', barred'])

theorem loadCassette_completes (length : b.payload.length = 2) (present : s.cassettePresent = true)
    (allowed : s.cassetteAllowed = true) {want n : Nat} (asked : want = u16 b.payload 0)
    (clamped : n = max 1 (min 1200 want)) :
    EventTo (exec (.loadCassette ch b) s) s ((loadCassette n s.fresh).posts ch { code := 0x40, block := b }
      (if n = want then .done else .doneClamped) (BitVec.ofNat 16 n) []) := by
  subst asked clamped
  refine request_completed_settled (loadCassette _) ready fits (fun t => ?_) (fun t => ?_) (settled_loadCassette _)
    fun t ht => ?_
  · rw [loadCassette_eq]
  · rw [loadCassette_eq, loadCassette_eq]; rfl
  · have present' : t.cassettePresent = true := by rw [ht]; exact present
    have allowed' : t.cassetteAllowed = true := by rw [ht]; exact allowed
    refine (show ownerTakes ch _ t = takeLoadCassette ch b t from rfl).trans ?_
    simp [takeLoadCassette, length, present', allowed', finish, clampNat, doneOr, ite_not]

end LoadCassette

/-- Settles O43: the refusals in their order, and the new cassette by `loadCassette_eq`. -/
theorem loadCassetteRecordsANewCassette : Obligations.LoadCassetteRecordsANewCassette := by
  intro s ch b ready fits r want n may
  refine ⟨loadCassette_refusedLength ready fits, loadCassette_refusedState ready fits, fun length present barred => ?_,
    fun length present allowed noGap => ?_, fun length present allowed target work => ?_⟩
  · exact loadCassette_refusedBusy ready fits length present (mt (cassetteAllowed_iff s).mp barred)
  · have completes := loadCassette_completes ready fits length present ((cassetteAllowed_iff s).mpr allowed)
      (want := want) (n := n) rfl rfl
    have work : s.fresh.workAnew = s.exposure.work := workAnew_other (s := s.fresh) noGap
    refine ⟨_, completes, ?_⟩
    rw [loadCassette_eq, work]
    refine ⟨rfl, rfl, rfl, rfl, rfl, rfl, rfl, fun fresh low => ?_, fun enough => ?_⟩
    · have raises : n < s.fresh.setting 0x0F ∧ s.fresh.film.lowNoted = false := ⟨low, fresh⟩
      rw [if_pos raises]
      exact raised_raise_self .filmLow s
    · exact if_neg fun low => Nat.not_lt.mpr enough low.1
  · have completes := loadCassette_completes ready fits length present ((cassetteAllowed_iff s).mpr allowed)
      (want := want) (n := n) rfl rfl
    have anew : s.fresh.workAnew = .gap (s.setting 0x0E * 10) := workAnew_gap (s := s.fresh) work
    refine ⟨_, completes, ?_⟩
    rw [loadCassette_eq, anew]
    exact ⟨rfl, rfl, rfl, rfl, rfl⟩

/-! ### ADVANCE FILM (R150) -/

/-- The steps of an ADVANCE FILM to `want`, at most to the end of the cassette. -/
def State.stepsTo (want : Nat) (s : State) : Nat := min want s.film.length - s.film.position

/-- An ADVANCE FILM past its checks. -/
theorem takeAdvanceFilm_moves {ch : ChannelId} {b : Block} {t : State} (length : b.payload.length = 2)
    (loaded : t.film.loaded = true) (free : (t.store.filmHolder.isSome || !t.exposureIdle) = false)
    {want : Nat} (asked : want = t.film.position + u16 b.payload 0 * 10) :
    takeAdvanceFilm ch b t =
      if t.stepsTo want = 0 then finish ch (doneOr (decide (t.film.length < want))) 0 t
      else startFilm true (t.stepsTo want) (setWork (.advanceFilm ch (decide (t.film.length < want))) t) := by
  subst asked
  simp only [takeAdvanceFilm, length, loaded, free]
  rfl

section AdvanceFilm

variable {s : State} {ch : ChannelId} {b : Block} (ready : s.readyFor ch) (fits : b.payload.length ≤ 1024)
include ready fits

theorem advanceFilm_refusedLength (other : b.payload.length ≠ 2) :
    EventTo (exec (.advanceFilm ch b) s) s (s.fresh.refuses ch { code := 0x42, block := b } .badArgument) :=
  request_refused ready fits fun _ _ => if_pos other

theorem advanceFilm_refusedState (length : b.payload.length = 2) (unloaded : s.film.loaded = false) :
    EventTo (exec (.advanceFilm ch b) s) s (s.fresh.refuses ch { code := 0x42, block := b } .wrongState) := by
  refine request_refused ready fits fun t ht => ?_
  have unloaded' : t.film.loaded = false := by rw [ht]; exact unloaded
  exact (show ownerTakes ch _ t = takeAdvanceFilm ch b t from rfl).trans
    (by simp [takeAdvanceFilm, length, unloaded'])

theorem advanceFilm_refusedBusy (length : b.payload.length = 2) (loaded : s.film.loaded = true)
    (taken : (s.store.filmHolder.isSome || !s.exposureIdle) = true) :
    EventTo (exec (.advanceFilm ch b) s) s (s.fresh.refuses ch { code := 0x42, block := b } .busy) := by
  refine request_refused ready fits fun t ht => ?_
  have loaded' : t.film.loaded = true := by rw [ht]; exact loaded
  have taken' : (t.store.filmHolder.isSome || !t.exposureIdle) = true := by rw [ht]; exact taken
  exact (show ownerTakes ch _ t = takeAdvanceFilm ch b t from rfl).trans
    (by simp only [takeAdvanceFilm, length, loaded', taken']; rfl)

theorem advanceFilm_atTarget (length : b.payload.length = 2) (loaded : s.film.loaded = true)
    (free : (s.store.filmHolder.isSome || !s.exposureIdle) = false) {want : Nat}
    (asked : want = s.film.position + u16 b.payload 0 * 10) (there : s.stepsTo want = 0) :
    EventTo (exec (.advanceFilm ch b) s) s (s.fresh.posts ch { code := 0x42, block := b }
      (if s.film.length < want then .doneClamped else .done) 0 []) := by
  refine request_completed_settled id ready fits (fun _ => rfl) (fun _ => rfl) (fun _ => rfl) fun t ht => ?_
  subst ht
  have moves := takeAdvanceFilm_moves (ch := ch) (t := s.fresh.waits ch { code := 0x42, block := b }) length loaded free
    asked
  exact (moves.trans (if_pos there)).trans (congrArg (complete ch · 0 [] _) (doneOr_decide _))

theorem advanceFilm_begins (length : b.payload.length = 2) (loaded : s.film.loaded = true)
    (free : (s.store.filmHolder.isSome || !s.exposureIdle) = false) {want : Nat}
    (asked : want = s.film.position + u16 b.payload 0 * 10) (ahead : s.stepsTo want ≠ 0) :
    exec (.advanceFilm ch b) s = .next (react
      ((startFilm true (s.stepsTo want) (setWork (.advanceFilm ch (decide (s.film.length < want))) s.fresh)).waits ch
        { code := 0x42, block := b })) := by
  refine (requestEvent_ready ready _ _ fits).trans (congrArg (fun t : State => (.next (react t) : Answer)) ?_)
  have moves := takeAdvanceFilm_moves (ch := ch) (t := s.fresh.waits ch { code := 0x42, block := b }) length loaded free
    asked
  exact moves.trans (if_neg ahead)

end AdvanceFilm

/-! ### CUT FILM (R151) -/

section CutFilm

variable {s : State} {ch : ChannelId} {b : Block} (ready : s.readyFor ch) (fits : b.payload.length ≤ 1024)
include ready fits

theorem cutFilm_refusedState (unloaded : s.film.loaded = false) :
    EventTo (exec (.cutFilm ch b) s) s (s.fresh.refuses ch { code := 0x43, block := b } .wrongState) := by
  refine request_refused ready fits fun t ht => ?_
  have unloaded' : t.film.loaded = false := by rw [ht]; exact unloaded
  exact (show ownerTakes ch _ t = takeCutFilm ch t from rfl).trans (by simp [takeCutFilm, unloaded'])

theorem cutFilm_refusedBusy (loaded : s.film.loaded = true)
    (taken : (s.store.filmHolder.isSome || !s.exposureIdle || !s.cutterHome) = true) :
    EventTo (exec (.cutFilm ch b) s) s (s.fresh.refuses ch { code := 0x43, block := b } .busy) := by
  refine request_refused ready fits fun t ht => ?_
  have loaded' : t.film.loaded = true := by rw [ht]; exact loaded
  have taken' : (t.store.filmHolder.isSome || !t.exposureIdle || !t.cutterHome) = true := by rw [ht]; exact taken
  exact (show ownerTakes ch _ t = takeCutFilm ch t from rfl).trans (by simp only [takeCutFilm, loaded', taken']; rfl)

theorem cutFilm_begins (loaded : s.film.loaded = true)
    (free : (s.store.filmHolder.isSome || !s.exposureIdle) = false) (home : s.cutterHome = true) :
    exec (.cutFilm ch b) s = .next (react
      (((s.fresh.modExposure fun e => { e with work := .cutFilm ch .awaitFall, cutTimer := some s.cutTime }).pulse
        .cut).waits ch { code := 0x43, block := b })) := by
  refine (requestEvent_ready ready _ _ fits).trans (congrArg (fun t : State => (.next (react t) : Answer)) ?_)
  set t := s.fresh.waits ch { code := 0x43, block := b }
  have loaded' : t.film.loaded = true := loaded
  have free' : (t.store.filmHolder.isSome || !t.exposureIdle) = false := free
  have home' : t.cutterHome = true := home
  have takes : ownerTakes ch { code := 0x43, block := b } t = startCut (.cutFilm ch) t := by
    refine (show ownerTakes ch _ t = takeCutFilm ch t from rfl).trans ?_
    simp only [takeCutFilm, loaded', free', home']
    rfl
  rw [takes, startCut_home home']
  rfl

end CutFilm

/-- Settles O44: the checks of each request, and the move that it begins. -/
theorem freeFilmMovesBegin : Obligations.FreeFilmMovesBegin := by
  intro s ch b ready fits ra rc free want n
  have notTaken : free → (s.store.filmHolder.isSome || !s.exposureIdle) = false := fun unheld =>
    Bool.eq_false_iff.mpr fun taken => (filmTaken_iff s).mp taken unheld
  refine ⟨advanceFilm_refusedLength ready fits, advanceFilm_refusedState ready fits, cutFilm_refusedState ready fits,
    fun length loaded taken => ?_, fun loaded taken => ?_, fun length loaded unheld there => ?_,
    fun length loaded unheld ahead => ?_, fun loaded unheld home => ?_⟩
  · exact advanceFilm_refusedBusy ready fits length loaded ((filmTaken_iff s).mpr taken)
  · refine cutFilm_refusedBusy ready fits loaded ?_
    by_cases unheld : free
    · have away : s.cutterHome = false := Bool.eq_false_iff.mpr fun home => taken ⟨unheld, home⟩
      rw [away]; exact Bool.or_true _
    · rw [(filmTaken_iff s).mpr unheld]; rfl
  · exact advanceFilm_atTarget ready fits length loaded (notTaken unheld) (want := want) rfl there
  · exact advanceFilm_begins ready fits length loaded (notTaken unheld) (want := want) rfl ahead.ne'
  · exact cutFilm_begins ready fits loaded (notTaken unheld) home

end Sys2Proof.Machine
end

section
/-! PROOF. LOAD PROOF CELLS (O57): its refusals, and the cells that it replaces (R155). -/

namespace Sys2Proof.Machine

theorem vget_ofFn {α : Type} {n : Nat} (f : Fin n → α) (i : Fin n) : vget (Vector.ofFn f) i = f i := by simp [vget]

/-! ### The cells replaced -/

theorem replaceCells_otherSet {set k : Fin 4} (other : k ≠ set) (first : Nat) (cells : List Cell) (s : State) :
    vget (replaceCells set first cells s).proof.cells k = vget s.proof.cells k :=
  vget_vset_ne _ _ _ _ other.symm

/-- In the set that is loaded, a code from `first` on has the cell at its place in the list, where there is one. -/
theorem replaceCells_sameSet (set : Fin 4) (first : Nat) (cells : List Cell) (s : State) (code : Fin 96) :
    vget (vget (replaceCells set first cells s).proof.cells set) code =
      if first ≤ code.val then cells.getD (code.val - first) (vget (vget s.proof.cells set) code)
      else vget (vget s.proof.cells set) code := by
  rw [replaceCells, State.modProof_proof, vget_vset_self, vget_ofFn]

theorem replaceCells_inRun {set : Fin 4} {first i : Nat} {cells : List Cell} {c : Cell} {s : State} {code : Fin 96}
    (at_i : code.val = first + i) (given : cells[i]? = some c) :
    vget (vget (replaceCells set first cells s).proof.cells set) code = c := by
  rw [replaceCells_sameSet, if_pos (by omega), at_i, Nat.add_sub_cancel_left, List.getD_eq_getElem?_getD, given]
  rfl

theorem replaceCells_outOfRun {set : Fin 4} {first : Nat} {cells : List Cell} {s : State} {code : Fin 96}
    (out : code.val < first ∨ first + cells.length ≤ code.val) :
    vget (vget (replaceCells set first cells s).proof.cells set) code = vget (vget s.proof.cells set) code := by
  rw [replaceCells_sameSet]
  split
  · exact List.getD_eq_default _ _ (by omega)
  · rfl

/-- The cells alone are replaced. -/
theorem replaceCells_eq (set : Fin 4) (first : Nat) (cells : List Cell) (s : State) : replaceCells set first cells s =
    s.modProof fun p => { p with cells := (replaceCells set first cells s).proof.cells } := by
  simp only [replaceCells, State.modProof]

theorem replaceCells_channels (set : Fin 4) (first : Nat) (cells : List Cell) (s : State) :
    (replaceCells set first cells s).channels = s.channels := rfl

theorem replaceCells_waits (set : Fin 4) (first : Nat) (cells : List Cell) (ch : ChannelId) (r : Request) (s : State) :
    replaceCells set first cells (s.waits ch r) = (replaceCells set first cells s).waits ch r := rfl

theorem settled_replaceCells (set : Fin 4) (first : Nat) (cells : List Cell) (s : State) :
    (replaceCells set first cells s).settled = s.settled := settled_modProof s _ rfl rfl

/-! ### The request (R155) -/

theorem takeLoadCells_refuses {b : Block} (bad : 4 ≤ b.target.toNat ∨ parseCells b.payload = none) (ch : ChannelId)
    (s : State) : takeLoadCells ch b s = refuse ch .badArgument s := by
  unfold takeLoadCells
  split
  · next inRange =>
    rw [bad.resolve_left (by omega)]
  · rfl

theorem takeLoadCells_replaces {b : Block} {set : Fin 4} {first : Nat} {cells : List (Cell × Bool)}
    (target : b.target.toNat = set.val) (parsed : parseCells b.payload = some (first, cells)) (ch : ChannelId)
    (s : State) : takeLoadCells ch b s =
      finish ch (doneOr (cells.any (·.2))) cells.length (replaceCells set first (cells.map Prod.fst) s) := by
  have set_eq : (⟨b.target.toNat, target ▸ set.isLt⟩ : Fin 4) = set := Fin.ext target
  rw [takeLoadCells, dif_pos (target ▸ set.isLt), parsed, set_eq]

section LoadProofCells

variable {s : State} {ch : ChannelId} {b : Block} (ready : s.readyFor ch) (fits : b.payload.length ≤ 1024)
include ready fits

theorem loadProofCells_refused (bad : 4 ≤ b.target.toNat ∨ parseCells b.payload = none) :
    EventTo (exec (.loadProofCells ch b) s) s (s.fresh.refuses ch { code := 0x60, block := b } .badArgument) :=
  request_refused ready fits fun t _ => takeLoadCells_refuses bad ch t

theorem loadProofCells_completes {set : Fin 4} {first : Nat} {cells : List (Cell × Bool)}
    (target : b.target.toNat = set.val) (parsed : parseCells b.payload = some (first, cells)) :
    EventTo (exec (.loadProofCells ch b) s) s ((replaceCells set first (cells.map Prod.fst) s.fresh).posts ch
      { code := 0x60, block := b } (if cells.any (·.2) then .doneClamped else .done)
      (BitVec.ofNat 16 cells.length) []) :=
  request_completed_settled (replaceCells set first (cells.map Prod.fst)) ready fits
    (replaceCells_channels set first _) (replaceCells_waits set first _ ch _) (settled_replaceCells set first _)
    fun t _ => (show ownerTakes ch _ t = takeLoadCells ch b t from rfl).trans
      (takeLoadCells_replaces target parsed ch t)

end LoadProofCells

/-- Settles O57: the refusals of the taking, and the cells of the set by their codes. -/
theorem loadProofCellsReplacesARun : Obligations.LoadProofCellsReplacesARun := by
  intro s ch b ready fits r
  refine ⟨loadProofCells_refused ready fits, fun set first cells target parsed =>
    ⟨_, loadProofCells_completes ready fits target parsed,
      congrArg (State.posts ch r _ _ []) (replaceCells_eq set first _ s.fresh), fun k other => ?_, fun code => ⟨?_, ?_⟩⟩⟩
  · rw [State.posts_proof]
    exact replaceCells_otherSet other first _ s.fresh
  · intro i c given at_i
    rw [State.posts_proof]
    exact replaceCells_inRun at_i (by rw [List.getElem?_map, given]; rfl)
  · intro out
    rw [State.posts_proof]
    exact replaceCells_outOfRun (by rwa [List.length_map])

end Sys2Proof.Machine
end

section
/-! PROOF. The bands (O58): the text field bit by bit (R154, R156), the cell of a glyph and the flag field (R157). -/

namespace Sys2Proof.Machine

/-! ### Dots and deposits (R154, R156) -/

/-- The number with the low `n` bits set. -/
theorem getLsbD_ofNat_two_pow_sub_one (w n i : Nat) :
    (BitVec.ofNat w (2 ^ n - 1)).getLsbD i = (decide (i < w) && decide (i < n)) := by
  rw [BitVec.getLsbD_ofNat, Nat.testBit_two_pow_sub_one]

/-- A row deposits the bits of the cell's width. -/
theorem getLsbD_dots (c : Cell) (r : Fin 12) (d : Nat) :
    (c.dots r).getLsbD d = (decide (d < c.width) && (vget c.rows r).getLsbD d) := by
  rw [Cell.dots, BitVec.getLsbD_and, getLsbD_ofNat_two_pow_sub_one]
  by_cases inRow : d < 16
  · simp [inRow, Bool.and_comm]
  · simp [BitVec.getLsbD_of_ge _ d (Nat.le_of_not_lt inRow)]

theorem getLsbD_textField (col : Nat) : textField.getLsbD col = decide (col < 1200) := by
  rw [textField, getLsbD_ofNat_two_pow_sub_one, ← Bool.decide_and, decide_eq_decide]
  omega

/-- A row placed at a column of a wider one. -/
theorem getLsbD_setWidth_shiftLeft {v : Nat} (w : Nat) (x : BitVec v) (n i : Nat) :
    (x.setWidth w <<< n).getLsbD i = (decide (i < w) && (decide (n ≤ i) && x.getLsbD (i - n))) := by
  rw [BitVec.getLsbD_shiftLeft, BitVec.getLsbD_setWidth]
  by_cases inside : i < w
  · have shifted : i - n < w := by omega
    by_cases before : i < n
    · simp [before, Nat.not_le.mpr before]
    · simp [inside, shifted, before, Nat.le_of_not_lt before]
  · simp [inside]

/-- A deposit has the dots of its row from its column on, within the text field. -/
theorem getLsbD_deposit (c : Cell) (column : Nat) (r : Fin 12) (col : Nat) :
    (deposit c column r).getLsbD col =
      (decide (col < 1200) && (decide (column ≤ col) && (c.dots r).getLsbD (col - column))) := by
  rw [deposit, BitVec.getLsbD_and, getLsbD_textField, getLsbD_setWidth_shiftLeft]
  by_cases inField : col < 1200
  · have inBand : col < 1248 := by omega
    simp [inField, inBand]
  · simp [inField]

/-- An OR of many has the bits of each. -/
theorem getLsbD_foldl_or {α : Type} {w : Nat} (f : α → BitVec w) (l : List α) (acc : BitVec w) (i : Nat) :
    (l.foldl (fun acc a => acc ||| f a) acc).getLsbD i = (acc.getLsbD i || l.any fun a => (f a).getLsbD i) := by
  induction l generalizing acc with
  | nil => simp
  | cons a l ih => rw [List.foldl_cons, ih, BitVec.getLsbD_or, List.any_cons, Bool.or_assoc]

theorem getLsbD_foldl_or_zero {α : Type} {w : Nat} (f : α → BitVec w) (l : List α) (i : Nat) :
    (l.foldl (fun acc a => acc ||| f a) 0).getLsbD i = l.any fun a => (f a).getLsbD i := by
  rw [getLsbD_foldl_or, show (0 : BitVec w).getLsbD i = false from BitVec.getLsbD_zero, Bool.false_or]

/-! ### The text field (R156) -/

theorem getLsbD_textRow (s : State) (gs : List SetGlyph) (r : Fin 12) (col : Nat) :
    (textRow s gs r).getLsbD col =
      gs.any fun g => (deposit (glyphCell s g) (glyphColumn g.x) r).getLsbD col :=
  getLsbD_foldl_or_zero ..

theorem getLsbD_textRow_beyond (s : State) (gs : List SetGlyph) (r : Fin 12) {col : Nat} (beyond : 1200 ≤ col) :
    (textRow s gs r).getLsbD col = false := by
  simp [getLsbD_textRow, getLsbD_deposit, Nat.not_lt.mpr beyond]

/-- A dot of a deposit is a dot of its cell's row, as far to the right as the cell's column. -/
theorem getLsbD_deposit_iff {c : Cell} {column : Nat} {r : Fin 12} {col : Nat} (inField : col < 1200) :
    (deposit c column r).getLsbD col = true ↔
      ∃ d, col = column + d ∧ d < c.width ∧ (vget c.rows r).getLsbD d = true := by
  simp only [getLsbD_deposit, getLsbD_dots, Bool.and_eq_true, decide_eq_true_eq]
  constructor
  · rintro ⟨-, after, inCell, dot⟩
    exact ⟨col - column, by omega, inCell, dot⟩
  · rintro ⟨d, rfl, inCell, dot⟩
    exact ⟨inField, by omega, by rwa [Nat.add_sub_cancel_left], by rwa [Nat.add_sub_cancel_left]⟩

/-! ### The flag field (R157) -/

/-- What one flag puts into a row of the band. -/
def flagDots (r : Fin 12) (p : Bool × Nat) : BitVec 1248 :=
  if p.1 then (vget (flagCell p.2) r).setWidth 1248 <<< (1200 + 8 * p.2) else 0

theorem flagRow_eq (f : LineFlags) (r : Fin 12) :
    flagRow f r = f.drawn.zipIdx.foldl (fun acc p => acc ||| flagDots r p) 0 := by
  unfold flagRow
  congr 1
  funext acc p
  obtain ⟨on, k⟩ := p
  cases on <;> simp [flagDots]

theorem getLsbD_flagDots (r : Fin 12) (p : Bool × Nat) (col : Nat) :
    (flagDots r p).getLsbD col = (p.1 && (decide (col < 1248) && (decide (1200 + 8 * p.2 ≤ col) &&
      (vget (flagCell p.2) r).getLsbD (col - (1200 + 8 * p.2))))) := by
  obtain ⟨on, k⟩ := p
  cases on
  · exact BitVec.getLsbD_zero
  · exact getLsbD_setWidth_shiftLeft 1248 (vget (flagCell k) r) (1200 + 8 * k) col

theorem getLsbD_flagRow (f : LineFlags) (r : Fin 12) (col : Nat) :
    (flagRow f r).getLsbD col = f.drawn.zipIdx.any fun p => (flagDots r p).getLsbD col := by
  rw [flagRow_eq, getLsbD_foldl_or_zero]

theorem getLsbD_flagRow_before (f : LineFlags) (r : Fin 12) {col : Nat} (before : col < 1200) :
    (flagRow f r).getLsbD col = false := by
  have blank : ∀ k, ¬ 1200 + 8 * k ≤ col := fun k => by omega
  simp [getLsbD_flagRow, getLsbD_flagDots, blank]

/-- At the columns of a flag no other flag has dots. -/
theorem getLsbD_flagDots_at (r : Fin 12) (p : Bool × Nat) {flag d : Nat} (isFlag : flag < 6) (inCell : d < 8) :
    (flagDots r p).getLsbD (1200 + 8 * flag + d) = true ↔
      p.1 = true ∧ p.2 = flag ∧ (vget (flagCell flag) r).getLsbD d = true := by
  obtain ⟨on, k⟩ := p
  simp only [getLsbD_flagDots, Bool.and_eq_true, decide_eq_true_eq]
  constructor
  · rintro ⟨isOn, -, after, dot⟩
    have inRow : 1200 + 8 * flag + d - (1200 + 8 * k) < 8 := BitVec.lt_of_getLsbD dot
    obtain rfl : k = flag := by omega
    exact ⟨isOn, rfl, by rwa [Nat.add_sub_cancel_left] at dot⟩
  · rintro ⟨isOn, rfl, dot⟩
    exact ⟨isOn, by omega, by omega, by rwa [Nat.add_sub_cancel_left]⟩

theorem getLsbD_flagRow_at (f : LineFlags) (r : Fin 12) {flag d : Nat} (isFlag : flag < 6) (inCell : d < 8) :
    (flagRow f r).getLsbD (1200 + 8 * flag + d) =
      (f.drawn.getD flag false && (vget (flagCell flag) r).getLsbD d) := by
  have drawn : f.drawn.getD flag false = true ↔ f.drawn[flag]? = some true := by
    rw [List.getD_eq_getElem?_getD]
    cases f.drawn[flag]? <;> simp
  rw [Bool.eq_iff_iff, Bool.and_eq_true, drawn, getLsbD_flagRow, List.any_eq_true]
  simp only [getLsbD_flagDots_at r _ isFlag inCell, List.mem_zipIdx_iff_getElem?]
  constructor
  · rintro ⟨⟨on, k⟩, stands, rfl, rfl, dot⟩
    exact ⟨stands, dot⟩
  · rintro ⟨stands, dot⟩
    exact ⟨(true, flag), stands, rfl, rfl, dot⟩

/-! ### The band -/

theorem getLsbD_assemble (s : State) (i : LineSlot) (line : LineRecord) (k : Fin 12) (col : Nat) :
    (vget (assemble s i line).rows k).getLsbD col =
      ((textRow s line.glyphs k).getLsbD col || (flagRow line.flags k).getLsbD col) := by
  rw [assemble, vget_ofFn, BitVec.getLsbD_or]

theorem getLsbD_solidBox (r : Fin 12) (d : Nat) : (vget solidBox.rows r).getLsbD d = decide (d < 8) := by
  have row : vget solidBox.rows r = BitVec.ofNat 16 (2 ^ 8 - 1) := by simp [solidBox, vget]
  rw [row, getLsbD_ofNat_two_pow_sub_one, ← Bool.decide_and, decide_eq_decide]
  omega

/-- Settles O58: each field of a band bit by bit, and the cells. -/
theorem bandsAreTheOrOfTheirCells : Obligations.BandsAreTheOrOfTheirCells := by
  refine ⟨fun s i line k col inField => ?_, fun c column k col beyond => ?_, fun s g absent => if_pos absent,
    fun s g present => ?_, fun x inLine => ?_, rfl, rfl, getLsbD_solidBox, fun s i line k flag d isFlag inCell => ?_,
    fun j k hj hk ne same => ne (flagCell_injective hj hk same), fun k hk => flagCell_ne_solid hk⟩
  · rw [getLsbD_assemble, getLsbD_flagRow_before _ _ inField, Bool.or_false, getLsbD_textRow, List.any_eq_true]
    simp only [getLsbD_deposit_iff inField, glyphColumn]
  · rw [getLsbD_deposit, decide_eq_false (Nat.not_lt.mpr beyond), Bool.false_and]
  · rw [glyphCell, present]
    exact if_neg Bool.false_ne_true
  · rw [glyphColumn]
    omega
  · rw [getLsbD_assemble, getLsbD_textRow_beyond _ _ _ (by omega), Bool.false_or,
      getLsbD_flagRow_at _ _ isFlag inCell, LineFlags.drawn]

end Sys2Proof.Machine
end

section
/-! PROOF. The printer port (O33): the transfers of a band (R159), its end (R158, R110), the end feeds (R161), and the bits
of a byte. -/

namespace Sys2Proof.Machine

/-! ### The bits of a byte (R159) -/

/-- The byte of a row, as the number whose bit `j` is the dot in column 8k + 7 - j. -/
theorem rowByte_eq (row : BitVec 1248) (k : Nat) :
    rowByte row k = BitVec.ofNat 8 (Nat.ofBits fun j : Fin 8 => row.getLsbD (8 * k + (7 - j))) := by
  have weight : ∀ (b : Bool) (n : Nat), (if b then n else 0) = b.toNat * n := fun b n => by cases b <;> simp
  rw [rowByte, byteOf]
  congr 1
  simp [weight, Nat.ofBits, List.range_succ, Fin.foldr_succ]
  omega

theorem getLsbD_rowByte (row : BitVec 1248) (k : Nat) {i : Nat} (inByte : i < 8) :
    (rowByte row k).getLsbD (7 - i) = row.getLsbD (8 * k + i) := by
  have place : 7 - i < 8 := by omega
  have back : 7 - (7 - i) = i := by omega
  rw [rowByte_eq, BitVec.getLsbD_ofNat, Nat.testBit_ofBits_lt _ _ place, decide_eq_true place, Bool.true_and, back]

/-! ### Transfers (R159) -/

theorem exec_portTransfer (s : State) : exec .portTransfer s = eventReact s.portReady transfer s := rfl

theorem exec_portTransfer_ready {s : State} (ready : s.portReady = true) :
    exec .portTransfer s = .next (react (transfer s.fresh)) := by
  rw [exec_portTransfer, ready, eventReact_true]

theorem exec_portTransfer_busy {s : State} (busy : s.printerBusy = true) : exec .portTransfer s = .next s := by
  have held : s.portReady = false := by simp [State.portReady, busy]
  rw [exec_portTransfer, held, eventReact_false]

/-- A transfer after which the port is in the state it was in, and the buffers as they were. -/
theorem portTransfer_eventTo {s t : State} (ready : s.portReady = true) (e : transfer s.fresh = t)
    (keep : t.settled = s.settled) : EventTo (exec .portTransfer s) s t :=
  eventTo_of_settled (e ▸ exec_portTransfer_ready ready) keep

section Sending

variable {s : State} {i : Fin 2} {b : Band} (free : s.printerBusy = false) (port : s.proof.port = .sending)
include free port

theorem portReady_of_sending : s.portReady = true := by simp [State.portReady, free, port]

variable (sends : s.sendingBand = some (i, b))
include sends

omit free in
theorem transfer_sending : transfer s.fresh = sendTransfer i b s.fresh := by
  have port' : s.fresh.proof.port = .sending := port
  have sends' : s.fresh.sendingBand = some (i, b) := sends
  simp only [transfer, port', sends']

theorem portTransfer_byte (row : s.proof.row < 12) (pos : s.proof.pos < 156) :
    EventTo (exec .portTransfer s) s
      (((s.modDrives fun d => { d with data := rowByte (vget b.rows ⟨s.proof.row, row⟩) s.proof.pos }).modProof
        fun p => { p with pos := p.pos + 1 }).fresh.pulse
          (.strobe (rowByte (vget b.rows ⟨s.proof.row, row⟩) s.proof.pos))) := by
  refine portTransfer_eventTo (portReady_of_sending free port) ?_
    (by rw [settled_pulse, settled_fresh, settled_modProof _ _ rfl rfl, settled_modDrives])
  rw [transfer_sending port sends, sendTransfer]
  exact (dif_pos row).trans (if_pos pos)

theorem portTransfer_rowFeed (row : s.proof.row < 12) (pos : 156 ≤ s.proof.pos) :
    EventTo (exec .portTransfer s) s
      ((s.modProof fun p => { p with row := p.row + 1, pos := 0 }).fresh.pulse .rowFeed) := by
  refine portTransfer_eventTo (portReady_of_sending free port) ?_ (by simp)
  rw [transfer_sending port sends, sendTransfer]
  exact (dif_pos row).trans (if_neg (Nat.not_lt.mpr pos))

theorem portTransfer_bandFeed (row : 12 ≤ s.proof.row) (pos : s.proof.pos < 3) :
    EventTo (exec .portTransfer s) s ((s.modProof fun p => { p with pos := p.pos + 1 }).fresh.pulse .rowFeed) := by
  refine portTransfer_eventTo (portReady_of_sending free port) ?_ (by simp)
  rw [transfer_sending port sends, sendTransfer]
  exact (dif_neg (Nat.not_lt.mpr row)).trans (if_pos pos)

theorem portTransfer_lastFeed (row : 12 ≤ s.proof.row) (pos : 3 ≤ s.proof.pos) :
    exec .portTransfer s = .next (react (bandEnd i b (s.fresh.pulse .rowFeed))) := by
  rw [exec_portTransfer_ready (portReady_of_sending free port), transfer_sending port sends, sendTransfer]
  exact congrArg (fun t => Host.Outcome.next (react t))
    ((dif_neg (Nat.not_lt.mpr row)).trans (if_neg (Nat.not_lt.mpr pos)))

end Sending

/-! ### The end of a band (R158) -/

theorem linesOnly_proofDone (k : LineSlot) (s : State) : LinesOnly s (proofDone k s) :=
  LinesOnly.trans (t := modLine k _ s) rfl (linesOnly_freeIfDone k _)

theorem LinesOnly.proof {s t : State} (h : LinesOnly s t) : t.proof = s.proof := by rw [h]
theorem LinesOnly.pulses {s t : State} (h : LinesOnly s t) : t.pulses = s.pulses := by rw [h]

theorem bandEnd_proof (i : Fin 2) (b : Band) (s : State) : (bandEnd i b s).proof =
    { s.proof with port := .idle, row := 0, pos := 0, buffers := vset s.proof.buffers i .empty } :=
  (linesOnly_proofDone _ _).proof

theorem bandEnd_pulses (i : Fin 2) (b : Band) (s : State) : (bandEnd i b s).pulses = s.pulses :=
  (linesOnly_proofDone _ _).pulses

theorem bandEnd_line {b : Band} {r : LineRecord} {s : State} (line : s.lineAt b.slot = some r) (i : Fin 2) :
    if r.film then (bandEnd i b s).lineAt b.slot = some { r with proof := false, proofProgress := .notBegun }
    else (bandEnd i b s).lineAt b.slot = none := by
  split
  · next film => exact proofDone_kept line film
  · next film => exact And.left (proofDone_freed (by exact line) (Bool.eq_false_iff.mpr film))

/-! ### The end feeds (R161) -/

section EndFeed

variable {s : State} (free : s.printerBusy = false) (port : s.proof.port = .endFeed)
include free port

theorem portReady_of_endFeed : s.portReady = true := by simp [State.portReady, free, port]

omit free in
theorem transfer_endFeed : transfer s.fresh = feedTransfer s.fresh := by
  have port' : s.fresh.proof.port = .endFeed := port
  simp only [transfer, port']

theorem portTransfer_endFeed (more : 1 < s.proof.feeds) :
    EventTo (exec .portTransfer s) s
      ((s.modProof fun p => { p with feeds := p.feeds - 1 }).fresh.pulse .rowFeed) := by
  refine portTransfer_eventTo (portReady_of_endFeed free port) ?_ (by simp)
  rw [transfer_endFeed port, feedTransfer]
  exact if_neg (Nat.not_le.mpr more)

theorem portTransfer_lastEndFeed (last : s.proof.feeds = 1) :
    exec .portTransfer s =
      .next (react (((s.modProof fun p => { p with feeds := 0, port := .idle }).fresh.pulse .rowFeed).modStore
        fun t => { t with paperEndDone := true })) := by
  have counted : s.fresh.proof.feeds - 1 = 0 := by rw [State.fresh_proof, last]
  rw [exec_portTransfer_ready (portReady_of_endFeed free port), transfer_endFeed port, feedTransfer]
  refine congrArg (fun t => Host.Outcome.next (react t)) ((if_pos last.le).trans ?_)
  simp only [State.modProof, State.pulse, counted]
  rfl

end EndFeed

/-! ### The level of PRINTER_BUSY -/

theorem exec_printerBusyChange (level : Bool) (s : State) : exec (.printerBusyChange level) s =
    event (s.printerBusy != level) (State.setConditioned (sensorBit .printerBusy) level) s := rfl

theorem exec_printerBusyChange_changes {s : State} {level : Bool} (changes : s.printerBusy = !level) :
    exec (.printerBusyChange level) s = .next (s.fresh.setConditioned (sensorBit .printerBusy) level) := by
  have arises : (s.printerBusy != level) = true := by rw [changes]; cases level <;> rfl
  rw [exec_printerBusyChange, arises, event_true]

/-- Settles O33: each transfer by the place of the port in the band or in the end feeds. -/
theorem portTransfersFollowTheBand : Obligations.PortTransfersFollowTheBand := by
  refine ⟨fun s busy => exec_portTransfer_busy busy, fun s i b free port sends =>
    ⟨portTransfer_byte free port sends, portTransfer_rowFeed free port sends, portTransfer_bandFeed free port sends,
      fun row pos => ⟨_, portTransfer_lastFeed free port sends row pos, ?_, ?_, ?_, fun r line => ?_⟩⟩,
    fun s free port => portTransfer_endFeed free port, fun s free port => portTransfer_lastEndFeed free port,
    fun s level changes => ⟨_, exec_printerBusyChange_changes changes, ?_, rfl⟩,
    fun row k i inByte => getLsbD_rowByte row k inByte⟩
  · rw [bandEnd_proof]
  · rw [bandEnd_proof, vget_vset_self]
  · rw [bandEnd_pulses]; rfl
  · exact bandEnd_line (s := s.fresh.pulse .rowFeed) line i
  · exact (conditioned_setConditioned 14 14 level s.fresh (by omega)).trans (if_pos rfl)

end Sys2Proof.Machine
end

section
/-! PROOF. Every step keeps the window registers legal (O6): what the invariant reads of the attention flags, their enables
and the chain registers, the operations that keep it, and the writes of these registers. -/

namespace Sys2Proof.Machine

/-! ### What the invariant reads (R164) -/

/-- The undefined attention bits, the enables and the chain registers. -/
def State.window (s : State) : BitVec 16 × BitVec 16 × Vector Word 2 :=
  (s.attn &&& ~~~attnDefined, s.attnEn, vmap (·.chain) s.channels)

theorem window_of_outside {s t : State} (h : t.outside = s.outside) : t.window = s.window := by
  simp only [State.outside, Prod.mk.injEq] at h
  obtain ⟨-, attn, attnEn, chains, -⟩ := h
  simp only [State.window, attn, attnEn, chains]

theorem windowLegal_iff {s : State} : WindowLegal s ↔
    s.window.1 = 0 ∧ s.window.2.1 &&& ~~~attnDefined = 0 ∧ ∀ ch, vget s.window.2.2 ch &&& 3 = 0 := by
  simp only [WindowLegal, State.window, State.channel, vget_vmap]

theorem WindowLegal.of_window {s t : State} (h : WindowLegal s) (e : t.window = s.window) : WindowLegal t := by
  rw [windowLegal_iff] at *
  rwa [e]

theorem WindowLegal.of_outside {s t : State} (h : WindowLegal s) (e : t.outside = s.outside) : WindowLegal t :=
  h.of_window (window_of_outside e)

theorem window_foldl {α : Type} {f : State → α → State} (keep : ∀ s a, (f s a).window = s.window) (l : List α)
    (s : State) : (l.foldl f s).window = s.window := by
  induction l generalizing s with
  | nil => rfl
  | cons a l ih => rw [List.foldl_cons, ih, keep]

@[simp] theorem window_raise (s : State) (a : Attn) : (s.raise a).window = s.window :=
  window_of_outside (outside_raise s a)
@[simp] theorem window_complete (ch : ChannelId) (c : Completion) (detail : Half) (bytes : List Byte) (s : State) :
    (complete ch c detail bytes s).window = s.window := window_of_outside (outside_complete ch c detail bytes s)
@[simp] theorem window_finish (ch : ChannelId) (c : Completion) (n : Nat) (s : State) :
    (finish ch c n s).window = s.window := window_complete ..
@[simp] theorem window_refuse (ch : ChannelId) (c : Completion) (s : State) : (refuse ch c s).window = s.window :=
  window_of_outside (outside_refuse ch c s)
@[simp] theorem window_modDict (s : State) (f : Dictionary → Dictionary) : (s.modDict f).window = s.window := rfl

/-! ### The writes of the configuration space -/

@[simp] theorem window_modConfig (s : State) (f : ConfigSpace → ConfigSpace) : (s.modConfig f).window = s.window := rfl
@[simp] theorem window_storeEntry (i : Nat) (v : Byte) (s : State) : (storeEntry i v s).window = s.window :=
  window_modConfig ..
@[simp] theorem window_acceptWrite (v : Byte) (s : State) : (acceptWrite v s).window = s.window :=
  window_storeEntry ..
@[simp] theorem window_refuseWrite (code : BitVec 7) (s : State) : (refuseWrite code s).window = s.window :=
  (window_raise ..).trans (window_modConfig ..)
@[simp] theorem window_writeTNomHigh (v : Byte) (s : State) : (writeTNomHigh v s).window = s.window := by
  unfold writeTNomHigh; dsimp only; split <;> simp
@[simp] theorem window_writeQuiescent (v : Byte) (s : State) : (writeQuiescent v s).window = s.window := by
  unfold writeQuiescent; split <;> simp
@[simp] theorem window_writeStationMap (v : Byte) (s : State) : (writeStationMap v s).window = s.window := by
  unfold writeStationMap
  split
  · exact (window_of_outside (outside_unverifyAll _)).trans (window_storeEntry ..)
  · simp
@[simp] theorem window_writeInversion (v : Byte) (s : State) : (writeInversion v s).window = s.window := by
  unfold writeInversion
  dsimp only
  rw [window_foldl fun _ _ => window_of_outside (outside_sensorChanged _ _),
    window_foldl fun _ _ => window_of_outside (outside_encoderChanged _ _), window_acceptWrite]
@[simp] theorem window_writeDebounce (v : Byte) (s : State) : (writeDebounce v s).window = s.window := by
  refine (window_of_outside ?_).trans (window_acceptWrite v s)
  simp [writeDebounce]

/-! ### The entries of the dictionary, the lamp, the queue and the read data -/

@[simp] theorem window_setChains (c : Vector (List Entry) 512) (s : State) : (setChains c s).window = s.window := rfl

theorem window_completeRequest (ch : ChannelId) (r : Request) (prot : Bool) (m : Vector Byte 96) (s : State) :
    (completeRequest ch r prot m s).window = s.window := by
  unfold completeRequest
  split
  · unfold completeAddWords; (repeat' split) <;> simp
  · unfold completeAmendWord; (repeat' split) <;> simp
  · unfold completeDeleteWord; (repeat' split) <;> simp
  · exact window_of_outside (outside_completeLookUpWord ..)
  · exact window_of_outside (outside_completeRefusedPurge ..)

theorem window_completeBucket (p : Purge) (s : State) : (completeBucket p s).window = s.window := by
  unfold completeBucket; dsimp only; split <;> simp

@[simp] theorem window_completeOperation (s : State) : (completeOperation s).window = s.window := by
  have idle : (setRunning none s).window = s.window := window_modDict ..
  unfold completeOperation
  split
  · rfl
  · split
    · exact (window_of_outside (outside_deliverAnswer ..)).trans idle
    · exact idle
  · exact (window_completeRequest ..).trans idle
  · split
    · exact (window_completeBucket ..).trans idle
    · exact idle

@[simp] theorem window_delayExpires (s : State) : (delayExpires s).window = s.window := by
  have fired : ∀ u : State, (fireFlash u).window = u.window := fun u => by
    have lamp : (fireLamp u).window = u.window := rfl
    unfold fireFlash
    dsimp only
    split
    · exact (window_of_outside (outside_flashReport (fireLamp u))).trans lamp
    · exact lamp
  unfold delayExpires
  dsimp only
  split
  · split
    · exact fired _
    · rfl
  · rfl

@[simp] theorem window_tick (s : State) : (tick s).window = s.window := by
  unfold tick
  split
  · exact window_of_outside (outside_advanceTime 1 s)
  · rfl

/-! ### The writes of the registers (R164, R168, R172, R173) -/

theorem blockAddress_low (a : Word) : blockAddress a &&& 3 = 0 := by
  rw [blockAddress, BitVec.and_assoc]
  exact BitVec.and_zero

/-- A chain register set to an address whose low two bits are 0. -/
theorem WindowLegal.modChannel {s : State} (h : WindowLegal s) (c : ChannelId) {f : Channel → Channel}
    (low : (f (s.channel c)).chain &&& 3 = 0) : WindowLegal (s.modChannel c f) := by
  obtain ⟨attn, attnEn, chains⟩ := h
  refine ⟨attn, attnEn, fun ch => ?_⟩
  by_cases e : c = ch
  · subst e; rw [State.channel_modChannel_self]; exact low
  · rw [State.channel_modChannel_ne _ _ e]; exact chains ch

theorem WindowLegal.fresh {s : State} (h : WindowLegal s) : WindowLegal s.fresh := h

theorem windowLegal_postingEnds (ch : ChannelId) (p : Posting) (fault : Option Nat) {s : State} (h : WindowLegal s) :
    WindowLegal (postingEnds ch p fault s) := by
  have recorded : ∀ bytes, WindowLegal (recordPosting ch p bytes s) := fun _ => h.modChannel ch (blockAddress_low _)
  unfold postingEnds
  split
  · exact (recorded _).of_outside (outside_terminate ..)
  · refine (recorded p.writes).of_outside ((outside_chainNext ..).trans ?_)
    split
    · exact outside_raise ..
    · rfl

theorem windowLegal_resetChannel (ch : ChannelId) {s : State} (h : WindowLegal s) : WindowLegal (resetChannel ch s) := by
  have abandoned : (abandonPosting ch (detach ch s)).outside = s.outside := by
    unfold abandonPosting
    split <;> simp
  exact (h.of_outside abandoned).modChannel ch (BitVec.zero_and ..)

theorem windowLegal_attnWrite (v : Word) {s : State} (h : WindowLegal s) :
    WindowLegal { s with attn := s.attn &&& ~~~(v.setWidth 16) } := by
  obtain ⟨attn, attnEn, chains⟩ := h
  refine ⟨?_, attnEn, chains⟩
  show (s.attn &&& ~~~(v.setWidth 16)) &&& ~~~attnDefined = 0
  rw [BitVec.and_assoc, BitVec.and_comm (~~~(v.setWidth 16)), ← BitVec.and_assoc, attn]
  exact BitVec.zero_and

theorem windowLegal_attnEnWrite (v : Word) {s : State} (h : WindowLegal s) :
    WindowLegal { s with attnEn := v.setWidth 16 &&& attnDefined } := by
  obtain ⟨attn, attnEn, chains⟩ := h
  refine ⟨attn, ?_, chains⟩
  show (v.setWidth 16 &&& attnDefined) &&& ~~~attnDefined = 0
  rw [BitVec.and_assoc]
  exact BitVec.and_zero

theorem windowLegal_powerOn (inputs : BitVec 15) (pending : List Instr) (free : Nat) :
    WindowLegal (State.powerOn inputs pending free) := by
  refine ⟨BitVec.zero_and, BitVec.zero_and, fun ch => ?_⟩
  rw [show (State.powerOn inputs pending free).channel ch = Channel.powerOn from vget_replicate _ ch]
  rfl

/-! ### The events and the commands -/

theorem windowLegal_event {arises : Bool} {f : State → State} {s t : State} (h : WindowLegal s)
    (keep : ∀ u, WindowLegal u → WindowLegal (f u)) (e : event arises f s = .next t) : WindowLegal t := by
  cases arises with
  | false => cases e; exact h
  | true => cases e; exact keep _ h.fresh

theorem windowLegal_eventReact {arises : Bool} {f : State → State} {s t : State} (h : WindowLegal s)
    (keep : ∀ u, (f u).window = u.window) (e : eventReact arises f s = .next t) : WindowLegal t :=
  windowLegal_event h (fun u hu => (hu.of_window (keep u)).of_outside (outside_react _)) e

/-- An event that leaves the window registers alone, but for attention flags that it raises. -/
theorem windowLegal_quietEvent {arises : Bool} {f : State → State} {s t : State} (h : WindowLegal s)
    (keep : ∀ u, (f u).window = u.window) (e : event arises f s = .next t) : WindowLegal t :=
  windowLegal_event h (fun u hu => hu.of_window (keep u)) e

/-- Each command keeps the window registers legal. -/
theorem windowLegal_exec (i : Instr) {s t : State} (h : WindowLegal s) (e : exec i s = .next t) : WindowLegal t := by
  cases i
  case powerOnReset => cases e; exact windowLegal_powerOn ..
  case channelReset ch => exact windowLegal_event h (fun _ hu => windowLegal_resetChannel ch hu) e
  case chainRegisterWrite ch v =>
    exact windowLegal_event h (fun _ hu => hu.modChannel ch (blockAddress_low v)) e
  case attnWrite v => exact windowLegal_event h (fun _ hu => windowLegal_attnWrite v hu) e
  case attnEnWrite v => exact windowLegal_event h (fun _ hu => windowLegal_attnEnWrite v hu) e
  case postingComplete ch fault =>
    simp only [exec, execPostingComplete] at e
    split at e
    · exact windowLegal_event h (fun _ hu => windowLegal_postingEnds ch _ fault hu) e
    · cases e; exact h
  case terminationStatusRead ch =>
    simp only [exec, execTerminationStatusRead] at e
    refine windowLegal_event h (fun u hu => ?_) e
    obtain ⟨-, -, chains⟩ := id hu
    exact WindowLegal.modChannel (s := { u with readData := (u.channel ch).term.setWidth 32 }) hu ch (chains ch)
  case sensorEventStatusRead | cfgIndexWrite | tNomLowWrite =>
    simp only [exec, execSensorEventStatusRead, execCfgIndexWrite, execTNomLowWrite] at e
    refine windowLegal_quietEvent h (fun _ => ?_) e
    rfl
  case configWrite v =>
    simp only [exec, execConfigWrite] at e
    split at e
    · exact windowLegal_eventReact h (fun u => window_of_outside (outside_compositionReset u)) e
    · exact windowLegal_quietEvent h (window_acceptWrite v) e
  case tNomHighWrite | quiescentConfigWrite | stationMapWrite | readOnlyEntryWrite =>
    simp only [exec, execTNomHighWrite, execQuiescentConfigWrite, execStationMapWrite, execReadOnlyEntryWrite] at e
    exact windowLegal_quietEvent h (by simp) e
  case sensorInversionWrite | debounceEnableWrite | lookupAnswer | dictionaryOperationComplete | flashDelayExpiry =>
    simp only [exec, execSensorInversionWrite, execDebounceEnableWrite, execLookupAnswer,
      execDictionaryOperationComplete, execFlashDelayExpiry] at e
    exact windowLegal_eventReact h (by simp) e
  case takeItem =>
    simp only [exec, execTakeItem] at e
    split at e
    · exact windowLegal_eventReact h (fun _ => window_of_outside (outside_takeItem ..)) e
    · cases e; exact h
  case settleWord =>
    simp only [exec, execSettleWord] at e
    split at e
    · exact windowLegal_eventReact h (fun _ => window_of_outside (outside_settle ..)) e
    · cases e; exact h
  case start =>
    simp only [exec, execStart] at e
    refine windowLegal_quietEvent h (fun u => window_of_outside ?_) e
    split <;> simp
  case loadFont | amendFont | placeFont | retireFont | queryFont | openGalley | setText | setPriority | cancelGalley |
      queryGalley | addWords | amendWord | deleteWord | lookUpWord | purgeDesk | verifyStations | queryPhotoUnit |
      loadCassette | resumeExposure | advanceFilm | cutFilm | queryExposure | loadProofCells | queryProof =>
    exact windowLegal_eventReact h (fun _ => window_of_outside (outside_requestArrives ..)) e
  case fetchComplete | compositionReset | flashComplete | turretArrival | turretTimeout | filmStep | cutComplete |
      cutTimeout | portTransfer | detachedMarkClear | sensorLevelChange =>
    simp only [exec, execFetchComplete, execCompositionReset, execFlashComplete, execTurretArrival, execTurretTimeout,
      execFilmStep, execCutComplete, execCutTimeout, execPortTransfer, execDetachedMarkClear,
      execSensorLevelChange] at e
    exact windowLegal_eventReact h (fun _ => window_of_outside (by simp)) e
  case lidClosedFall | cassettePresentFall | paperPresentFall | paperPresentRise | sensorChangeAccepted =>
    simp only [exec, execLidClosedFall, execCassettePresentFall, execPaperPresentFall, execPaperPresentRise,
      execSensorChangeAccepted, acceptanceEvent] at e
    exact windowLegal_eventReact h (fun _ => window_of_outside (by simp [acceptance])) e
  all_goals
    simp only [exec, execIndexPulse, execSlotPulse, execIndexTimeout, execTurretReadyFall, execLockWatchExpiry,
      execLensArrival, execLensReadyFall, execLensTimeout, execCarriageStep, execPrinterBusyChange, execStop,
      execCutterHomeFall, execEncoderLevelChange, execFalseLevelAccepted] at e
    exact windowLegal_quietEvent h (fun _ => window_of_outside (by simp)) e

/-- Settles O6: only the writes of the registers, the end of a posting and a channel reset change what the invariant reads,
and each of them leaves the undefined bits 0. -/
theorem everyStepKeepsTheWindowRegistersLegal : Obligations.EveryStepKeepsTheWindowRegistersLegal := by
  intro s t h e
  unfold step at e
  split at e
  · next c rest _ => exact windowLegal_exec c (h.of_window (t := { s with pending := rest }) rfl) e
  · cases e; exact h.of_window (window_tick s)

end Sys2Proof.Machine
end

section
/-! SUPPORT. What leaves the channels alone: the operations in which no request completes. -/

namespace Sys2Proof.Machine

/-! ### The Photo Unit and the lines -/

@[simp] theorem channels_setConditioned (bit : Nat) (level : Bool) (s : State) :
    (s.setConditioned bit level).channels = s.channels := rfl
@[simp] theorem channels_verifyAt (q : Station) (code : BitVec 4) (s : State) :
    (verifyAt q code s).channels = s.channels := by simp only [verifyAt]
@[simp] theorem channels_unverifyAll (s : State) : (unverifyAll s).channels = s.channels := by simp only [unverifyAll]
@[simp] theorem channels_advanceTime (n : Nat) (s : State) : (advanceTime n s).channels = s.channels := rfl
@[simp] theorem channels_driveTurret (q : Station) (r : Requester) (s : State) :
    (driveTurret q r s).channels = s.channels := rfl
@[simp] theorem channels_latchHere (q : Station) (s : State) : (latchHere q s).channels = s.channels :=
  (retried_latchHere q s).channels
@[simp] theorem channels_turretArrives (q : Station) (code : BitVec 4) (s : State) :
    (turretArrives q code s).channels = s.channels := by rw [turretArrives_eq]
@[simp] theorem channels_turretMoveStart (s : State) : (turretMoveStart s).channels = s.channels := rfl
@[simp] theorem channels_loseLock (s : State) : (loseLock s).channels = s.channels := by
  unfold loseLock; split <;> rfl
@[simp] theorem channels_stepCarriage (s : State) : (stepCarriage s).channels = s.channels := by
  unfold stepCarriage endHoming; dsimp only; (repeat' split) <;> rfl
@[simp] theorem channels_setEncoder (l : EncoderLine) (f : LineFilter) (s : State) :
    (setEncoder l f s).channels = s.channels := by cases l <;> rfl
@[simp] theorem channels_acceptEncoder (l : EncoderLine) (level : Bool) (s : State) :
    (acceptEncoder l level s).channels = s.channels := by rw [acceptEncoder_only, channels_setEncoder]
@[simp] theorem channels_encoderChanged (l : EncoderLine) (s : State) :
    (encoderChanged l s).channels = s.channels := by
  unfold encoderChanged encoderEdge acceptHeldEncoder; dsimp only; (repeat' split) <;> simp
@[simp] theorem channels_pulseAccepted (l : EncoderLine) (s : State) : (pulseAccepted l s).channels = s.channels := by
  simp [pulseAccepted]
@[simp] theorem channels_timeBefore (l : EncoderLine) (n : Nat) (s : State) :
    (timeBefore l n s).channels = s.channels := by
  unfold timeBefore; split <;> simp [acceptAfter]
@[simp] theorem channels_setTurretLines (q : Station) (code : BitVec 4) (s : State) :
    (setTurretLines q code s).channels = s.channels := by
  simp only [setTurretLines_eq, channels_setConditioned]
@[simp] theorem channels_setDebouncer (l : DebouncedLine) (f : LineFilter) (s : State) :
    (setDebouncer l f s).channels = s.channels := by cases l <;> rfl
@[simp] theorem channels_tick (s : State) : (tick s).channels = s.channels := by
  unfold tick; split <;> rfl

/-! ### Exposure Control and Film Transport -/

@[simp] theorem channels_takeHold (r : HoldReason) (s : State) : (takeHold r s).channels = s.channels :=
  (retried_takeHold r s).channels
@[simp] theorem channels_setWork (w : ExposureWork) (s : State) : (setWork w s).channels = s.channels := rfl
@[simp] theorem channels_setStep (l : LineWork) (st : LineStep) (s : State) : (setStep l st s).channels = s.channels :=
  rfl
@[simp] theorem channels_stopFilm (s : State) : (stopFilm s).channels = s.channels := rfl
@[simp] theorem channels_judgeLow (s : State) : (judgeLow s).channels = s.channels := by
  unfold judgeLow; split <;> rfl
@[simp] theorem channels_moveFilm (m : FilmMove) (s : State) : (moveFilm m s).channels = s.channels := by
  rw [moveFilm_only]; rfl
@[simp] theorem channels_noteRemaining (m : FilmMove) (s : State) : (noteRemaining m s).channels = s.channels := by
  unfold noteRemaining; split <;> rfl
@[simp] theorem channels_startFilm (forward : Bool) (n : Nat) (s : State) :
    (startFilm forward n s).channels = s.channels := rfl
@[simp] theorem channels_startCut (work : CutPhase → ExposureWork) (s : State) :
    (startCut work s).channels = s.channels := (retried_startCut work s).channels
@[simp] theorem channels_beginGap (n : Nat) (s : State) : (beginGap n s).channels = s.channels :=
  (retried_beginGap n s).channels
@[simp] theorem channels_cutterFell (s : State) : (cutterFell s).channels = s.channels := by
  unfold cutterFell; split <;> rfl
@[simp] theorem channels_applyDeferred (s : State) : (applyDeferred s).channels = s.channels := by
  unfold applyDeferred; dsimp only; (repeat' split) <;> rfl
@[simp] theorem channels_shutterStep (l : LineWork) (g : SetGlyph) (s : State) :
    (shutterStep l g s).channels = s.channels := (retried_shutterStep l g s).channels
@[simp] theorem channels_carriageStep (l : LineWork) (g : SetGlyph) (s : State) :
    (carriageStep l g s).channels = s.channels := (retried_carriageStep l g s).channels
@[simp] theorem channels_lensStep (l : LineWork) (g : SetGlyph) (s : State) :
    (lensStep l g s).channels = s.channels := (retried_lensStep l g s).channels
@[simp] theorem channels_glyphDecision (l : LineWork) (g : SetGlyph) (s : State) :
    (glyphDecision l g s).channels = s.channels := (retried_glyphDecision l g s).channels
@[simp] theorem channels_turretReport (correct : Bool) (s : State) : (turretReport correct s).channels = s.channels := by
  unfold turretReport turretReached; (repeat' split) <;> simp
@[simp] theorem channels_lensReport (arrived : Bool) (s : State) : (lensReport arrived s).channels = s.channels := by
  unfold lensReport; (repeat' split) <;> simp
@[simp] theorem channels_carriageReport (s : State) : (carriageReport s).channels = s.channels := by
  unfold carriageReport; (repeat' split) <;> simp
@[simp] theorem channels_stationLost (s : State) : (stationLost s).channels = s.channels := by
  unfold stationLost; (repeat' split) <;> simp
@[simp] theorem channels_lensLost (s : State) : (lensLost s).channels = s.channels := by
  unfold lensLost; (repeat' split) <;> simp
@[simp] theorem channels_discFault (s : State) : (discFault s).channels = s.channels := by
  unfold discFault; split <;> simp
@[simp] theorem channels_placementChanged (i : FontSlot) (s : State) : (placementChanged i s).channels = s.channels := by
  unfold placementChanged; (repeat' split) <;> simp [withdrawFlash]
@[simp] theorem channels_lidFell (s : State) : (lidFell s).channels = s.channels := by
  unfold lidFell; dsimp only; split <;> simp
@[simp] theorem channels_loadCassette (inches : Nat) (s : State) : (loadCassette inches s).channels = s.channels := by
  unfold loadCassette; dsimp only; (repeat' split) <;> simp
@[simp] theorem channels_turretFalls (s : State) : (turretFalls s).channels = s.channels := by
  unfold turretFalls; split <;> simp
@[simp] theorem channels_lensRises (s : State) : (lensRises s).channels = s.channels := by
  unfold lensRises; dsimp only; (repeat' split) <;> simp
@[simp] theorem channels_lensFalls (s : State) : (lensFalls s).channels = s.channels := by
  unfold lensFalls; split <;> simp
@[simp] theorem channels_lensTimesOut (s : State) : (lensTimesOut s).channels = s.channels := by
  unfold lensTimesOut; dsimp only; split <;> simp

/-! ### The galleys, the store and the Proof Generator -/

@[simp] theorem channels_addSticky (s : State) (g : GalleyId) (f : Half) : (s.addSticky g f).channels = s.channels := rfl
@[simp] theorem channels_modBuilder (s : State) (g : GalleyId) (f : Builder → Builder) :
    (s.modBuilder g f).channels = s.channels := rfl
@[simp] theorem channels_modLine (i : LineSlot) (f : LineRecord → LineRecord) (s : State) :
    (modLine i f s).channels = s.channels := rfl
@[simp] theorem channels_dropLine (i : LineSlot) (g : GalleyId) (s : State) : (dropLine i g s).channels = s.channels :=
  rfl
@[simp] theorem channels_raiseLine (is : List FontSlot) (s : State) : (raiseLine is s).channels = s.channels :=
  foldl_modFont_channels ..
@[simp] theorem channels_lowerLine (is : List FontSlot) (s : State) : (lowerLine is s).channels = s.channels :=
  foldl_modFont_channels ..
@[simp] theorem channels_lowerPartial (is : List FontSlot) (s : State) : (lowerPartial is s).channels = s.channels :=
  foldl_modFont_channels ..
@[simp] theorem channels_setParameter (g : GalleyId) (clamped : Bool) (f : Galley → Galley) (s : State) :
    (setParameter g clamped f s).channels = s.channels := by unfold setParameter; dsimp only; split <;> rfl
@[simp] theorem channels_takeGlyph (g : GalleyId) (c : GlyphCode) (s : State) :
    (takeGlyph g c s).channels = s.channels := by unfold takeGlyph; dsimp only; split <;> rfl
@[simp] theorem channels_takeSize (g : GalleyId) (n : Nat) (s : State) : (takeSize g n s).channels = s.channels := by
  unfold takeSize; split <;> rfl
@[simp] theorem channels_takeQuad (g : GalleyId) (v : Nat) (s : State) : (takeQuad g v s).channels = s.channels := by
  unfold takeQuad; split <;> rfl
@[simp] theorem channels_startPort (w : PortWork) (s : State) : (startPort w s).channels = s.channels := by
  rw [startPort_eq]
@[simp] theorem channels_feedTransfer (s : State) : (feedTransfer s).channels = s.channels := by
  unfold feedTransfer; dsimp only; split <;> rfl
@[simp] theorem channels_paperFell (s : State) : (paperFell s).channels = s.channels := by
  unfold paperFell; split <;> rfl
@[simp] theorem channels_paperRose (s : State) : (paperRose s).channels = s.channels := by
  unfold paperRose; split <;> rfl
@[simp] theorem channels_stopServing (g : GalleyId) (s : State) : (stopServing g s).channels = s.channels := by
  obtain ⟨e, d, only⟩ := stopServing_only g s
  rw [only]

/-! ### The dictionary and the configuration space -/

@[simp] theorem channels_present (ch : ChannelId) (r : Request) (s : State) : (present ch r s).channels = s.channels :=
  rfl
@[simp] theorem channels_setChains (c : Vector (List Entry) 512) (s : State) : (setChains c s).channels = s.channels :=
  rfl
@[simp] theorem channels_setRunning (j : Option DictJob) (s : State) : (setRunning j s).channels = s.channels := rfl
@[simp] theorem channels_grantChannel (ch : ChannelId) (s : State) : (grantChannel ch s).channels = s.channels := by
  unfold grantChannel beginRequest; (repeat' split) <;> rfl
@[simp] theorem channels_acceptWrite (v : Byte) (s : State) : (acceptWrite v s).channels = s.channels :=
  State.modConfig_channels ..
@[simp] theorem channels_refuseWrite (code : BitVec 7) (s : State) : (refuseWrite code s).channels = s.channels := rfl
@[simp] theorem channels_writeTNomHigh (v : Byte) (s : State) : (writeTNomHigh v s).channels = s.channels := by
  unfold writeTNomHigh; dsimp only; split <;> simp [storeEntry]
@[simp] theorem channels_writeQuiescent (v : Byte) (s : State) : (writeQuiescent v s).channels = s.channels := by
  unfold writeQuiescent; split <;> simp
@[simp] theorem channels_writeStationMap (v : Byte) (s : State) : (writeStationMap v s).channels = s.channels := by
  unfold writeStationMap; split <;> simp [storeEntry]

/-! ### Reactions -/

theorem channels_tryAssign {s t : State} (h : tryAssign s = some t) : t.channels = s.channels := by
  unfold tryAssign at h
  split at h
  · cases h; split <;> simp [assignFilm_eq, assignPaper]
  · obtain ⟨g, -, rfl⟩ := Option.map_eq_some_iff.1 h; rfl
theorem channels_tryFilmEnd {s t : State} (h : tryFilmEnd s = some t) : t.channels = s.channels := by
  unfold tryFilmEnd at h
  split at h
  · obtain ⟨g, -, rfl⟩ := Option.map_eq_some_iff.1 h; simp
  · cases h
theorem channels_tryPaperEnd {s t : State} (h : tryPaperEnd s = some t) : t.channels = s.channels := by
  unfold tryPaperEnd at h
  split at h
  · obtain ⟨g, -, rfl⟩ := Option.map_eq_some_iff.1 h; simp
  · cases h
theorem channels_tryStartBand {s t : State} (h : tryStartBand s = some t) : t.channels = s.channels := by
  unfold tryStartBand at h
  split at h
  · obtain ⟨i, -, h⟩ := Option.bind_eq_some_iff.1 h
    obtain ⟨b, -, rfl⟩ := Option.map_eq_some_iff.1 h; simp [setBuffer]
  · cases h
theorem channels_tryTakeProofLine {s t : State} (h : tryTakeProofLine s = some t) : t.channels = s.channels := by
  unfold tryTakeProofLine at h
  split at h
  · cases h
  · obtain ⟨b, -, h⟩ := Option.bind_eq_some_iff.1 h
    obtain ⟨i, -, h⟩ := Option.bind_eq_some_iff.1 h
    obtain ⟨r, -, rfl⟩ := Option.map_eq_some_iff.1 h; rfl
theorem channels_tryEndService {s t : State} (h : tryEndService s = some t) : t.channels = s.channels := by
  unfold tryEndService at h
  (repeat' split at h) <;> cases h
  rfl
theorem channels_tryArbitrate {s t : State} (h : tryArbitrate s = some t) : t.channels = s.channels := by
  unfold tryArbitrate at h
  split at h
  · obtain ⟨g, -, rfl⟩ := Option.map_eq_some_iff.1 h; rfl
  · cases h
theorem channels_channelGrant {s t : State} (h : channelGrant s = some t) : t.channels = s.channels := by
  unfold channelGrant at h
  dsimp only at h
  (repeat' split at h) <;> cases h <;> simp [grantBucket]
theorem channels_tryGrant {s t : State} (h : tryGrant s = some t) : t.channels = s.channels := by
  unfold tryGrant at h
  split at h
  · cases h
  · exact channels_channelGrant h
  · split at h
    · cases h; rfl
    · cases e : channelGrant s with
      | none => rw [e] at h; cases h; rfl
      | some u => rw [e] at h; cases h; exact channels_channelGrant e

end Sys2Proof.Machine
end

section
/-! SUPPORT. Channels that are consistent with their requests (R164, R167): a completion keeps them so, and with it every
operation in which requests complete. -/

namespace Sys2Proof.Machine

/-- Each channel waits exactly while it has a request in flight, and posts exactly while it has a posting. -/
structure ChannelsConsistent (v : Vector Channel 2) : Prop where
  each (ch : ChannelId) : ChannelConsistent (vget v ch)

/-- A completion takes the request out of flight and makes it the posting, or touches the detached mark only. -/
theorem ChannelConsistent.completed {k : Channel} (h : ChannelConsistent k) (c : Completion) (d : Half)
    (bytes : List Byte) : ChannelConsistent (k.completed c d bytes) := by
  unfold Channel.completed
  split
  · exact h
  · split
    · simp [ChannelConsistent]
    · exact h

theorem ChannelsConsistent.modChannel {s : State} (h : ChannelsConsistent s.channels) (c : ChannelId)
    {f : Channel → Channel} (keep : ChannelConsistent (f (s.channel c))) :
    ChannelsConsistent (s.modChannel c f).channels := by
  refine ⟨fun ch => ?_⟩
  rw [State.modChannel_channels, vget_vset]
  split
  · exact keep
  · exact h.each ch

/-- A run of operations that each keep the channels consistent. -/
theorem consistent_foldl {α : Type} {f : State → α → State} {s : State} (h : ChannelsConsistent s.channels)
    (keep : ∀ u a, ChannelsConsistent u.channels → ChannelsConsistent (f u a).channels) (l : List α) :
    ChannelsConsistent (l.foldl f s).channels := by
  induction l generalizing s with
  | nil => exact h
  | cons a l ih => exact ih (keep s a h)

section Owners

variable {s : State} (h : ChannelsConsistent s.channels)
include h

/-! ### Completions -/

@[simp] theorem consistent_complete (ch : ChannelId) (c : Completion) (d : Half) (bytes : List Byte) :
    ChannelsConsistent (complete ch c d bytes s).channels := by
  refine ⟨fun x => ?_⟩
  rw [← State.channel, complete_channel]
  split
  · exact (h.each ch).completed c d bytes
  · exact h.each x
@[simp] theorem consistent_completeUnstated (ch : ChannelId) (c : Completion) :
    ChannelsConsistent (completeUnstated ch c s).channels := consistent_complete h ..
@[simp] theorem consistent_refuse (ch : ChannelId) (c : Completion) : ChannelsConsistent (refuse ch c s).channels :=
  consistent_complete h ..
@[simp] theorem consistent_finish (ch : ChannelId) (c : Completion) (n : Nat) :
    ChannelsConsistent (finish ch c n s).channels := consistent_complete h ..
@[simp] theorem consistent_reply (ch : ChannelId) (n : Nat) (bytes : List Byte) :
    ChannelsConsistent (reply ch n bytes s).channels := consistent_complete h ..

/-! ### The Font Catalogue -/

@[simp] theorem consistent_applyAmend (i : FontSlot) (p : AmendParts) (clamped : Bool) (ch : ChannelId) :
    ChannelsConsistent (applyAmend i p clamped ch s).channels := consistent_finish (s := s.modFont ..) h ..
@[simp] theorem consistent_examine (i : FontSlot) : ChannelsConsistent (examine i s).channels := by
  unfold examine; dsimp only; (repeat' split) <;> simp -implicitDefEqProofs [h]
@[simp] theorem consistent_examineAll (is : List FontSlot) : ChannelsConsistent (examineAll is s).channels :=
  consistent_foldl h (fun _ i hu => consistent_examine hu i) is
@[simp] theorem consistent_commitReport (lines leaving : List FontSlot) :
    ChannelsConsistent (commitReport lines leaving s).channels := by simp -implicitDefEqProofs [commitReport, h]
@[simp] theorem consistent_lineGone (lines : List FontSlot) : ChannelsConsistent (lineGone lines s).channels := by
  simp -implicitDefEqProofs [lineGone, h]
@[simp] theorem consistent_partialGone (slots : List FontSlot) : ChannelsConsistent (partialGone slots s).channels := by
  simp -implicitDefEqProofs [partialGone, h]
@[simp] theorem consistent_currentGone (i : FontSlot) : ChannelsConsistent (currentGone i s).channels :=
  consistent_examine (s := lowerCurrent i s) h i
@[simp] theorem consistent_takeLoadFont (ch : ChannelId) (b : Block) :
    ChannelsConsistent (takeLoadFont ch b s).channels := by
  unfold takeLoadFont; dsimp only; (repeat' split) <;> simp -implicitDefEqProofs [h]
@[simp] theorem consistent_takeAmendFont (ch : ChannelId) (b : Block) :
    ChannelsConsistent (takeAmendFont ch b s).channels := by
  unfold takeAmendFont; dsimp only; (repeat' split) <;> simp -implicitDefEqProofs [h]
theorem consistent_takePlaceFont (ch : ChannelId) (b : Block) : ChannelsConsistent (takePlaceFont ch b s).1.channels := by
  unfold takePlaceFont; (repeat' split) <;> simp -implicitDefEqProofs [h]
@[simp] theorem consistent_placeFontReported (ch : ChannelId) (b : Block) :
    ChannelsConsistent (placeFontReported ch b s).channels := by
  have placed := consistent_takePlaceFont h ch b
  unfold placeFontReported
  split <;> simp_all
@[simp] theorem consistent_takeRetireFont (ch : ChannelId) (b : Block) :
    ChannelsConsistent (takeRetireFont ch b s).channels := by
  unfold takeRetireFont; dsimp only; (repeat' split) <;> simp -implicitDefEqProofs [h]
@[simp] theorem consistent_takeQueryFont (ch : ChannelId) (b : Block) :
    ChannelsConsistent (takeQueryFont ch b s).channels := by
  unfold takeQueryFont; (repeat' split) <;> simp -implicitDefEqProofs [h]
theorem consistent_catalogueReset : ChannelsConsistent (catalogueReset s).channels :=
  consistent_foldl h (fun u _ hu => consistent_examine (s := u.modFont ..) hu _) _

/-! ### The store -/

@[simp] theorem consistent_freeIfDone (i : LineSlot) : ChannelsConsistent (freeIfDone i s).channels := by
  unfold freeIfDone; (repeat' split) <;> simp -implicitDefEqProofs [h]
@[simp] theorem consistent_filmDone (i : LineSlot) : ChannelsConsistent (filmDone i s).channels :=
  consistent_freeIfDone (s := modLine i _ s) h i
@[simp] theorem consistent_proofDone (i : LineSlot) : ChannelsConsistent (proofDone i s).channels :=
  consistent_freeIfDone (s := modLine i _ s) h i
@[simp] theorem consistent_discardLines (is : List LineSlot) : ChannelsConsistent (discardLines is s).1.channels := by
  have one : ∀ (i : LineSlot) (u : State), ChannelsConsistent u.channels →
      ChannelsConsistent (discardLine i u).1.channels := fun i u hu => by
    unfold discardLine; dsimp only; (repeat' split) <;> simp -implicitDefEqProofs [hu]
  induction is generalizing s with
  | nil => exact h
  | cons i is ih => exact ih (one i s h)
@[simp] theorem consistent_closeGalley (g : GalleyId) : ChannelsConsistent (closeGalley g s).channels := by
  unfold closeGalley giveUpFont; dsimp only; split <;> simp -implicitDefEqProofs [releaseResources, h]

/-! ### Exposure Control and Film Transport -/

@[simp] theorem consistent_lineDone (l : LineWork) : ChannelsConsistent (lineDone l s).channels :=
  consistent_filmDone (s := setWork .none s) h l.slot
/-- A sub-step of a line keeps the channels, and the end of the line may complete amends. -/
theorem RetriedOrDone.consistent {t : State} (e : RetriedOrDone s t) : ChannelsConsistent t.channels := by
  rcases e with e | ⟨l, u, e, rfl⟩
  · rw [e.channels]; exact h
  · exact consistent_lineDone (e.channels ▸ h) l
@[simp] theorem consistent_nextGlyph (l : LineWork) : ChannelsConsistent (nextGlyph l s).channels :=
  (retried_nextGlyph l s).consistent h
@[simp] theorem consistent_retryStep : ChannelsConsistent (retryStep s).channels := (retried_retryStep s).consistent h
theorem consistent_takeLine (i : LineSlot) (r : LineRecord) : ChannelsConsistent (takeLine i r s).channels :=
  (retried_beginAdvance _ _ _ _).consistent (s := modLine i _ s) h
@[simp] theorem consistent_endFreeMove (ch : ChannelId) (c : Completion) (n : Nat) :
    ChannelsConsistent (endFreeMove ch c n s).channels := by simp -implicitDefEqProofs [endFreeMove, h]
@[simp] theorem consistent_stepFilm : ChannelsConsistent (stepFilm s).channels := by
  unfold stepFilm filmMoveDone; dsimp only; (repeat' split) <;> simp -implicitDefEqProofs [h]
@[simp] theorem consistent_cutterRose : ChannelsConsistent (cutterRose s).channels := by
  unfold cutterRose setGalleyStart; split <;> simp -implicitDefEqProofs [h]
@[simp] theorem consistent_cutTimedOut : ChannelsConsistent (cutTimedOut s).channels := by
  unfold cutTimedOut; dsimp only; split <;> simp -implicitDefEqProofs [h]
@[simp] theorem consistent_cassetteFell : ChannelsConsistent (cassetteFell s).channels := by
  unfold cassetteFell; dsimp only; split <;> simp -implicitDefEqProofs [h]
@[simp] theorem consistent_flashReport : ChannelsConsistent (flashReport s).channels := by
  unfold flashReport withdrawFlash; dsimp only; (repeat' split) <;> simp -implicitDefEqProofs [h]
@[simp] theorem consistent_delayExpires : ChannelsConsistent (delayExpires s).channels := by
  unfold delayExpires fireFlash fireLamp; dsimp only; (repeat' split) <;> simp -implicitDefEqProofs [h]
@[simp] theorem consistent_rechargeEnds : ChannelsConsistent (rechargeEnds s).channels := by
  unfold rechargeEnds; dsimp only; split <;> simp -implicitDefEqProofs [h]
@[simp] theorem consistent_takeLoadCassette (ch : ChannelId) (b : Block) :
    ChannelsConsistent (takeLoadCassette ch b s).channels := by
  unfold takeLoadCassette; dsimp only; (repeat' split) <;> simp -implicitDefEqProofs [h]
@[simp] theorem consistent_takeResume (ch : ChannelId) : ChannelsConsistent (takeResume ch s).channels := by
  unfold takeResume retry startLockWatch; (repeat' split) <;> simp -implicitDefEqProofs [h]
@[simp] theorem consistent_takeAdvanceFilm (ch : ChannelId) (b : Block) :
    ChannelsConsistent (takeAdvanceFilm ch b s).channels := by
  unfold takeAdvanceFilm; dsimp only; (repeat' split) <;> simp -implicitDefEqProofs [h]
@[simp] theorem consistent_takeCutFilm (ch : ChannelId) : ChannelsConsistent (takeCutFilm ch s).channels := by
  unfold takeCutFilm; (repeat' split) <;> simp -implicitDefEqProofs [h]
theorem consistent_resetFreeMove : ChannelsConsistent (resetFreeMove s).channels := by
  unfold resetFreeMove; split <;> simp -implicitDefEqProofs [h]

/-! ### The visits, the turret and the lines -/

@[simp] theorem consistent_visit (ch : ChannelId) (qs : List Station) (m n : BitVec 4) :
    ChannelsConsistent (visit ch qs m n s).channels := by
  induction qs generalizing m n s with
  | nil => exact consistent_finish (s := setVerify none s) h ..
  | cons q qs ih =>
    unfold visit
    split
    · exact ih (by simp -implicitDefEqProofs [h]) _ _
    · exact h
@[simp] theorem consistent_takeVerify (ch : ChannelId) : ChannelsConsistent (takeVerify ch s).channels := by
  unfold takeVerify; split <;> simp -implicitDefEqProofs [h]
@[simp] theorem consistent_reportToRequester (r : Requester) (correct : Bool) :
    ChannelsConsistent (reportToRequester r correct s).channels := by
  unfold reportToRequester visitEnds; (repeat' split) <;> simp -implicitDefEqProofs [h]
@[simp] theorem consistent_turretRises : ChannelsConsistent (turretRises s).channels := by
  unfold turretRises; dsimp only; (repeat' split) <;> simp -implicitDefEqProofs [h]
@[simp] theorem consistent_turretTimesOut : ChannelsConsistent (turretTimesOut s).channels := by
  unfold turretTimesOut; dsimp only; split <;> simp -implicitDefEqProofs [h]
@[simp] theorem consistent_acceptDebounced (l : DebouncedLine) (level : Bool) :
    ChannelsConsistent (acceptDebounced l level s).channels := by
  unfold acceptDebounced reportDebounced; dsimp only; split <;> simp -implicitDefEqProofs [h]
@[simp] theorem consistent_debouncedChanged (l : DebouncedLine) :
    ChannelsConsistent (debouncedChanged l s).channels := by
  unfold debouncedChanged debouncedEdge acceptHeldDebounced; dsimp only; (repeat' split) <;> simp -implicitDefEqProofs [h]
@[simp] theorem consistent_sensorChanged (l : SensorLine) : ChannelsConsistent (sensorChanged l s).channels := by
  unfold sensorChanged; (repeat' split) <;> simp -implicitDefEqProofs [h]
@[simp] theorem consistent_acceptUndebounced (l : DebouncedLine) :
    ChannelsConsistent (acceptUndebounced l s).channels := by
  unfold acceptUndebounced; split <;> simp -implicitDefEqProofs [h]
@[simp] theorem consistent_writeInversion (v : Byte) : ChannelsConsistent (writeInversion v s).channels := by
  have written : ChannelsConsistent (acceptWrite v s).channels := by simp -implicitDefEqProofs [h]
  exact consistent_foldl (consistent_foldl written (fun u l hu => by simp -implicitDefEqProofs [hu]) _)
    (fun u l hu => consistent_sensorChanged hu l) _
@[simp] theorem consistent_writeDebounce (v : Byte) : ChannelsConsistent (writeDebounce v s).channels := by
  have written : ChannelsConsistent (acceptWrite v s).channels := by simp -implicitDefEqProofs [h]
  exact consistent_acceptUndebounced (consistent_acceptUndebounced (consistent_acceptUndebounced written _) _) _

/-! ### The Proof Generator -/

@[simp] theorem consistent_transfer : ChannelsConsistent (transfer s).channels := by
  unfold transfer sendTransfer; dsimp only; (repeat' split) <;> simp -implicitDefEqProofs [strobe, bandEnd, setBuffer, h]
@[simp] theorem consistent_takeLoadCells (ch : ChannelId) (b : Block) :
    ChannelsConsistent (takeLoadCells ch b s).channels := by
  unfold takeLoadCells; (repeat' split) <;> simp -implicitDefEqProofs [replaceCells, h]

/-! ### The Composition Engine and the galleys -/

@[simp] theorem consistent_commit (g : GalleyId) (e : LineEnd) : ChannelsConsistent (commit g e s).channels := by
  unfold commit; split <;> simp -implicitDefEqProofs [engineIdle, putLine, h]
@[simp] theorem consistent_settle (g : GalleyId) : ChannelsConsistent (settle g s).channels := by
  unfold settle; dsimp only; (repeat' split) <;> simp -implicitDefEqProofs [presentLookup, breakSearch, h]
@[simp] theorem consistent_serveTexts (g : GalleyId) (ts : List WaitingText) :
    ChannelsConsistent (serveTexts g ts s).channels := by
  induction ts generalizing s with
  | nil => exact h
  | cons t ts ih =>
    unfold serveTexts
    split
    · exact ih (by simp -implicitDefEqProofs [h])
    · exact h
@[simp] theorem consistent_serveWaiting (g : GalleyId) : ChannelsConsistent (serveWaiting g s).channels :=
  consistent_serveTexts h g _
@[simp] theorem consistent_refuseWaiting (g : GalleyId) : ChannelsConsistent (refuseWaiting g s).channels :=
  consistent_foldl (s := s.modGalley g _) h (fun _ _ hu => consistent_finish hu ..) _
@[simp] theorem consistent_takeEndGalley (g : GalleyId) : ChannelsConsistent (takeEndGalley g s).channels := by
  unfold takeEndGalley galleyEnding; dsimp only; (repeat' split) <;> simp -implicitDefEqProofs [h]
@[simp] theorem consistent_takeFontSelect (g : GalleyId) (n : Nat) :
    ChannelsConsistent (takeFontSelect g n s).channels := by
  unfold takeFontSelect; dsimp only; (repeat' split) <;> simp -implicitDefEqProofs [raiseCurrent, h]
@[simp] theorem consistent_applyItem (g : GalleyId) (i : Item) : ChannelsConsistent (applyItem g i s).channels := by
  unfold applyItem; split <;> simp -implicitDefEqProofs [takeReverse, takeSpaces, h]
@[simp] theorem consistent_takeItem (g : GalleyId) (i : Item) (rest : List Byte) :
    ChannelsConsistent (takeItem g i rest s).channels := by simp -implicitDefEqProofs [takeItem, h]
@[simp] theorem consistent_takeOpenGalley (ch : ChannelId) (b : Block) :
    ChannelsConsistent (takeOpenGalley ch b s).channels := by
  unfold takeOpenGalley; (repeat' split) <;> simp -implicitDefEqProofs [joinQueues, raiseCurrent, h]
@[simp] theorem consistent_takeSetText (ch : ChannelId) (b : Block) :
    ChannelsConsistent (takeSetText ch b s).channels := by
  unfold takeSetText; (repeat' split) <;> simp -implicitDefEqProofs [h]
@[simp] theorem consistent_takeSetPriority (ch : ChannelId) (b : Block) :
    ChannelsConsistent (takeSetPriority ch b s).channels := by
  unfold takeSetPriority; (repeat' split) <;> simp -implicitDefEqProofs [h]
theorem consistent_cancelGalley (g : GalleyId) : ChannelsConsistent (cancelGalley g s).1.channels := by
  have refused : ChannelsConsistent
      (refuseWaiting g (s.modGalley g fun x => { x with state := .cancelling, buffer := [] })).channels :=
    consistent_refuseWaiting (s := s.modGalley g _) h g
  have emptied {u : State} (hu : ChannelsConsistent u.channels) : ChannelsConsistent (emptyBuilder g u).channels :=
    consistent_partialGone (s := u.modBuilder g _) hu _
  simp only [cancelGalley, leaveQueues, State.modStore_channels]
  refine consistent_discardLines ?_ _
  rw [channels_stopServing]
  exact emptied refused
@[simp] theorem consistent_closeAtOnce (g : GalleyId) : ChannelsConsistent (closeAtOnce g s).channels := by
  unfold closeAtOnce; split <;> simp -implicitDefEqProofs [h]
@[simp] theorem consistent_takeCancelGalley (ch : ChannelId) (b : Block) :
    ChannelsConsistent (takeCancelGalley ch b s).channels := by
  unfold takeCancelGalley
  split
  · simp -implicitDefEqProofs [h]
  · next g _ => split <;> simp -implicitDefEqProofs [consistent_cancelGalley h g, h]
@[simp] theorem consistent_takeQueryGalley (ch : ChannelId) (b : Block) :
    ChannelsConsistent (takeQueryGalley ch b s).channels := by
  unfold takeQueryGalley; split <;> simp -implicitDefEqProofs [h]
theorem consistent_galleysReset : ChannelsConsistent (galleysReset s).channels :=
  consistent_foldl h (fun u g hu => consistent_foldl (s := u.modGalley g _) hu
    (fun _ _ hv => consistent_completeUnstated hv ..) _) _

/-! ### The dictionary and the composition reset -/

theorem consistent_completeRequest (ch : ChannelId) (r : Request) (prot : Bool) (m : Vector Byte 96) :
    ChannelsConsistent (completeRequest ch r prot m s).channels := by
  unfold completeRequest
  split
  · unfold completeAddWords; (repeat' split) <;> simp -implicitDefEqProofs [h]
  · unfold completeAmendWord; (repeat' split) <;> simp -implicitDefEqProofs [h]
  · unfold completeDeleteWord; (repeat' split) <;> simp -implicitDefEqProofs [h]
  · unfold completeLookUpWord; dsimp only; (repeat' split) <;> simp -implicitDefEqProofs [h]
  · unfold completeRefusedPurge; split <;> simp -implicitDefEqProofs [h]
theorem consistent_deliverAnswer (core : List Nat) : ChannelsConsistent (deliverAnswer core s).channels := by
  unfold deliverAnswer; split <;> simp -implicitDefEqProofs [breakSearch, h]
theorem consistent_completeBucket (p : Purge) : ChannelsConsistent (completeBucket p s).channels := by
  unfold completeBucket; dsimp only; split <;> simp -implicitDefEqProofs [h]
@[simp] theorem consistent_completeOperation : ChannelsConsistent (completeOperation s).channels := by
  have idle : ChannelsConsistent (setRunning none s).channels := h
  unfold completeOperation
  split
  · exact h
  · split
    · exact consistent_deliverAnswer idle _
    · exact idle
  · exact consistent_completeRequest idle ..
  · split
    · exact consistent_completeBucket idle _
    · exact idle
/-- The resets after the records' and the galleys' leave the channels to the free move of the film. -/
@[simp] theorem consistent_compositionReset : ChannelsConsistent (compositionReset s).channels :=
by
  have records : ChannelsConsistent (catalogueReset (storeReset s)).channels :=
    consistent_catalogueReset (s := storeReset s) h
  have middle := consistent_galleysReset records
  rw [← middleReset_channels] at middle
  rw [compositionReset_eq, proofReset_exposureReset_channels]
  exact consistent_resetFreeMove middle

end Owners

end Sys2Proof.Machine
end

section
/-! PROOF. Every step keeps the channels consistent (O10): the walk of a chain (R165 to R170), the channel reset (R172), the
handover (R167), the reactions and the commands. -/

namespace Sys2Proof.Machine

theorem channelsConsistent_iff {s : State} :
    ChannelsConsistent s.channels ↔ ∀ ch, ChannelConsistent (s.channel ch) :=
  ⟨fun h ch => h.each ch, fun h => ⟨h⟩⟩

/-- A channel that does not wait has no request in flight. -/
theorem ChannelConsistent.inFlight_none {k : Channel} (h : ChannelConsistent k) (moves : k.state ≠ .waiting) :
    k.inFlight = none := by
  obtain ⟨waits, -⟩ := h
  simpa using mt waits.mpr moves

theorem not_waiting_of_not_running {k : Channel} (stands : k.running = false) : k.state ≠ .waiting := by
  intro waits
  simp [Channel.running, waits] at stands

theorem fetching_of_fetching {ch : ChannelId} {s : State} (on : s.fetching ch = true) :
    (s.channel ch).state = .fetching := by
  simp only [State.fetching, Bool.and_eq_true, beq_iff_eq] at on
  exact on.1

section Walk

variable {s : State} {ch : ChannelId} (h : ChannelsConsistent s.channels)
include h

/-! ### The walk of a chain -/

/-- The channel goes to a state without requests, when none is in flight. -/
theorem consistent_moved (moves : (s.channel ch).state ≠ .waiting) {f : Channel → Channel} {st : ChannelState}
    (still : st ≠ .waiting ∧ st ≠ .posting) (state : (f (s.channel ch)).state = st)
    (kept : (f (s.channel ch)).inFlight = (s.channel ch).inFlight) (cleared : (f (s.channel ch)).posting = none) :
    ChannelsConsistent (s.modChannel ch f).channels := by
  have flight : (s.channel ch).inFlight = none := (h.each ch).inFlight_none moves
  refine h.modChannel ch ?_
  simp [ChannelConsistent, state, kept, cleared, still, flight]

theorem consistent_terminate (moves : (s.channel ch).state ≠ .waiting) (code : BitVec 3) :
    ChannelsConsistent (terminate ch code s).channels := by
  rw [terminate, State.raise_channels]
  exact consistent_moved h moves (st := .terminated) (by decide) rfl rfl rfl

theorem consistent_toFetching (moves : (s.channel ch).state ≠ .waiting) :
    ChannelsConsistent
      (s.modChannel ch fun k => { k with state := .fetching, blockRead := none, posting := none }).channels :=
  consistent_moved h moves (st := .fetching) (by decide) rfl rfl rfl

/-- An update that touches neither the state nor the requests of a channel. -/
theorem consistent_sameRequests {f : Channel → Channel} (state : (f (s.channel ch)).state = (s.channel ch).state)
    (flight : (f (s.channel ch)).inFlight = (s.channel ch).inFlight)
    (posting : (f (s.channel ch)).posting = (s.channel ch).posting) :
    ChannelsConsistent (s.modChannel ch f).channels := by
  refine h.modChannel ch ?_
  rw [ChannelConsistent, state, flight, posting]
  exact h.each ch

theorem consistent_chainNext (moves : (s.channel ch).state ≠ .waiting) (b : Block) :
    ChannelsConsistent (chainNext ch b s).channels := by
  unfold chainNext
  (repeat' split)
  · exact consistent_terminate h moves _
  · exact consistent_terminate h moves _
  · exact consistent_terminate h moves _
  · exact consistent_toFetching h moves

theorem consistent_postingEnds (p : Posting) (posts : (s.channel ch).state = .posting) (fault : Option Nat) :
    ChannelsConsistent (postingEnds ch p fault s).channels := by
  have recorded (bytes : List (Word × Byte)) : ChannelsConsistent (recordPosting ch p bytes s).channels :=
    consistent_sameRequests h rfl rfl rfl
  have moves (bytes : List (Word × Byte)) : ((recordPosting ch p bytes s).channel ch).state ≠ .waiting := by
    simp [recordPosting, posts]
  unfold postingEnds
  dsimp only
  (repeat' split)
  · exact consistent_terminate (recorded _) (moves _) _
  · exact consistent_chainNext (s := (recordPosting ch p p.writes s).raise _) (recorded _) (moves _) _
  · exact consistent_chainNext (recorded _) (moves _) _

theorem consistent_startChannel (stands : (s.channel ch).running = false) (stopBit : Bool) :
    ChannelsConsistent (startChannel ch stopBit s).channels := by
  have marked : ChannelsConsistent (s.modChannel ch fun k => { k with stop := stopBit }).channels :=
    consistent_sameRequests h rfl rfl rfl
  have moves : ((s.modChannel ch fun k => { k with stop := stopBit }).channel ch).state ≠ .waiting := by
    simp [not_waiting_of_not_running stands]
  unfold startChannel
  dsimp only
  (repeat' split)
  · exact consistent_terminate marked moves _
  · exact consistent_terminate marked moves _
  · exact consistent_toFetching marked moves

theorem consistent_stopChannel : ChannelsConsistent (stopChannel ch s).channels := by
  unfold stopChannel
  split
  · next fetches => exact consistent_terminate h (by simp [fetches]) _
  · exact consistent_sameRequests h rfl rfl rfl

/-! ### The channel reset (R172) -/

theorem consistent_resetChannel : ChannelsConsistent (resetChannel ch s).channels := by
  have detached : ChannelsConsistent (detach ch s).channels := by
    unfold detach
    (repeat' split)
    · exact h
    · exact h
    · exact consistent_sameRequests h rfl rfl rfl
  have abandoned : ChannelsConsistent (abandonPosting ch (detach ch s)).channels := by
    unfold abandonPosting
    split
    · rw [State.bumpFree_channels]
      exact consistent_sameRequests detached rfl rfl rfl
    · exact detached
  exact abandoned.modChannel ch (by simp [ChannelConsistent])

/-! ### The handover (R167) -/

theorem consistent_ownerTakes (r : Request) : ChannelsConsistent (ownerTakes ch r s).channels := by
  unfold ownerTakes
  split <;> simp -implicitDefEqProofs [takeQueryExposure, takeQueryPhoto, takeQueryProof, h]

theorem consistent_handOver (r : Request) : ChannelsConsistent (handOver ch r s).channels :=
  consistent_ownerTakes (h.modChannel ch (by simp [ChannelConsistent])) r

theorem consistent_requestArrives (fetches : (s.channel ch).state = .fetching) (r : Request) :
    ChannelsConsistent (requestArrives ch r s).channels := by
  unfold requestArrives blockArrives
  (repeat' split)
  · exact consistent_sameRequests h rfl rfl rfl
  · exact consistent_handOver h r
  · exact consistent_terminate h (by simp [fetches]) _

theorem consistent_fetchArrives (fetches : (s.channel ch).state = .fetching) (f : Fetched) :
    ChannelsConsistent (fetchArrives ch f s).channels := by
  have ended (code : BitVec 3) := consistent_terminate h (ch := ch) (by simp [fetches]) code
  unfold fetchArrives
  (repeat' split)
  · exact ended _
  · exact consistent_requestArrives h fetches _
  · exact ended _

theorem consistent_tryHandOver {t : State} (e : tryHandOver ch s = some t) : ChannelsConsistent t.channels := by
  unfold tryHandOver at e
  dsimp only at e
  split at e
  · obtain ⟨r, -, rfl⟩ := Option.map_eq_some_iff.1 e
    exact consistent_handOver h r
  · cases e

/-! ### The reactions -/

omit ch in
theorem consistent_tryClose {t : State} (e : tryClose s = some t) : ChannelsConsistent t.channels := by
  obtain ⟨g, -, rfl⟩ := Option.map_eq_some_iff.1 e
  exact consistent_closeGalley h g

omit ch in
theorem consistent_tryTakeLine {t : State} (e : tryTakeLine s = some t) : ChannelsConsistent t.channels := by
  unfold tryTakeLine at e
  split at e
  · obtain ⟨i, -, e⟩ := Option.bind_eq_some_iff.1 e
    obtain ⟨r, -, rfl⟩ := Option.map_eq_some_iff.1 e
    exact consistent_takeLine h i r
  · cases e

omit ch in
theorem consistent_reactOnce {t : State} (e : reactOnce s = some t) : ChannelsConsistent t.channels := by
  rcases reactOnce_cases e with e | e | e | e | e | e | e | e | e | e | e | e
  · exact consistent_tryClose h e
  · exact channels_tryAssign e ▸ h
  · exact channels_tryFilmEnd e ▸ h
  · exact channels_tryPaperEnd e ▸ h
  · exact consistent_tryTakeLine h e
  · exact channels_tryStartBand e ▸ h
  · exact channels_tryTakeProofLine e ▸ h
  · exact channels_tryEndService e ▸ h
  · exact channels_tryArbitrate e ▸ h
  · exact channels_tryGrant e ▸ h
  · exact consistent_tryHandOver h e
  · exact consistent_tryHandOver h e

end Walk

/-! ### The events and the commands -/

section Events

variable {arises : Bool} {f : State → State} {s t : State} (h : ChannelsConsistent s.channels)
include h

theorem consistent_event (keep : arises = true → ChannelsConsistent (f s.fresh).channels)
    (e : event arises f s = .next t) : ChannelsConsistent t.channels := by
  cases arises with
  | false => cases e; exact h
  | true => cases e; exact keep rfl

theorem consistent_eventReact (keep : arises = true → ChannelsConsistent (f s.fresh).channels)
    (e : eventReact arises f s = .next t) : ChannelsConsistent t.channels :=
  consistent_event h (f := fun u => react (f u))
    (fun on => react_keeps (P := fun u => ChannelsConsistent u.channels) (fun _ _ hu => consistent_reactOnce hu)
      (keep on)) e

/-- An event that leaves the channels alone. -/
theorem consistent_quietEvent (keep : ∀ u, (f u).channels = u.channels) (e : event arises f s = .next t) :
    ChannelsConsistent t.channels :=
  consistent_event h (fun _ => (keep s.fresh).symm ▸ h) e

/-- An event in which requests complete. -/
theorem consistent_ownerEvent (keep : ∀ u, ChannelsConsistent u.channels → ChannelsConsistent (f u).channels)
    (e : eventReact arises f s = .next t) : ChannelsConsistent t.channels :=
  consistent_eventReact h (fun _ => keep s.fresh h) e

theorem consistent_requestEvent {code : Byte} {ch : ChannelId} {b : Block} (e : requestEvent code ch b s = .next t) :
    ChannelsConsistent t.channels :=
  consistent_eventReact h (fun on => consistent_requestArrives (s := s.fresh) h (fetching_of_fetching on) _) e

end Events

/-- Each command keeps the channels consistent. -/
theorem consistent_exec (i : Instr) {s t : State} (h : ChannelsConsistent s.channels) (e : exec i s = .next t) :
    ChannelsConsistent t.channels := by
  cases i
  case powerOnReset =>
    cases e
    refine ⟨fun ch => ?_⟩
    rw [show vget (State.powerOn _ _ _).channels ch = Channel.powerOn from vget_replicate _ ch]
    simp [ChannelConsistent, Channel.powerOn]
  case start ch stopBit =>
    simp only [exec, execStart] at e
    refine consistent_event h (fun _ => ?_) e
    split
    · exact consistent_stopChannel (s := s.fresh) h
    · next stands => exact consistent_startChannel (s := s.fresh) h (Bool.eq_false_iff.mpr stands) stopBit
  case stop => exact consistent_event h (fun _ => consistent_stopChannel (s := s.fresh) h) e
  case channelReset => exact consistent_event h (fun _ => consistent_resetChannel (s := s.fresh) h) e
  case chainRegisterWrite =>
    exact consistent_event h (fun _ => consistent_sameRequests (s := s.fresh) h rfl rfl rfl) e
  case terminationStatusRead =>
    simp only [exec, execTerminationStatusRead] at e
    refine consistent_event h (fun _ => ?_) e
    exact consistent_sameRequests (s := { s.fresh with readData := _ }) h rfl rfl rfl
  case detachedMarkClear =>
    exact consistent_eventReact h (fun _ => consistent_sameRequests (s := s.fresh) h rfl rfl rfl) e
  case postingComplete ch fault =>
    simp only [exec, execPostingComplete] at e
    split at e
    · next p posts =>
      unfold State.postingOf at posts
      split at posts
      · next state => exact consistent_event h (fun _ => consistent_postingEnds (s := s.fresh) h p state fault) e
      · cases posts
    · cases e; exact h
  case fetchComplete ch f =>
    simp only [exec, execFetchComplete] at e
    exact consistent_eventReact h
      (fun on => consistent_fetchArrives (s := s.fresh) h (fetching_of_fetching on) f) e
  case loadFont | amendFont | placeFont | retireFont | queryFont | openGalley | setText | setPriority | cancelGalley |
      queryGalley | addWords | amendWord | deleteWord | lookUpWord | purgeDesk | verifyStations | queryPhotoUnit |
      loadCassette | resumeExposure | advanceFilm | cutFilm | queryExposure | loadProofCells | queryProof =>
    exact consistent_requestEvent h e
  case takeItem =>
    simp only [exec, execTakeItem] at e
    split at e
    · exact consistent_ownerEvent h (fun _ hu => consistent_takeItem hu ..) e
    · cases e; exact h
  case settleWord =>
    simp only [exec, execSettleWord] at e
    split at e
    · exact consistent_ownerEvent h (fun _ hu => consistent_settle hu _) e
    · cases e; exact h
  case configWrite v =>
    simp only [exec, execConfigWrite] at e
    split at e
    · exact consistent_ownerEvent h (fun _ hu => consistent_compositionReset hu) e
    · exact consistent_quietEvent h (channels_acceptWrite v) e
  case compositionReset | lookupAnswer | dictionaryOperationComplete | flashDelayExpiry | flashComplete | turretArrival |
      turretTimeout | filmStep | cutComplete | cutTimeout | portTransfer | sensorInversionWrite | debounceEnableWrite |
      sensorLevelChange =>
    simp only [exec, execCompositionReset, execLookupAnswer, execDictionaryOperationComplete, execFlashDelayExpiry,
      execFlashComplete, execTurretArrival, execTurretTimeout, execFilmStep, execCutComplete, execCutTimeout,
      execPortTransfer, execSensorInversionWrite, execDebounceEnableWrite, execSensorLevelChange] at e
    exact consistent_ownerEvent h (fun u hu => by simp -implicitDefEqProofs [turretArrival, hu]) e
  case lidClosedFall | cassettePresentFall | paperPresentFall | paperPresentRise | sensorChangeAccepted =>
    simp only [exec, execLidClosedFall, execCassettePresentFall, execPaperPresentFall, execPaperPresentRise,
      execSensorChangeAccepted, acceptanceEvent] at e
    exact consistent_ownerEvent h (fun u hu => consistent_acceptDebounced (s := u.setConditioned _ _) hu ..) e
  case attnWrite | attnEnWrite | sensorEventStatusRead | cfgIndexWrite | tNomLowWrite =>
    simp only [exec, execAttnWrite, execAttnEnWrite, execSensorEventStatusRead, execCfgIndexWrite,
      execTNomLowWrite] at e
    refine consistent_quietEvent h (fun _ => ?_) e
    rfl
  all_goals
    simp only [exec, execIndexPulse, execSlotPulse, execIndexTimeout, execTurretReadyFall, execLockWatchExpiry,
      execLensArrival, execLensReadyFall, execLensTimeout, execCarriageStep, execPrinterBusyChange,
      execCutterHomeFall, execEncoderLevelChange, execFalseLevelAccepted, execTNomHighWrite,
      execQuiescentConfigWrite, execStationMapWrite, execReadOnlyEntryWrite] at e
    exact consistent_quietEvent h (by simp) e

/-- Settles O10: a completion moves a request in flight into the posting, the handover puts one in flight, and every other
change of a channel's state comes when none is in flight. -/
theorem everyStepKeepsChannelsConsistent : Obligations.EveryStepKeepsChannelsConsistent := by
  intro s t h e
  rw [← channelsConsistent_iff] at h ⊢
  unfold step at e
  split at e
  · next c rest _ => exact consistent_exec c (s := { s with pending := rest }) h e
  · cases e
    rw [channels_tick]
    exact h

end Sys2Proof.Machine
end

section
/-! PROOF. Start and stop (O17). -/

namespace Sys2Proof.Machine

/-! ### Channels in turn -/

theorem State.modChannel_modChannel (s : State) (ch : ChannelId) (f g : Channel → Channel) :
    (s.modChannel ch f).modChannel ch g = s.modChannel ch fun k => g (f k) := by
  simp [State.modChannel, State.channel]

theorem terminate_eq_ended (ch : ChannelId) (code : BitVec 3) (s : State) : terminate ch code s = s.ended ch code := rfl

/-- A termination sets the state, the code and the stop pending mark whatever they were (R169). -/
theorem ended_marked (ch : ChannelId) (stopBit : Bool) (code : BitVec 3) (s : State) :
    (s.modChannel ch fun k => { k with stop := stopBit }).ended ch code = s.ended ch code := by
  rw [State.ended, State.modChannel_modChannel]
  rfl

theorem Channel.running_eq_false {k : Channel} : k.running = false ↔ k.state = .idle ∨ k.state = .terminated := by
  cases e : k.state <;> simp [Channel.running, e]

theorem Channel.running_of_fetching {k : Channel} (h : k.state = .fetching) : k.running = true := by
  simp [Channel.running, h]

theorem Channel.running_of_request {k : Channel} (h : k.state = .waiting ∨ k.state = .posting) : k.running = true := by
  rcases h with h | h <;> simp [Channel.running, h]

/-! ### Start (R165) -/

section Start

variable {s : State} {ch : ChannelId}

theorem exec_start_standing (stands : (s.channel ch).running = false) (stopBit : Bool) :
    exec (.start ch stopBit) s = .next (startChannel ch stopBit s.fresh) := by
  have stands' : (s.fresh.channel ch).running = false := stands
  simp only [exec, execStart, stands, Bool.not_false, Bool.or_true, event_true, stands', Bool.false_eq_true, if_false]

/-- An empty chain ends at once, also where the stop bit is written with the start bit. -/
theorem startChannel_empty (chain : (s.channel ch).chain = 0) (stopBit : Bool) :
    startChannel ch stopBit s = s.ended ch 1 := by
  rw [← ended_marked ch stopBit]
  refine if_pos ?_
  rw [State.channel_modChannel_self]
  exact chain

theorem startChannel_stopped (chain : (s.channel ch).chain ≠ 0) : startChannel ch true s = s.ended ch 3 := by
  rw [← ended_marked ch true]
  refine (if_neg ?_).trans (if_pos rfl)
  rw [State.channel_modChannel_self]
  exact chain

theorem startChannel_fetches (chain : (s.channel ch).chain ≠ 0) :
    startChannel ch false s =
      s.modChannel ch fun k => { k with state := .fetching, stop := false, blockRead := none, posting := none } := by
  refine ((if_neg ?_).trans (if_neg Bool.false_ne_true)).trans (State.modChannel_modChannel ..)
  rw [State.channel_modChannel_self]
  exact chain

/-! ### Stop (R170) -/

theorem exec_stop (s : State) (ch : ChannelId) :
    exec (.stop ch) s = event (s.channel ch).running (stopChannel ch) s := rfl

theorem exec_stop_running (runs : (s.channel ch).running = true) :
    exec (.stop ch) s = .next (stopChannel ch s.fresh) := by
  rw [exec_stop, runs, event_true]

theorem exec_stop_standing (stands : (s.channel ch).running = false) : exec (.stop ch) s = .next s := by
  rw [exec_stop, stands, event_false]

/-- The start bit written to a running channel is ignored, and the stop bit counts. -/
theorem exec_start_running (runs : (s.channel ch).running = true) :
    exec (.start ch false) s = .next s ∧ exec (.start ch true) s = exec (.stop ch) s := by
  have runs' : (s.fresh.channel ch).running = true := runs
  constructor
  · simp only [exec, execStart, runs, Bool.not_true, Bool.or_false, event_false]
  · rw [exec_stop_running runs]
    simp only [exec, execStart, Bool.true_or, event_true, runs', if_true]

theorem stopChannel_fetching (fetches : (s.channel ch).state = .fetching) : stopChannel ch s = s.ended ch 3 :=
  if_pos fetches

theorem stopChannel_marks (request : (s.channel ch).state = .waiting ∨ (s.channel ch).state = .posting) :
    stopChannel ch s = s.modChannel ch fun k => { k with stop := true } := by
  refine if_neg fun fetches => ?_
  rcases request with h | h <;> rw [h] at fetches <;> cases fetches

end Start

/-! ### The control register (R164) -/

theorem controlRead_start (s : State) (ch : ChannelId) :
    (s.controlRead ch).getLsbD 0 = (s.channel ch).running := by
  rw [State.controlRead]
  generalize s.channel ch = k
  cases e : k.state <;> cases k.stop <;> cases k.detached <;> simp [Channel.running, e, ChannelState.toNat, bitByte]

theorem controlRead_stop (s : State) (ch : ChannelId) : (s.controlRead ch).getLsbD 1 = (s.channel ch).stop := by
  rw [State.controlRead]
  generalize s.channel ch = k
  cases e : k.state <;> cases k.stop <;> cases k.detached <;> simp [Channel.running, e, ChannelState.toNat, bitByte]

/-- Settles O17: each write by the state of the channel and of its chain register. -/
theorem startAndStopGovernTheChain : Obligations.StartAndStopGovernTheChain := by
  intro s ch stopBit
  refine ⟨fun stands chain => ?_, fun stands chain both => ?_, fun stands chain alone => ?_, exec_start_running,
    exec_stop_standing, fun fetches => ?_, fun request => ?_, controlRead_start s ch, controlRead_stop s ch,
    Channel.running_eq_false⟩
  · rw [exec_start_standing stands, startChannel_empty (s := s.fresh) chain]
  · rw [both, exec_start_standing stands, startChannel_stopped (s := s.fresh) chain]
  · rw [alone, exec_start_standing stands, startChannel_fetches (s := s.fresh) chain]
  · rw [exec_stop_running (Channel.running_of_fetching fetches), stopChannel_fetching (s := s.fresh) fetches]
  · rw [exec_stop_running (Channel.running_of_request request), stopChannel_marks (s := s.fresh) request]

end Sys2Proof.Machine
end

section
/-! PROOF. The channel reset (O18) and the registers of a channel (O19). -/

namespace Sys2Proof.Machine

/-! ### The channel reset (R172) -/

theorem State.modChannel_of_eq {s : State} {ch : ChannelId} {f : Channel → Channel}
    (h : f (s.channel ch) = s.channel ch) : s.modChannel ch f = s := by
  rw [State.modChannel, h, State.channel, vset_vget_self]

/-- The detached mark and the requests presented to the dictionary after a channel reset. -/
structure Detachment (ch : ChannelId) (s : State) (mark : Bool) (presented : Vector (Option Request) 2) : Prop where
  idle : (s.channel ch).inFlight = none → mark = (s.channel ch).detached ∧ presented = s.dict.presented
  taken : (s.channel ch).inFlight.isSome → vget s.dict.presented ch = none →
    mark = true ∧ presented = s.dict.presented
  withdrawn : (s.channel ch).inFlight.isSome → (vget s.dict.presented ch).isSome →
    mark = (s.channel ch).detached ∧ presented = vset s.dict.presented ch none

/-- A detachment touches the detached mark and the requests presented to the dictionary only. -/
theorem detach_only (ch : ChannelId) (s : State) : ∃ mark presented, Detachment ch s mark presented ∧
    detach ch s =
      (s.modDict fun d => { d with presented := presented }).modChannel ch fun k => { k with detached := mark } := by
  unfold detach
  split
  next none_ =>
    exact ⟨_, _, ⟨fun _ => ⟨rfl, rfl⟩, by simp [none_], by simp [none_]⟩, (State.modChannel_of_eq rfl).symm⟩
  next r some_ =>
    split
    next waits =>
      have waiting : vget s.dict.presented ch ≠ none := Option.isSome_iff_ne_none.1 waits
      exact ⟨_, _, ⟨by simp [some_], fun _ taken => absurd taken waiting, fun _ _ => ⟨rfl, rfl⟩⟩,
        (State.modChannel_of_eq rfl).symm⟩
    next taken =>
      exact ⟨true, _, ⟨by simp [some_], fun _ _ => ⟨rfl, rfl⟩, fun _ waits => absurd waits taken⟩, rfl⟩

/-- An abandoned posting leaves a free value of bytes written, and a channel that is not posting stands. -/
theorem abandonPosting_only (ch : ChannelId) (s : State) : ∃ written free,
    ((s.channel ch).state ≠ .posting → written = (s.channel ch).written) ∧
    abandonPosting ch s = { s with free := free }.modChannel ch fun k => { k with written := written } := by
  unfold abandonPosting
  split
  next p posts =>
    refine ⟨p.writes.take (Config.writesBeforeAbandon s.free), s.free + 1, fun other => ?_, rfl⟩
    rw [State.postingOf, if_neg other] at posts
    cases posts
  next => exact ⟨_, s.free, fun _ => rfl, (State.modChannel_of_eq rfl).symm⟩

/-- A channel right after its reset. -/
def Channel.afterReset (k : Channel) (mark : Bool) (written : List (Word × Byte)) : Channel :=
  { k with
    state := .idle, chain := 0, term := 0, stop := false, inFlight := none, blockRead := none, posting := none,
    detached := mark, written := written }

/-- A channel reset changes its channel, the requests presented to the dictionary and the counter of free values. -/
theorem resetChannel_only (ch : ChannelId) (s : State) : ∃ mark presented written free,
    Detachment ch s mark presented ∧ ((s.channel ch).state ≠ .posting → written = (s.channel ch).written) ∧
    resetChannel ch s =
      { s with free := free, dict := { s.dict with presented := presented } }.modChannel ch
        fun k => k.afterReset mark written := by
  obtain ⟨mark, presented, detachment, detached⟩ := detach_only ch s
  obtain ⟨written, free, keeps, abandoned⟩ := abandonPosting_only ch (detach ch s)
  refine ⟨mark, presented, written, free, detachment, ?_, ?_⟩
  · rw [detached, State.channel_modChannel_self] at keeps
    exact keeps
  · rw [resetChannel, abandoned, State.modChannel_modChannel, detached]
    simp [State.modChannel, State.channel, State.modDict, Channel.afterReset]

theorem exec_channelReset (ch : ChannelId) (s : State) : exec (.channelReset ch) s = .next (resetChannel ch s.fresh) := rfl

/-- Settles O18: what a channel reset leaves, and the three cases of its request in flight. -/
theorem channelResetLeavesTheChannelIdle : Obligations.ChannelResetLeavesTheChannelIdle := by
  intro s ch
  obtain ⟨mark, presented, written, free, detachment, keeps, reset⟩ := resetChannel_only ch s.fresh
  refine ⟨_, exec_channelReset ch s, ?_⟩
  rw [reset, State.channel_modChannel_self]
  refine ⟨rfl, rfl, rfl, rfl, rfl, rfl, rfl, fun idle => ?_, fun request taken => ?_, fun request waits => ?_, keeps,
    fun c other => ?_, rfl, rfl, rfl, rfl, rfl, rfl, rfl, rfl, rfl, rfl, rfl, rfl, rfl, rfl⟩
  · obtain ⟨rfl, rfl⟩ := detachment.idle idle
    exact ⟨rfl, rfl⟩
  · obtain ⟨rfl, rfl⟩ := detachment.taken request taken
    exact ⟨rfl, rfl⟩
  · obtain ⟨rfl, rfl⟩ := detachment.withdrawn request waits
    exact ⟨rfl, rfl⟩
  · rw [State.channel_modChannel_ne _ _ other.symm]
    rfl

/-! ### The registers (R164, R171) -/

/-- Settles O19: the events of the registers, each where it arises and where it does not. -/
theorem channelRegistersAreReadAndWritten : Obligations.ChannelRegistersAreReadAndWritten := by
  intro s ch
  refine ⟨fun v stands => ?_, fun v runs => ?_, ⟨_, rfl, rfl, rfl⟩, exec_detachedMarkClear⟩
  · simp only [exec, execChainRegisterWrite, stands, Bool.not_false, event_true]
    rfl
  · simp only [exec, execChainRegisterWrite, runs, Bool.not_true, event_false]

end Sys2Proof.Machine
end

section
/-! PROOF. The attention flags and the interrupt line (O23). -/

namespace Sys2Proof.Machine

/-! ### The flags -/

/-- The flag of a bit of ATTN; a bit that is not defined has a flag here too, which nothing asks for. -/
def Attn.ofBit : Nat → Attn
  | 2 => .expHold
  | 3 => .proofHold
  | 4 => .filmLow
  | 5 => .sensor
  | 6 => .configReject
  | n => if n < 2 then .channel (Fin.ofNat 2 n) else .galleyClosed (Fin.ofNat 8 n)

theorem Attn.ofBit_bit : ∀ f : Attn, Attn.ofBit f.bit = f
  | .channel ch => by revert ch; decide
  | .galleyClosed g => by revert g; decide
  | .expHold | .proofHold | .filmLow | .sensor | .configReject => rfl

/-- Each flag has a bit of its own. -/
theorem Attn.bit_injective : Function.Injective Attn.bit := Function.LeftInverse.injective Attn.ofBit_bit

theorem raise_raise (f : Attn) (s : State) : (s.raise f).raise f = s.raise f := by
  simp only [State.raise, BitVec.or_assoc, BitVec.or_self]

/-! ### The registers -/

theorem exec_attnWrite (v : Word) (s : State) :
    exec (.attnWrite v) s = .next { s.fresh with attn := s.attn &&& ~~~(v.setWidth 16) } := rfl

theorem exec_attnEnWrite (v : Word) (s : State) :
    exec (.attnEnWrite v) s = .next { s.fresh with attnEn := v.setWidth 16 &&& 0xFF7F#16 } := rfl

theorem getLsbD_clearWritten (x : BitVec 16) (v : Word) {i : Nat} (small : i < 16) :
    (x &&& ~~~(v.setWidth 16)).getLsbD i = (x.getLsbD i && !v.getLsbD i) := by
  simp [small]

/-- The interrupt line is asserted while a flag and its enable are both set. -/
theorem interruptLine_iff (s : State) :
    s.interruptLine = true ↔ ∃ i, s.attn.getLsbD i = true ∧ s.attnEn.getLsbD i = true := by
  rw [State.interruptLine, bne_iff_ne]
  constructor
  · intro asserted
    by_contra none_
    refine asserted (BitVec.eq_of_getLsbD_eq fun i _ => ?_)
    rw [BitVec.getLsbD_and, BitVec.getLsbD_zero, Bool.and_eq_false_iff]
    by_contra both
    simp only [not_or, Bool.not_eq_false] at both
    exact none_ ⟨i, both⟩
  · rintro ⟨i, flag, enable⟩ zero
    have bit := congrArg (·.getLsbD i) zero
    simp only [BitVec.getLsbD_and, flag, enable, BitVec.getLsbD_zero, Bool.and_self, Bool.true_eq_false] at bit

/-! ### The resets -/

theorem compositionReset_attn (s : State) :
    (compositionReset s).attn = s.attn ∧ (compositionReset s).attnEn = s.attnEn := by
  obtain ⟨x, f, only⟩ := compositionReset_only s
  rw [only]
  exact ⟨rfl, rfl⟩

theorem resetChannel_attn (ch : ChannelId) (s : State) :
    (resetChannel ch s).attn = s.attn ∧ (resetChannel ch s).attnEn = s.attnEn := by
  obtain ⟨mark, presented, written, free, -, -, reset⟩ := resetChannel_only ch s
  rw [reset]
  exact ⟨rfl, rfl⟩

/-- Settles O23: the flags by their bits, the writes by the bits written, the resets by what they change. -/
theorem attentionFlagsAndInterruptLine : Obligations.AttentionFlagsAndInterruptLine := by
  refine ⟨fun s f => ⟨raised_raise_self f s, raise_raise f s, rfl, fun g other => ?_⟩, fun s v => ?_,
    fun s v => exec_attnEnWrite v s, interruptLine_iff, ⟨rfl, rfl, rfl⟩, compositionReset_attn, fun s t ch reset => ?_⟩
  · exact raised_raise_ne (fun same => other (Attn.bit_injective same)) s
  · exact ⟨_, exec_attnWrite v s, rfl, fun i small => getLsbD_clearWritten s.attn v small⟩
  · rw [exec_channelReset] at reset
    cases reset
    exact resetChannel_attn ch s.fresh

end Sys2Proof.Machine
end

section
/-! PROOF. The end of a posting: what follows (O21) and what it writes (O22). -/

namespace Sys2Proof.Machine

/-! ### Terminations (R169) -/

section Termination

variable (s : State) (ch : ChannelId) (code : BitVec 3)

theorem terminate_channel : (terminate ch code s).channel ch =
    { s.channel ch with state := .terminated, term := code, stop := false, blockRead := none, posting := none } := by
  simp [terminate, State.channel]

theorem terminate_raised : (terminate ch code s).raised (.channel ch) = true := raised_raise_self ..

theorem terminate_running : ((terminate ch code s).channel ch).running = false := by
  rw [terminate_channel, Channel.running]

end Termination

/-! ### What follows a block (R169) -/

section Next

variable {b : Block} (s : State) (ch : ChannelId)

theorem chainNext_stopAfter (after : stopAfterFlag b = true) : chainNext ch b s = terminate ch 2 s := if_pos after

theorem chainNext_end (after : stopAfterFlag b = false) (last : blockAddress b.link = 0) :
    chainNext ch b s = terminate ch 1 s := by
  rw [chainNext, after, if_neg Bool.false_ne_true, if_pos last]
  rfl

theorem chainNext_stopped (after : stopAfterFlag b = false) (more : blockAddress b.link ≠ 0)
    (stops : (s.channel ch).stop = true) : chainNext ch b s = terminate ch 3 s := by
  rw [chainNext, after, if_neg Bool.false_ne_true, if_neg more, if_pos stops]
  rfl

theorem chainNext_fetches (after : stopAfterFlag b = false) (more : blockAddress b.link ≠ 0)
    (runs : (s.channel ch).stop = false) : chainNext ch b s =
      s.modChannel ch fun k => { k with state := .fetching, blockRead := none, posting := none } := by
  rw [chainNext, after, runs, if_neg Bool.false_ne_true, if_neg more, if_neg Bool.false_ne_true]

/-- The posting of the channel is over: the chain register and the bytes written stand, and a raised attention stays. -/
structure PostingOver (ch : ChannelId) (s t : State) : Prop where
  chain : (t.channel ch).chain = (s.channel ch).chain
  written : (t.channel ch).written = (s.channel ch).written
  posting : (t.channel ch).posting = none
  raised : s.raised (.channel ch) = true → t.raised (.channel ch) = true

theorem postingOver_terminate (code : BitVec 3) : PostingOver ch s (terminate ch code s) where
  chain := congrArg (·.chain) (terminate_channel s ch code)
  written := congrArg (·.written) (terminate_channel s ch code)
  posting := congrArg (·.posting) (terminate_channel s ch code)
  raised _ := terminate_raised s ch code

theorem postingOver_fetches : PostingOver ch s
    (s.modChannel ch fun k => { k with state := .fetching, blockRead := none, posting := none }) := by
  constructor
  case raised => exact id
  all_goals rw [State.channel_modChannel_self]

theorem postingOver_chainNext (b : Block) : PostingOver ch s (chainNext ch b s) := by
  rw [chainNext]
  (repeat' split)
  · exact postingOver_terminate s ch 2
  · exact postingOver_terminate s ch 1
  · exact postingOver_terminate s ch 3
  · exact postingOver_fetches s ch

end Next

/-! ### The end of the posting (R168) -/

section Ends

variable {s : State} {ch : ChannelId} {p : Posting}

theorem exec_postingComplete (posts : s.postingOf ch = some p) (fault : Option Nat) :
    exec (.postingComplete ch fault) s =
      event (fault.all fun k => decide (k < p.writes.length)) (postingEnds ch p fault) s := by
  show execPostingComplete ch fault s = _
  rw [execPostingComplete, posts]

/-- The channel with its posting written and, where the block has SIGNAL set, its attention raised. -/
def postingWritten (ch : ChannelId) (p : Posting) (s : State) : State :=
  if signalFlag p.request.block then (recordPosting ch p p.writes s).raise (.channel ch)
  else recordPosting ch p p.writes s

theorem exec_postingComplete_none (posts : s.postingOf ch = some p) :
    exec (.postingComplete ch none) s = .next (chainNext ch p.request.block (postingWritten ch p s.fresh)) :=
  exec_postingComplete posts none

theorem exec_postingComplete_some (posts : s.postingOf ch = some p) {k : Nat} (fewer : k < p.writes.length) :
    exec (.postingComplete ch (some k)) s = .next ((recordPosting ch p (p.writes.take k) s.fresh).ended ch 5) := by
  rw [exec_postingComplete posts, Option.all_some, decide_eq_true fewer, event_true]
  rfl

theorem postingWritten_channel (s : State) (ch : ChannelId) (p : Posting) : (postingWritten ch p s).channel ch =
    { s.channel ch with written := p.writes, chain := blockAddress p.request.block.link } := by
  rw [postingWritten]
  split <;> simp [recordPosting, State.channel]

theorem postingWritten_raised (s : State) (ch : ChannelId) (p : Posting) (signal : signalFlag p.request.block = true) :
    (postingWritten ch p s).raised (.channel ch) = true := by
  rw [postingWritten, if_pos signal]
  exact raised_raise_self ..

end Ends

/-- Settles O21: the four ways on from a block, in the order in which they are asked. -/
theorem postingWithoutFaultDecidesWhatFollows : Obligations.PostingWithoutFaultDecidesWhatFollows := by
  constructor
  · intro s ch p posts
    have channel := postingWritten_channel s.fresh ch p
    have stop : ((postingWritten ch p s.fresh).channel ch).stop = (s.channel ch).stop := congrArg (·.stop) channel
    have chain := (postingOver_chainNext (postingWritten ch p s.fresh) ch p.request.block).chain
    refine ⟨_, exec_postingComplete_none posts, chain.trans (congrArg (·.chain) channel), fun after => ?_,
      fun after last => ?_, fun after more stops => ?_, fun after more runs => ?_⟩
    · exact ⟨_, chainNext_stopAfter _ ch after⟩
    · exact ⟨_, chainNext_end _ ch after last⟩
    · exact ⟨_, chainNext_stopped _ ch after more (stop.trans stops)⟩
    · rw [chainNext_fetches _ ch after more (stop.trans runs), State.channel_modChannel_self, channel]
      exact ⟨rfl, rfl, rfl⟩
  · intro s ch code
    have stands := terminate_running s ch code
    have channel := terminate_channel s ch code
    refine ⟨congrArg (·.state) channel, congrArg (·.term) channel, congrArg (·.stop) channel,
      terminate_raised s ch code, stands, ?_⟩
    rw [controlRead_start]
    exact stands

/-! ### The bytes written (R168) -/

theorem byteOf_toNat (d : Half) : byteOf d.toNat = d.setWidth 8 := rfl

theorem byteOf_toNat_high (d : Half) : byteOf (d.toNat / 256) = (d >>> 8).setWidth 8 := by
  apply BitVec.eq_of_toNat_eq
  simp [byteOf, Nat.shiftRight_eq_div_pow]

theorem replyWritten_length (p : Posting) :
    p.replyWritten.length = min p.reply.length p.request.block.replyCap.toNat := by
  rw [Posting.replyWritten, List.length_take, Nat.min_comm]

theorem replyWritten_eq (p : Posting) :
    p.replyWritten = p.reply.take (min p.reply.length p.request.block.replyCap.toNat) := by
  rw [Posting.replyWritten, Nat.min_comm, ← List.take_eq_take_min]

/-- The 8 bytes of the status, each by itself. -/
theorem status_eq (p : Posting) : p.status =
    [p.completion.code, p.request.code, p.detail.setWidth 8, (p.detail >>> 8).setWidth 8,
      byteOf p.replyWritten.length, byteOf (p.replyWritten.length / 256), byteOf p.reply.length,
      byteOf (p.reply.length / 256)] := by
  simp only [Posting.status, le16, byteOf_toNat, byteOf_toNat_high, List.cons_append, List.nil_append]

/-- Settles O22: the bytes are those of the statement, and they stay whatever follows the block. -/
theorem postingWritesTheReplyThenTheStatus : Obligations.PostingWritesTheReplyThenTheStatus := by
  intro s ch p posts n status all
  have writes : p.writes = all := by
    rw [Posting.writes, status_eq, replyWritten_length, replyWritten_eq]
    rfl
  refine ⟨⟨_, exec_postingComplete_none posts, ?_⟩, fun k fewer => ?_⟩
  · have ended := postingOver_chainNext (postingWritten ch p s.fresh) ch p.request.block
    refine ⟨?_, fun signal => ended.raised (postingWritten_raised _ ch p signal), ended.posting⟩
    rw [ended.written, postingWritten_channel, writes]
  · rw [exec_postingComplete_some posts (by rw [writes]; exact fewer), writes]
    rfl

end Sys2Proof.Machine
end

section
/-! PROOF. The end of a fetch (O20). -/

namespace Sys2Proof.Machine

/-! ### The header of a block (10.6) -/

section Header

variable (h : Vector Byte 20)

theorem getD_header {i : Nat} (lt : i < 20) : h.toList.getD i 0 = h[i] := by
  simp [List.getD, lt]

theorem u8_header {i : Nat} (lt : i < 20) : u8 h.toList i = h[i].toNat := by rw [u8, getD_header h lt]

theorem u16_header {i : Nat} (lt : i + 1 < 20) : u16 h.toList i = h[i].toNat + 256 * h[i + 1].toNat := by
  rw [u16, u8_header h lt, u8_header h (Nat.lt_of_succ_lt lt)]

theorem toNat_append_byte {n : Nat} (x : BitVec n) (b : Byte) : (x ++ b).toNat = x.toNat * 256 + b.toNat := by
  rw [BitVec.toNat_append, ← Nat.shiftLeft_add_eq_or_of_lt b.isLt, Nat.shiftLeft_eq]

/-- Two bytes of the header, the least significant first. -/
theorem half_header {i : Nat} (lt : i + 1 < 20) : BitVec.ofNat 16 (u16 h.toList i) = h[i + 1] ++ h[i] := by
  apply BitVec.eq_of_toNat_eq
  rw [u16_header h lt, toNat_append_byte, BitVec.toNat_ofNat]
  omega

/-- Four bytes of the header, the least significant first. -/
theorem word32_header {i : Nat} (lt : i + 3 < 20) : word32 h.toList i = h[i + 3] ++ h[i + 2] ++ h[i + 1] ++ h[i] := by
  have low : u16 h.toList i = h[i].toNat + 256 * h[i + 1].toNat := u16_header h (by omega)
  have high : u16 h.toList (i + 2) = h[i + 2].toNat + 256 * h[i + 3].toNat := u16_header h lt
  apply BitVec.eq_of_toNat_eq
  rw [word32, low, high, toNat_append_byte, toNat_append_byte, toNat_append_byte, BitVec.toNat_ofNat]
  omega

/-- A spare byte that is not 0 or a payload length over 1,024 (R166). -/
theorem parseBlock_malformed (p : List Byte) (malformed : h[19] ≠ 0 ∨ 1024 < h[14].toNat + 256 * h[15].toNat) :
    parseBlock h p = none := by
  refine if_pos ?_
  rw [u8_header h (by decide), u16_header h (by decide)]
  exact malformed.imp_left fun spare zero => spare (BitVec.eq_of_toNat_eq zero)

theorem parseBlock_wellFormed (p : List Byte) (spare : h[19] = 0) (fits : h[14].toNat + 256 * h[15].toNat ≤ 1024) :
    parseBlock h p = some
      { code := h[16]
        block :=
          { link := h[3] ++ h[2] ++ h[1] ++ h[0], statusAddr := h[7] ++ h[6] ++ h[5] ++ h[4],
            replyAddr := h[11] ++ h[10] ++ h[9] ++ h[8], replyCap := h[13] ++ h[12], flags := h[17], target := h[18],
            payload := p.take (h[14].toNat + 256 * h[15].toNat) } } := by
  have length : u16 h.toList 14 = h[14].toNat + 256 * h[15].toNat := u16_header h (by decide)
  have wellFormed : ¬ (u8 h.toList 19 ≠ 0 ∨ u16 h.toList 14 > 1024) := by
    rw [u8_header h (by decide), length, spare]
    exact not_or.2 ⟨fun bad => bad rfl, Nat.not_lt.2 fits⟩
  refine (if_neg wellFormed).trans ?_
  simp only [word32_header, half_header, getD_header, length, Nat.reduceAdd,
    Nat.reduceLT]

/-- The payload of a well-formed block is not above 1,024 bytes. -/
theorem parseBlock_fits {p : List Byte} {r : Request} (parsed : parseBlock h p = some r) :
    r.block.payload.length ≤ 1024 := by
  unfold parseBlock at parsed
  dsimp only at parsed
  split at parsed
  next => cases parsed
  next wellFormed =>
    cases parsed
    exact (List.length_take_le _ _).trans (Nat.not_lt.1 (not_or.1 wellFormed).2)

end Header

/-! ### The end of the fetch (R166) -/

section Fetch

variable {s : State} {ch : ChannelId}

/-- A fetching channel that has read no block. -/
def State.awaitsBlock (ch : ChannelId) (s : State) : Prop :=
  (s.channel ch).state = .fetching ∧ (s.channel ch).blockRead = none

theorem exec_fetchComplete (awaits : s.awaitsBlock ch) (f : Fetched) :
    exec (.fetchComplete ch f) s = .next (react (fetchArrives ch f s.fresh)) := by
  have fetching : s.fetching ch = true := by
    obtain ⟨state, noBlock⟩ := awaits
    simp [State.fetching, state, noBlock]
  show eventReact (s.fetching ch) _ s = _
  rw [fetching, eventReact_true]

/-- The end of the fetch of a well-formed block is the command of its request. -/
theorem exec_fetchComplete_parsed {h : Vector Byte 20} {p : List Byte} {r : Request}
    (parsed : parseBlock h p = some r) : exec (.fetchComplete ch (.block h p)) s = requestEvent r.code ch r.block s := by
  show eventReact (s.fetching ch) (fetchArrives ch (.block h p)) s = eventReact (s.fetching ch) (requestArrives ch r) s
  have arrives : fetchArrives ch (.block h p) = requestArrives ch r := by
    funext t
    simp only [fetchArrives, parsed]
  rw [arrives]

/-- A channel that hands nothing over before and after a change of its own wakes no reaction by it. -/
theorem settled_modChannel {f : Channel → Channel} (noBlock : (s.channel ch).blockRead = none)
    (hands : (tryHandOver ch (s.modChannel ch f)).isNone) : (s.modChannel ch f).settled = s.settled := by
  refine settled_congr (fun _ => rfl) rfl rfl rfl rfl rfl rfl rfl fun c => ?_
  by_cases same : c = ch
  · subst same
    rw [hands, tryHandOver_isNone (.inr noBlock)]
  · exact tryHandOver_congr (State.channel_modChannel_ne _ _ (Ne.symm same))

theorem settled_ended (noBlock : (s.channel ch).blockRead = none) (code : BitVec 3) :
    (s.ended ch code).settled = s.settled := by
  rw [State.ended, settled_raise]
  refine settled_modChannel noBlock (tryHandOver_isNone (.inr ?_))
  rw [State.channel_modChannel_self]

/-- A block that waits for the detached mark wakes no reaction (R166). -/
theorem settled_blockWaits (noBlock : (s.channel ch).blockRead = none) (detached : (s.channel ch).detached = true)
    (r : Request) : (s.modChannel ch fun k => { k with blockRead := some r }).settled = s.settled := by
  refine settled_modChannel noBlock ?_
  simp [tryHandOver, detached]

/-- A fetch that ends the chain. -/
theorem eventTo_fetchEnds (awaits : s.awaitsBlock ch) {f : Fetched} {code : BitVec 3}
    (ends : fetchArrives ch f s.fresh = s.fresh.ended ch code) :
    EventTo (exec (.fetchComplete ch f) s) s (s.fresh.ended ch code) := by
  refine eventTo_of_settled (by rw [exec_fetchComplete awaits, ends]) ?_
  rw [settled_ended (s := s.fresh) awaits.2, settled_fresh]

theorem fetchArrives_malformed {h : Vector Byte 20} {p : List Byte} (malformed : parseBlock h p = none) :
    fetchArrives ch (.block h p) s = s.ended ch 6 := by
  simp only [fetchArrives, malformed]
  rfl

theorem eventTo_blockWaits (awaits : s.awaitsBlock ch) (detached : (s.channel ch).detached = true) {h : Vector Byte 20}
    {p : List Byte} {r : Request} (parsed : parseBlock h p = some r) :
    EventTo (exec (.fetchComplete ch (.block h p)) s) s
      (s.fresh.modChannel ch fun k => { k with blockRead := some r }) := by
  have waits : requestArrives ch r s.fresh = s.fresh.modChannel ch fun k => { k with blockRead := some r } :=
    (if_pos (parseBlock_fits h parsed)).trans (if_pos detached)
  refine eventTo_of_settled ?_ ?_
  · rw [exec_fetchComplete awaits, ← waits]
    simp only [fetchArrives, parsed]
  · rw [settled_blockWaits (s := s.fresh) awaits.2 detached, settled_fresh]

/-! ### The codes that name no request -/

theorem ownerTakes_noOp {r : Request} (code : r.code = 0) (s : State) : ownerTakes ch r s = complete ch .done 0 [] s := by
  rw [ownerTakes, code]
  rfl

theorem ownerTakes_unknown {r : Request}
    (unknown : r.code.toNat ∉ [0, 0x10, 0x11, 0x12, 0x13, 0x14, 0x20, 0x21, 0x22, 0x23, 0x24, 0x30, 0x31, 0x32, 0x33,
      0x34, 0x40, 0x41, 0x42, 0x43, 0x44, 0x50, 0x51, 0x60, 0x61]) (s : State) :
    ownerTakes ch r s = complete ch .unknownRequest 0 [] s := by
  unfold ownerTakes
  generalize r.code.toNat = n at unknown
  split
  case h_26 => rfl
  all_goals exact absurd (by decide) unknown

/-- A block that completes at the channel (R167). -/
theorem eventTo_completes (ready : s.readyFor ch) {h : Vector Byte 20} {p : List Byte} {r : Request}
    (parsed : parseBlock h p = some r) {c : Completion}
    (taken : ∀ t, ownerTakes ch r t = complete ch c 0 [] t) :
    EventTo (exec (.fetchComplete ch (.block h p)) s) s (s.fresh.posts ch r c 0 []) := by
  rw [exec_fetchComplete_parsed parsed]
  exact request_completed_settled id ready (parseBlock_fits h parsed) (fun _ => rfl) (fun _ => rfl) (fun _ => rfl)
    fun t _ => taken t

end Fetch

/-- Settles O20: the header read byte by byte, and each way a fetch can end. -/
theorem fetchHandsOverOrTerminates : Obligations.FetchHandsOverOrTerminates := by
  intro s ch state noBlock
  have awaits : s.awaitsBlock ch := ⟨state, noBlock⟩
  refine ⟨eventTo_fetchEnds awaits rfl, fun h p malformed => ?_, fun h p r parsed => ⟨fun detached => ?_,
    fun clear noOp => ?_, fun clear unknown => ?_⟩, fun h p r parsed => ?_, fun h p spare fits => ?_⟩
  · exact eventTo_fetchEnds awaits (fetchArrives_malformed (parseBlock_malformed h p malformed))
  · exact eventTo_blockWaits awaits detached parsed
  · exact eventTo_completes ⟨state, noBlock, clear⟩ parsed (ownerTakes_noOp noOp)
  · exact eventTo_completes ⟨state, noBlock, clear⟩ parsed (ownerTakes_unknown unknown)
  · have hands {code : Byte} {owner : ChannelId → Block → Instr}
        (meaning : exec (owner ch r.block) s = requestEvent code ch r.block s) (is : r.code = code) :
        exec (.fetchComplete ch (.block h p)) s = exec (owner ch r.block) s := by
      rw [exec_fetchComplete_parsed parsed, is, meaning]
    intro handsTo
    refine ⟨?_, ?_, ?_, ?_, ?_, ?_, ?_, ?_, ?_, ?_, ?_, ?_, ?_, ?_, ?_, ?_, ?_, ?_, ?_, ?_, ?_, ?_, ?_, ?_⟩ <;>
      exact hands rfl
  · exact ⟨_, parseBlock_wellFormed h p spare fits, rfl, rfl, rfl, rfl, rfl, rfl, rfl, rfl⟩

end Sys2Proof.Machine
end

section
/-! SUPPORT. The configuration space (R175 to R178): which commands write it, and what each write leaves in it. -/

namespace Sys2Proof.Machine

/-! ### What an event and a run of operations keep -/

/-- What the effect of an event keeps, the event keeps. -/
theorem event_keeps {α : Type} (p : State → α) {arises : Bool} {f : State → State} {s t : State}
    (keep : p (f s.fresh) = p s) (e : event arises f s = .next t) : p t = p s := by
  cases arises with
  | false => cases e; rfl
  | true => cases e; exact keep

/-- A property that the steps of a run keep. -/
theorem foldl_keeps {α : Type} {P : State → Prop} {f : State → α → State} {L : List α}
    (keep : ∀ b ∈ L, ∀ u, P u → P (f u b)) {s : State} (init : P s) : P (L.foldl f s) :=
  List.foldlRecOn L f init fun u hu b hb => keep b hb u hu

theorem config_of_outside {s t : State} (h : t.outside = s.outside) : t.config = s.config := congrArg (·.1) h

@[simp] theorem config_react (s : State) : (react s).config = s.config := config_of_outside (outside_react s)

theorem config_event {arises : Bool} {f : State → State} {s t : State} (keep : ∀ u, (f u).config = u.config)
    (e : event arises f s = .next t) : t.config = s.config := event_keeps (·.config) (keep s.fresh) e

theorem config_eventReact {arises : Bool} {f : State → State} {s t : State} (keep : ∀ u, (f u).config = u.config)
    (e : eventReact arises f s = .next t) : t.config = s.config :=
  config_event (fun u => (config_react _).trans (keep u)) e

/-! ### Operations that change more than `State.outside` allows, but not the configuration space -/

@[simp] theorem config_finish (ch : ChannelId) (c : Completion) (n : Nat) (s : State) :
    (finish ch c n s).config = s.config := config_of_outside (outside_finish ..)

@[simp] theorem config_refuse (ch : ChannelId) (c : Completion) (s : State) : (refuse ch c s).config = s.config :=
  config_of_outside (outside_refuse ..)

@[simp] theorem config_setChains (c : Vector (List Entry) 512) (s : State) : (setChains c s).config = s.config := rfl

theorem config_completeRequest (ch : ChannelId) (r : Request) (prot : Bool) (m : Vector Byte 96) (s : State) :
    (completeRequest ch r prot m s).config = s.config := by
  unfold completeRequest
  split
  · unfold completeAddWords; (repeat' split) <;> simp
  · unfold completeAmendWord; (repeat' split) <;> simp
  · unfold completeDeleteWord; (repeat' split) <;> simp
  · exact config_of_outside (outside_completeLookUpWord ..)
  · exact config_of_outside (outside_completeRefusedPurge ..)

theorem config_completeOperation (s : State) : (completeOperation s).config = s.config := by
  unfold completeOperation
  split
  · rfl
  · split
    · exact config_of_outside (outside_deliverAnswer _ (setRunning none s))
    · rfl
  · exact config_completeRequest _ _ _ _ (setRunning none s)
  · split
    · unfold completeBucket; dsimp only; split <;> simp [setRunning]
    · rfl

theorem config_delayExpires (s : State) : (delayExpires s).config = s.config := by
  have fired : ∀ u : State, (fireFlash u).config = u.config := fun u => by
    unfold fireFlash
    dsimp only
    split
    · exact (config_of_outside (outside_flashReport (fireLamp u))).trans rfl
    · rfl
  unfold delayExpires
  dsimp only
  split
  · split
    · exact fired _
    · rfl
  · rfl

theorem config_postingEnds (ch : ChannelId) (p : Posting) (fault : Option Nat) (s : State) :
    (postingEnds ch p fault s).config = s.config := by
  unfold postingEnds
  split
  · exact (config_of_outside (outside_terminate ..)).trans rfl
  · refine (config_of_outside (outside_chainNext ..)).trans ?_
    split <;> rfl

theorem config_resetChannel (ch : ChannelId) (s : State) : (resetChannel ch s).config = s.config := by
  obtain ⟨mark, presented, written, free, -, -, reset⟩ := resetChannel_only ch s
  rw [reset]
  rfl

theorem config_compositionReset (s : State) : (compositionReset s).config = s.config :=
  config_of_outside (outside_compositionReset s)

theorem config_tick (s : State) : (tick s).config = s.config := by
  unfold tick
  split
  · exact config_of_outside (outside_advanceTime 1 s)
  · rfl

/-! ### The commands that write the configuration space -/

/-- The commands whose effect writes the index, an entry, the pending low byte or the last refusal. -/
def Instr.writesConfig : Instr → Bool
  | .powerOnReset | .cfgIndexWrite _ | .configWrite _ | .tNomLowWrite _ | .tNomHighWrite _ | .quiescentConfigWrite _
  | .stationMapWrite _ | .sensorInversionWrite _ | .debounceEnableWrite _ | .readOnlyEntryWrite _ => true
  | _ => false

/-- Every other command leaves the configuration space as it is. -/
theorem config_exec {c : Instr} {s t : State} (other : Instr.writesConfig c = false) (e : exec c s = .next t) :
    t.config = s.config := by
  cases c
  case powerOnReset | cfgIndexWrite | configWrite | tNomLowWrite | tNomHighWrite | quiescentConfigWrite |
      stationMapWrite | sensorInversionWrite | debounceEnableWrite | readOnlyEntryWrite => cases other
  case channelReset ch => exact config_event (config_resetChannel ch) e
  case lookupAnswer | dictionaryOperationComplete => exact config_eventReact config_completeOperation e
  case flashDelayExpiry => exact config_eventReact config_delayExpires e
  case chainRegisterWrite | attnWrite | attnEnWrite | terminationStatusRead | sensorEventStatusRead =>
    simp only [exec, execChainRegisterWrite, execAttnWrite, execAttnEnWrite, execTerminationStatusRead,
      execSensorEventStatusRead] at e
    refine config_event (fun _ => ?_) e
    rfl
  case postingComplete ch fault =>
    simp only [exec, execPostingComplete] at e
    split at e
    · exact config_event (config_postingEnds ch _ fault) e
    · cases e; rfl
  case takeItem =>
    simp only [exec, execTakeItem] at e
    split at e
    · exact config_eventReact (fun _ => config_of_outside (outside_takeItem ..)) e
    · cases e; rfl
  case settleWord =>
    simp only [exec, execSettleWord] at e
    split at e
    · exact config_eventReact (fun _ => config_of_outside (outside_settle ..)) e
    · cases e; rfl
  case start =>
    simp only [exec, execStart] at e
    refine config_event (fun u => config_of_outside ?_) e
    split <;> simp
  case loadFont | amendFont | placeFont | retireFont | queryFont | openGalley | setText | setPriority | cancelGalley |
      queryGalley | addWords | amendWord | deleteWord | lookUpWord | purgeDesk | verifyStations | queryPhotoUnit |
      loadCassette | resumeExposure | advanceFilm | cutFilm | queryExposure | loadProofCells | queryProof =>
    exact config_eventReact (fun _ => config_of_outside (outside_requestArrives ..)) e
  case lidClosedFall | cassettePresentFall | paperPresentFall | paperPresentRise | sensorChangeAccepted =>
    simp only [exec, execLidClosedFall, execCassettePresentFall, execPaperPresentFall, execPaperPresentRise,
      execSensorChangeAccepted, acceptanceEvent] at e
    exact config_eventReact (fun _ => config_of_outside (by simp [acceptance])) e
  case fetchComplete | compositionReset | flashComplete | turretArrival | turretTimeout | filmStep | cutComplete |
      cutTimeout | portTransfer | detachedMarkClear | sensorLevelChange =>
    simp only [exec, execFetchComplete, execCompositionReset, execFlashComplete, execTurretArrival, execTurretTimeout,
      execFilmStep, execCutComplete, execCutTimeout, execPortTransfer, execDetachedMarkClear,
      execSensorLevelChange] at e
    exact config_eventReact (fun _ => config_of_outside (by simp)) e
  all_goals
    simp only [exec, execIndexPulse, execSlotPulse, execIndexTimeout, execTurretReadyFall, execLockWatchExpiry,
      execLensArrival, execLensReadyFall, execLensTimeout, execCarriageStep, execPrinterBusyChange, execStop,
      execCutterHomeFall, execEncoderLevelChange, execFalseLevelAccepted] at e
    exact config_event (fun _ => config_of_outside (by simp)) e

/-! ### The writes of CFG_DATA (R176 to R178) -/

@[simp] theorem entries_storeEntry (i : Nat) (v : Byte) (s : State) (k : Fin 201) :
    vget (storeEntry i v s).config.entries k = if k.val = i then v else vget s.config.entries k := by
  simp [storeEntry, vget]

@[simp] theorem lastRefusal_storeEntry (i : Nat) (v : Byte) (s : State) :
    (storeEntry i v s).config.lastRefusal = s.config.lastRefusal := by
  simp only [storeEntry, State.modConfig_config]

theorem outside_foldl {α : Type} {f : State → α → State} (keep : ∀ s a, (f s a).outside = s.outside) (l : List α)
    (s : State) : (l.foldl f s).outside = s.outside :=
  foldl_keeps (P := fun u => u.outside = s.outside) (fun b _ u hu => (keep u b).trans hu) rfl

/-- What follows from a write to 13H or 14H writes no entry. -/
theorem config_writeInversion (v : Byte) (s : State) : (writeInversion v s).config = (acceptWrite v s).config := by
  refine config_of_outside ?_
  unfold writeInversion
  dsimp only
  rw [outside_foldl fun _ _ => outside_sensorChanged _ _, outside_foldl fun _ _ => outside_encoderChanged _ _]

/-- Nor does what follows from one to 15H. -/
theorem config_writeDebounce (v : Byte) (s : State) : (writeDebounce v s).config = (acceptWrite v s).config :=
  config_of_outside (by simp [writeDebounce])

/-- A station map write stores the map, or refuses. -/
theorem config_writeStationMap (v : Byte) (s : State) :
    (writeStationMap v s).config =
      if s.quiescent && isPermutation v then (storeEntry 0x12 v s).config else (refuseWrite 3 s).config := by
  unfold writeStationMap
  split
  · exact config_of_outside (outside_unverifyAll _)
  · rfl

end Sys2Proof.Machine
end

section
/-! PROOF. The invariant of the configuration space (O5). -/

namespace Sys2Proof.Machine

/-! ### The values of one entry -/

/-- A value that a write may leave in an entry: no undefined bit set, and within the entry's own bounds (R176, R178). -/
def EntryFits (i : Nat) (v : Byte) : Prop :=
  v &&& ~~~definedBits i = 0 ∧ (i = 0x11 → v.toNat ≤ 95) ∧ (i = 0x12 → isPermutation v = true) ∧
  (0x20 ≤ i → i ≤ 0x7F → v.toNat ≤ 40)

/-- The invariant, entry by entry but for the pair of T_nom (R177). -/
theorem configLegal_iff {c : ConfigSpace} : ConfigLegal c ↔
    (∀ i : Fin 201, EntryFits i.val (vget c.entries i)) ∧
    (2500 ≤ (vget c.entries 0x04).toNat + 256 * (vget c.entries 0x05).toNat ∧
      (vget c.entries 0x04).toNat + 256 * (vget c.entries 0x05).toNat ≤ 10000) ∧ c.lastRefusal.toNat ≤ 9 := by
  constructor
  · rintro ⟨bits, hyphen, map, letters, low, high, refusal⟩
    refine ⟨fun i => ⟨bits i, fun at_ => ?_, fun at_ => ?_, letters i⟩, ⟨low, high⟩, refusal⟩
    · rwa [show i = 0x11 from Fin.ext at_]
    · rwa [show i = 0x12 from Fin.ext at_]
  · rintro ⟨fits, ⟨low, high⟩, refusal⟩
    refine ⟨fun i => ?_, ?_, ?_, fun i => ?_, low, high, refusal⟩
    · obtain ⟨bits, -⟩ := fits i; exact bits
    · obtain ⟨-, hyphen, -⟩ := fits 0x11; exact hyphen rfl
    · obtain ⟨-, -, map, -⟩ := fits 0x12; exact map rfl
    · obtain ⟨-, -, -, letters⟩ := fits i; exact letters

/-- A byte less the bits that its entry does not define. -/
theorem EntryFits.masked {i : Nat} {v : Byte} (hyphen : i = 0x11 → v.toNat ≤ 95) (notMap : i ≠ 0x12)
    (letters : 0x20 ≤ i → i ≤ 0x7F → v.toNat ≤ 40) : EntryFits i (v &&& definedBits i) := by
  have less : (v &&& definedBits i).toNat ≤ v.toNat := by
    rw [BitVec.toNat_and]; exact Nat.and_le_left
  refine ⟨?_, fun at_ => less.trans (hyphen at_), fun at_ => absurd at_ notMap,
    fun low high => less.trans (letters low high)⟩
  rw [BitVec.and_assoc, BitVec.and_not_self]
  exact BitVec.and_zero

/-! ### The writes -/

theorem ConfigLegal.storeEntry {s : State} (h : ConfigLegal s.config) {i : Nat} {v : Byte} (fits : EntryFits i v)
    (notTNom : i ≠ 4 ∧ i ≠ 5) : ConfigLegal (storeEntry i v s).config := by
  obtain ⟨old, range, refusal⟩ := configLegal_iff.mp h
  obtain ⟨not4, not5⟩ := notTNom
  refine configLegal_iff.mpr ⟨fun k => ?_, ?_, by rwa [lastRefusal_storeEntry]⟩
  · rw [entries_storeEntry]
    split
    · next at_ => rw [at_]; exact fits
    · exact old k
  · have kept4 : vget (Machine.storeEntry i v s).config.entries 4 = vget s.config.entries 4 :=
      (entries_storeEntry ..).trans (if_neg (Ne.symm not4))
    have kept5 : vget (Machine.storeEntry i v s).config.entries 5 = vget s.config.entries 5 :=
      (entries_storeEntry ..).trans (if_neg (Ne.symm not5))
    rwa [kept4, kept5]

/-- An accepted write of an entry of another group than the station map and T_nom. -/
theorem ConfigLegal.acceptWrite {s : State} (h : ConfigLegal s.config) {v : Byte}
    (hyphen : s.cfgIndex = 0x11 → v.toNat ≤ 95) (letters : 0x20 ≤ s.cfgIndex → s.cfgIndex ≤ 0x7F → v.toNat ≤ 40)
    (other : s.cfgIndex ≠ 0x12 ∧ s.cfgIndex ≠ 4 ∧ s.cfgIndex ≠ 5) : ConfigLegal (acceptWrite v s).config := by
  obtain ⟨notMap, notTNom⟩ := other
  exact h.storeEntry (EntryFits.masked hyphen notMap letters) notTNom

theorem ConfigLegal.refuseWrite {s : State} (h : ConfigLegal s.config) {code : BitVec 7} (known : code.toNat ≤ 9) :
    ConfigLegal (refuseWrite code s).config := by
  obtain ⟨old, range, -⟩ := configLegal_iff.mp h
  exact configLegal_iff.mpr ⟨old, range, known⟩

/-- Every byte fits the two entries of T_nom. -/
theorem entryFits_tNom {i : Nat} (at_ : i = 4 ∨ i = 5) (v : Byte) : EntryFits i v := by
  have all : ~~~definedBits i = 0 := by rcases at_ with rfl | rfl <;> rfl
  refine ⟨?_, by omega, by omega, by omega⟩
  rw [all]
  exact BitVec.and_zero

/-- The byte pair of a value below 65,536. -/
theorem byteOf_pair (low v : Byte) : byteOf (low.toNat + 256 * v.toNat) = low := by
  apply BitVec.eq_of_toNat_eq
  have := low.isLt
  simp only [byteOf, BitVec.toNat_ofNat]
  omega

theorem ConfigLegal.writeTNomHigh {s : State} (h : ConfigLegal s.config) (v : Byte) :
    ConfigLegal (writeTNomHigh v s).config := by
  obtain ⟨old, range, refusal⟩ := configLegal_iff.mp h
  unfold Machine.writeTNomHigh
  dsimp only
  split
  · next inRange =>
    rw [State.newTNom] at inRange ⊢
    rw [byteOf_pair]
    refine configLegal_iff.mpr ⟨fun k => ?_, ?_, by rwa [lastRefusal_storeEntry, lastRefusal_storeEntry]⟩
    · rw [entries_storeEntry, entries_storeEntry]
      split_ifs with at5 at4
      · exact entryFits_tNom (.inr at5) v
      · exact entryFits_tNom (.inl at4) _
      · exact old k
    · simpa using inRange
  · exact ConfigLegal.refuseWrite (configLegal_iff.mpr ⟨old, range, refusal⟩) (by decide)

theorem quiescentGroup_le (i : Nat) : ((quiescentGroup i).getD 0).toNat ≤ 9 := by
  unfold quiescentGroup
  split_ifs <;> decide

/-- An entry of a quiescent group is none of 12H, 04H and 05H. -/
theorem quiescentGroup_isSome {i : Nat} (h : (quiescentGroup i).isSome = true) : i = 0x11 ∨ 0x18 ≤ i := by
  unfold quiescentGroup at h
  split_ifs at h
  case neg => cases h
  all_goals omega

theorem ConfigLegal.writeQuiescent {s : State} (h : ConfigLegal s.config) (v : Byte)
    (group : (quiescentGroup s.cfgIndex).isSome = true) : ConfigLegal (writeQuiescent v s).config := by
  have entry := quiescentGroup_isSome group
  unfold Machine.writeQuiescent
  split
  · next ok =>
    obtain ⟨-, value⟩ := Bool.and_eq_true_iff.mp ok
    refine h.acceptWrite (fun hyphen => ?_) (fun low high => ?_) (by omega)
    · rw [quiescentValue, if_pos hyphen] at value
      exact of_decide_eq_true value
    · rw [quiescentValue, if_neg (by omega), if_pos ⟨low, high⟩] at value
      exact of_decide_eq_true value
  · exact h.refuseWrite (quiescentGroup_le _)

theorem ConfigLegal.writeStationMap {s : State} (h : ConfigLegal s.config) (v : Byte) :
    ConfigLegal (writeStationMap v s).config := by
  rw [config_writeStationMap]
  split
  · next ok =>
    obtain ⟨-, perm⟩ := Bool.and_eq_true_iff.mp ok
    refine h.storeEntry ⟨?_, nofun, fun _ => perm, fun low => ?_⟩ ⟨nofun, nofun⟩
    · exact BitVec.and_zero
    · omega
  · exact h.refuseWrite (by decide)

theorem readOnlyCode_le (i : Nat) : ((readOnlyCode i).getD 0).toNat ≤ 9 := by
  unfold readOnlyCode
  split_ifs <;> decide

/-! ### The events and the commands -/

theorem configLegal_event {arises : Bool} {f : State → State} {s t : State} (h : ConfigLegal s.config)
    (keep : arises = true → ConfigLegal (f s.fresh).config) (e : event arises f s = .next t) :
    ConfigLegal t.config := by
  cases arises with
  | false => cases e; exact h
  | true => cases e; exact keep rfl

theorem configLegal_eventReact {arises : Bool} {f : State → State} {s t : State} (h : ConfigLegal s.config)
    (keep : arises = true → ConfigLegal (f s.fresh).config) (e : eventReact arises f s = .next t) :
    ConfigLegal t.config :=
  configLegal_event h (f := fun u => react (f u)) (fun on => by rw [config_react]; exact keep on) e

/-- Each command keeps the configuration space legal. -/
theorem configLegal_exec (c : Instr) {s t : State} (h : ConfigLegal s.config) (e : exec c s = .next t) :
    ConfigLegal t.config := by
  cases c
  case powerOnReset =>
    cases e
    exact resetStateHasEveryInvariant.1
  case cfgIndexWrite | tNomLowWrite =>
    refine configLegal_event h (fun _ => ?_) e
    exact h
  case configWrite v =>
    simp only [exec, execConfigWrite] at e
    split at e
    · rwa [config_eventReact config_compositionReset e]
    · refine configLegal_event h (fun plain => ?_) e
      have index : s.fresh.cfgIndex = s.cfgIndex := rfl
      simp only [plainEntry, Bool.or_eq_true, Bool.and_eq_true, decide_eq_true_eq] at plain
      exact ConfigLegal.acceptWrite (s := s.fresh) h (by omega) (by omega) (by omega)
  case tNomHighWrite v => exact configLegal_event h (fun _ => ConfigLegal.writeTNomHigh (s := s.fresh) h v) e
  case quiescentConfigWrite v =>
    exact configLegal_event h (fun group => ConfigLegal.writeQuiescent (s := s.fresh) h v group) e
  case stationMapWrite v => exact configLegal_event h (fun _ => ConfigLegal.writeStationMap (s := s.fresh) h v) e
  case sensorInversionWrite v =>
    refine configLegal_eventReact h (fun at_ => ?_) e
    have index : s.fresh.cfgIndex = 0x13 ∨ s.fresh.cfgIndex = 0x14 := by
      rw [Bool.or_eq_true, beq_iff_eq, beq_iff_eq] at at_
      exact at_
    rw [config_writeInversion]
    exact ConfigLegal.acceptWrite (s := s.fresh) h (by omega) (by omega) (by omega)
  case debounceEnableWrite v =>
    refine configLegal_eventReact h (fun at_ => ?_) e
    have index : s.fresh.cfgIndex = 0x15 := beq_iff_eq.mp at_
    rw [config_writeDebounce]
    exact ConfigLegal.acceptWrite (s := s.fresh) h (by omega) (by omega) (by omega)
  case readOnlyEntryWrite v =>
    exact configLegal_event h (fun _ => ConfigLegal.refuseWrite (s := s.fresh) h (readOnlyCode_le _)) e
  all_goals rwa [config_exec rfl e]

/-- Settles O5: only the commands of `Instr.writesConfig` write the configuration space, and each stores a value that
fits its entry, or refuses with a code of at most 9. -/
theorem everyStepKeepsTheConfigurationLegal : Obligations.EveryStepKeepsTheConfigurationLegal := by
  intro s t h e
  unfold step at e
  split at e
  · next c rest _ => exact configLegal_exec c (s := { s with pending := rest }) h e
  · cases e
    rwa [config_tick]

end Sys2Proof.Machine
end

section
/-! PROOF. The index and the entries (O24), and the plain entries (O25). -/

namespace Sys2Proof.Machine

/-! ### The index and the reads (R175) -/

theorem exec_cfgIndexWrite (v : Word) (s : State) :
    exec (.cfgIndexWrite v) s = .next (s.fresh.modConfig fun c => { c with index := v.setWidth 8 }) := rfl

/-- The index of an entry is its number. -/
theorem cfgIndex_of_index {s : State} {i : Fin 201} (index : s.config.index = BitVec.ofNat 8 i.val) :
    s.cfgIndex = i.val := by
  rw [State.cfgIndex, index, BitVec.toNat_ofNat, Nat.mod_eq_of_lt (by omega)]

theorem entry_eq_vget (i : Fin 201) (s : State) : s.entry i.val = vget s.config.entries i := dif_pos i.isLt

theorem cfgRead_entry {i : Fin 201} (not0 : i ≠ 0) (not16 : i ≠ 0x16) (not17 : i ≠ 0x17) (notC8 : i ≠ 0xC8)
    (s : State) : s.cfgRead i.val = vget s.config.entries i := by
  have value {j : Fin 201} (ne : i ≠ j) : i.val ≠ j.val := fun e => ne (Fin.ext e)
  rw [← entry_eq_vget]
  exact (if_neg (value not0)).trans
    ((if_neg (value not16)).trans ((if_neg (value not17)).trans (if_neg (value notC8))))

theorem cfgRead_outside {i : Nat} (none_ : 201 ≤ i) (s : State) : s.cfgRead i = 0 := by
  rw [State.cfgRead, if_neg (by omega), if_neg (by omega), if_neg (by omega), if_neg (by omega), State.entry,
    dif_neg (by omega)]

/-! ### What a write leaves of the index and the entries -/

@[simp] theorem index_storeEntry (i : Nat) (v : Byte) (s : State) :
    (storeEntry i v s).config.index = s.config.index := by
  simp only [storeEntry, State.modConfig_config]

@[simp] theorem index_acceptWrite (v : Byte) (s : State) : (acceptWrite v s).config.index = s.config.index :=
  index_storeEntry ..

@[simp] theorem index_refuseWrite (code : BitVec 7) (s : State) :
    (refuseWrite code s).config.index = s.config.index := rfl

theorem index_writeTNomHigh (v : Byte) (s : State) : (writeTNomHigh v s).config.index = s.config.index := by
  unfold writeTNomHigh
  dsimp only
  split <;> simp

theorem index_writeQuiescent (v : Byte) (s : State) : (writeQuiescent v s).config.index = s.config.index := by
  unfold writeQuiescent
  split <;> simp

theorem index_writeStationMap (v : Byte) (s : State) : (writeStationMap v s).config.index = s.config.index := by
  rw [config_writeStationMap]
  split <;> simp

theorem index_eventReact {arises : Bool} {f : State → State} {s t : State}
    (keep : ∀ u, (f u).config.index = u.config.index) (e : eventReact arises f s = .next t) :
    t.config.index = s.config.index :=
  event_keeps (·.config.index) (by rw [config_react]; exact keep s.fresh) e

/-- No command but power-on reset and a write to CFG_INDEX moves the index. -/
theorem index_exec {c : Instr} {s t : State} (e : exec c s = .next t) (moved : t.config.index ≠ s.config.index) :
    c = .powerOnReset ∨ ∃ v, c = .cfgIndexWrite v := by
  by_contra other
  obtain ⟨notReset, notIndex⟩ := not_or.mp other
  refine moved ?_
  cases c
  case powerOnReset => exact absurd rfl notReset
  case cfgIndexWrite v => exact absurd ⟨v, rfl⟩ notIndex
  case configWrite v =>
    simp only [exec, execConfigWrite] at e
    split at e
    · exact congrArg (·.index) (config_eventReact config_compositionReset e)
    · exact event_keeps (·.config.index) (index_acceptWrite v s.fresh) e
  case tNomLowWrite v => exact event_keeps (·.config.index) (by rfl) e
  case tNomHighWrite v => exact event_keeps (·.config.index) (index_writeTNomHigh v s.fresh) e
  case quiescentConfigWrite v => exact event_keeps (·.config.index) (index_writeQuiescent v s.fresh) e
  case stationMapWrite v => exact event_keeps (·.config.index) (index_writeStationMap v s.fresh) e
  case sensorInversionWrite v =>
    exact index_eventReact (fun u => by rw [config_writeInversion, index_acceptWrite]) e
  case debounceEnableWrite v =>
    exact index_eventReact (fun u => by rw [config_writeDebounce, index_acceptWrite]) e
  case readOnlyEntryWrite v => exact event_keeps (·.config.index) (index_refuseWrite _ s.fresh) e
  all_goals exact congrArg (·.index) (config_exec rfl e)

/-- No command but power-on reset and an accepted write to CFG_DATA changes an entry. -/
theorem entries_exec {c : Instr} {s t : State} (e : exec c s = .next t)
    (changed : t.config.entries ≠ s.config.entries) :
    c = .powerOnReset ∨ ∃ v, c = .configWrite v ∨ c = .tNomHighWrite v ∨ c = .quiescentConfigWrite v ∨
      c = .stationMapWrite v ∨ c = .sensorInversionWrite v ∨ c = .debounceEnableWrite v := by
  cases c
  case powerOnReset => exact .inl rfl
  case configWrite v | tNomHighWrite v | quiescentConfigWrite v | stationMapWrite v | sensorInversionWrite v |
      debounceEnableWrite v => exact .inr ⟨v, by simp⟩
  case cfgIndexWrite v => exact absurd (event_keeps (·.config.entries) (by rfl) e) changed
  case tNomLowWrite v => exact absurd (event_keeps (·.config.entries) (by rfl) e) changed
  case readOnlyEntryWrite v => exact absurd (event_keeps (·.config.entries) (by rfl) e) changed
  all_goals exact absurd (congrArg (·.entries) (config_exec rfl e)) changed

/-- Settles O24: the reads entry by entry, and what each command that writes the configuration space leaves of it. -/
theorem configurationIndexSelectsTheEntryRead : Obligations.ConfigurationIndexSelectsTheEntryRead := by
  refine ⟨fun s v => exec_cfgIndexWrite v s, fun s => ⟨rfl, rfl, rfl, fun i none_ => cfgRead_outside none_ s,
    fun i not0 not16 not17 notC8 => cfgRead_entry not0 not16 not17 notC8 s⟩, fun c s t => index_exec,
    fun c s t => entries_exec, rfl, rfl, config_compositionReset, fun s t ch reset => ?_⟩
  exact config_exec rfl reset

/-! ### The plain entries (R176) -/

theorem acceptWrite_eq {s : State} {i : Fin 201} (index : s.config.index = BitVec.ofNat 8 i.val) (v : Byte) :
    acceptWrite v s = s.modConfig fun c => { c with entries := vset c.entries i (v &&& definedBits i.val) } := by
  rw [acceptWrite, cfgIndex_of_index index, storeEntry_eq]

/-- A write to 00H of 01H is a composition reset, and one of another value does nothing. -/
theorem exec_configWrite_zero {s : State} (index : s.config.index = 0) (v : Byte) :
    exec (.configWrite v) s = eventReact (v == 0x01) compositionReset s :=
  if_pos (congrArg BitVec.toNat index)

theorem exec_compositionReset_at_zero {s : State} (index : s.config.index = 0) :
    exec .compositionReset s = eventReact true compositionReset s := by
  have at0 : (s.cfgIndex == 0) = true := beq_iff_eq.mpr (congrArg BitVec.toNat index)
  show eventReact (s.cfgIndex == 0) compositionReset s = _
  rw [at0]

theorem exec_configWrite_plain {s : State} {i : Fin 201} (index : s.config.index = BitVec.ofNat 8 i.val)
    (plain : (1 ≤ i.val ∧ i.val ≤ 3) ∨ (6 ≤ i.val ∧ i.val ≤ 0x10)) (v : Byte) :
    exec (.configWrite v) s = .next (s.fresh.modConfig fun c =>
      { c with entries := vset c.entries i (v &&& definedBits i.val) }) := by
  have at_ := cfgIndex_of_index index
  have arises : plainEntry s.cfgIndex = true := by
    rw [at_]
    simpa [plainEntry] using plain
  have not0 : s.cfgIndex ≠ 0 := by omega
  rw [← acceptWrite_eq (s := s.fresh) index]
  show execConfigWrite v s = _
  rw [execConfigWrite, if_neg not0, arises, event_true]

theorem exec_sensorInversionWrite {s : State} {i : Fin 201} (entry : i.val = 0x13 ∨ i.val = 0x14)
    (index : s.config.index = BitVec.ofNat 8 i.val) (v : Byte) :
    exec (.sensorInversionWrite v) s = .next (react (writeInversion v s.fresh)) := by
  have arises : (s.cfgIndex == 0x13 || s.cfgIndex == 0x14) = true := by
    rw [cfgIndex_of_index index, Bool.or_eq_true, beq_iff_eq, beq_iff_eq]
    exact entry
  show eventReact (s.cfgIndex == 0x13 || s.cfgIndex == 0x14) _ s = _
  rw [arises, eventReact_true]

theorem exec_debounceEnableWrite {s : State} (index : s.config.index = 0x15) (v : Byte) :
    exec (.debounceEnableWrite v) s = .next (react (writeDebounce v s.fresh)) := by
  have arises : (s.cfgIndex == 0x15) = true := beq_iff_eq.mpr (congrArg BitVec.toNat index)
  show eventReact (s.cfgIndex == 0x15) _ s = _
  rw [arises, eventReact_true]

/-- Settles O25: each group's write by what it stores. -/
theorem plainEntriesStoreTheirDefinedBits : Obligations.PlainEntriesStoreTheirDefinedBits := by
  intro s v
  refine ⟨fun i index plain => exec_configWrite_plain index plain v, fun index other => ?_, fun index one => ?_,
    fun i entry index => ⟨_, exec_sensorInversionWrite entry index v, ?_⟩,
    fun index => ⟨_, exec_debounceEnableWrite index v, ?_⟩, rfl, rfl, rfl, rfl, rfl, rfl, rfl, rfl,
    fun i low high => ?_⟩
  · rw [exec_configWrite_zero index, beq_false_of_ne other, eventReact_false]
  · rw [exec_configWrite_zero index, exec_compositionReset_at_zero index, one]
    rfl
  · rw [config_react, config_writeInversion, acceptWrite_eq (s := s.fresh) index]
    rfl
  · rw [config_react, config_writeDebounce, acceptWrite_eq (s := s.fresh) (i := 0x15) index]
    rfl
  · rw [definedBits, if_neg (by omega), if_neg (by omega), if_neg (by omega), if_neg (by omega), if_neg (by omega)]

end Sys2Proof.Machine
end

section
/-! PROOF. T_nom (O26) and the guarded entries (O27). -/

namespace Sys2Proof.Machine

/-! ### T_nom (R177) -/

theorem exec_tNomLowWrite {s : State} (index : s.config.index = 0x04) (v : Byte) :
    exec (.tNomLowWrite v) s = .next (s.fresh.modConfig fun c => { c with tNomPending := some v }) := by
  have arises : (s.cfgIndex == 0x04) = true := beq_iff_eq.mpr (congrArg BitVec.toNat index)
  show event (s.cfgIndex == 0x04) _ s = _
  rw [arises, event_true]

theorem exec_tNomHighWrite {s : State} (index : s.config.index = 0x05) (v : Byte) :
    exec (.tNomHighWrite v) s = .next (writeTNomHigh v s.fresh) := by
  have arises : (s.cfgIndex == 0x05) = true := beq_iff_eq.mpr (congrArg BitVec.toNat index)
  show event (s.cfgIndex == 0x05) _ s = _
  rw [arises, event_true]

/-- The low byte that a write to 05H joins: the pending one, or the one stored. -/
def State.tNomLow (s : State) : Byte := s.config.tNomPending.getD (vget s.config.entries 4)

theorem newTNom_eq (v : Byte) (s : State) : s.newTNom v = s.tNomLow.toNat + 256 * v.toNat := by
  rw [State.newTNom, State.tNomLow, ← entry_eq_vget]
  rfl

theorem writeTNomHigh_accepted {v : Byte} {s : State} (low : 2500 ≤ s.newTNom v) (high : s.newTNom v ≤ 10000) :
    writeTNomHigh v s = s.modConfig fun c =>
      { c with tNomPending := none, entries := vset (vset c.entries 4 s.tNomLow) 5 v } := by
  refine (if_pos ⟨low, high⟩).trans ?_
  rw [newTNom_eq, byteOf_pair]
  exact (storeEntry_eq 5 v _).trans (by rw [show Machine.storeEntry 4 _ _ = _ from storeEntry_eq 4 _ _]; rfl)

theorem writeTNomHigh_refused {v : Byte} {s : State} (outside : s.newTNom v < 2500 ∨ 10000 < s.newTNom v) :
    writeTNomHigh v s =
      (s.modConfig fun c => { c with tNomPending := none, lastRefusal := 1 }).raise .configReject :=
  if_neg (by omega)

theorem tNom_eq (s : State) :
    s.tNom = ((vget s.config.entries 4).toNat + 256 * (vget s.config.entries 5).toNat) * 16 := by
  simp only [State.tNom, State.setting, ← entry_eq_vget]
  rfl

/-- Settles O26: the value formed, and the write of it accepted or refused. -/
theorem tNomIsAssembledFromTwoWrites : Obligations.TNomIsAssembledFromTwoWrites := by
  intro s v
  refine ⟨fun index => exec_tNomLowWrite index v, fun index => ?_, cfgRead_entry (i := 4) nofun nofun nofun nofun s,
    cfgRead_entry (i := 5) nofun nofun nofun nofun s, rfl, by rw [config_compositionReset]⟩
  have formed : s.fresh.newTNom v = s.tNomLow.toNat + 256 * v.toNat := newTNom_eq v s.fresh
  refine ⟨fun low high => ⟨_, exec_tNomHighWrite index v, ?_, ?_⟩,
    fun outside => ⟨_, exec_tNomHighWrite index v, ?_, ?_⟩⟩
  · exact writeTNomHigh_accepted (formed ▸ low) (formed ▸ high)
  · rw [writeTNomHigh_accepted (formed ▸ low) (formed ▸ high), tNom_eq, State.modConfig_config,
      vget_vset_ne _ _ _ _ (by decide), vget_vset_self, vget_vset_self]
    rfl
  · exact writeTNomHigh_refused (formed ▸ outside)
  · rw [writeTNomHigh_refused (formed ▸ outside), tNom_eq, tNom_eq]
    rfl

/-! ### The entries written while quiescent only (R178) -/

theorem quiescentGroup_eq {i : Nat} {code : BitVec 7}
    (group : i = 0x11 ∧ code = 2 ∨ 0x18 ≤ i ∧ i ≤ 0x1F ∧ code = 4 ∨ 0x20 ≤ i ∧ i ≤ 0x7F ∧ code = 5 ∨
      0x80 ≤ i ∧ i ≤ 0xA7 ∧ code = 6 ∨ 0xA8 ≤ i ∧ i ≤ 0xC7 ∧ code = 7) : quiescentGroup i = some code := by
  unfold quiescentGroup
  rcases group with ⟨at_, rfl⟩ | ⟨low, high, rfl⟩ | ⟨low, high, rfl⟩ | ⟨low, high, rfl⟩ | ⟨low, high, rfl⟩
  · rw [if_pos at_]
  · rw [if_neg (by omega), if_pos (by omega)]
  · rw [if_neg (by omega), if_neg (by omega), if_pos (by omega)]
  · rw [if_neg (by omega), if_neg (by omega), if_neg (by omega), if_pos (by omega)]
  · rw [if_neg (by omega), if_neg (by omega), if_neg (by omega), if_neg (by omega), if_pos (by omega)]

theorem quiescentValue_iff (i : Nat) (v : Byte) :
    quiescentValue i v = true ↔ (i = 0x11 → v.toNat ≤ 95) ∧ (0x20 ≤ i ∧ i ≤ 0x7F → v.toNat ≤ 40) := by
  unfold quiescentValue
  split_ifs with hyphen letter
  · have noLetter : ¬ (0x20 ≤ i ∧ i ≤ 0x7F) := by omega
    simp [hyphen]
  · simp [hyphen, letter]
  · simp [hyphen, letter]

/-- The condition under which an entry of a quiescent group is written. -/
theorem quiescentAccepts_iff {s : State} {i : Nat} (index : s.cfgIndex = i) (v : Byte) :
    (s.quiescent && quiescentValue s.cfgIndex v) = true ↔
      ((i = 0x11 → v.toNat ≤ 95) ∧ (0x20 ≤ i ∧ i ≤ 0x7F → v.toNat ≤ 40)) ∧
      (∀ g, (s.galley g).state = .closed) ∧ ∀ k, s.lineAt k = none := by
  rw [Bool.and_eq_true, quiescent_iff, index, quiescentValue_iff, and_comm]

theorem exec_quiescentConfigWrite {s : State} {code : BitVec 7} (group : quiescentGroup s.cfgIndex = some code)
    (v : Byte) : exec (.quiescentConfigWrite v) s = .next (writeQuiescent v s.fresh) := by
  have arises : (quiescentGroup s.cfgIndex).isSome = true := by rw [group]; rfl
  show event (quiescentGroup s.cfgIndex).isSome _ s = _
  rw [arises, event_true]

/-! ### The read-only entries, and the indexes of none (R178) -/

theorem exec_readOnlyEntryWrite {s : State} {code : BitVec 7} (refused : readOnlyCode s.cfgIndex = some code)
    (v : Byte) : exec (.readOnlyEntryWrite v) s = .next (refuseWrite code s.fresh) := by
  have arises : (readOnlyCode s.cfgIndex).isSome = true := by rw [refused]; rfl
  show event (readOnlyCode s.cfgIndex).isSome _ s = _
  rw [arises, event_true]
  exact congrArg (fun c => Host.Outcome.next (refuseWrite (c.getD 0) s.fresh)) refused

theorem readOnlyCode_none {i : Nat} (names : 0xC9 ≤ i) : readOnlyCode i = some 9 := by
  rw [readOnlyCode, if_neg (by omega), if_pos names]

/-! ### C8H -/

/-- A byte of a bit 7 and seven bits below it. -/
theorem statusByte_bits : ∀ (b : Bool) (r : BitVec 7),
    (byteOf (bitByte b 7 + r.toNat)).getLsbD 7 = b ∧ (byteOf (bitByte b 7 + r.toNat)).setWidth 7 = r := by decide

theorem cfgRead_status (s : State) : s.cfgRead 0xC8 = byteOf (bitByte s.quiescent 7 + s.config.lastRefusal.toNat) := rfl

/-- Settles O27: the guard of each group, the refusals, and the status entry. -/
theorem guardedEntriesRefuseWithTheirCode : Obligations.GuardedEntriesRefuseWithTheirCode := by
  refine ⟨fun s v i code index group => ?_, fun s v => ⟨fun readOnly => ?_, fun names => ?_, ?_, ?_⟩⟩
  · have at_ : s.fresh.cfgIndex = i.val := cfgIndex_of_index index
    have code_ : quiescentGroup s.fresh.cfgIndex = some code := at_ ▸ quiescentGroup_eq group
    have accepts := quiescentAccepts_iff at_ v
    refine ⟨fun good quiet => ?_, fun bad => ?_⟩
    · rw [exec_quiescentConfigWrite (s := s) code_, writeQuiescent, if_pos (accepts.mpr ⟨good, quiet⟩),
        acceptWrite_eq (s := s.fresh) index]
    · rw [exec_quiescentConfigWrite (s := s) code_, writeQuiescent, if_neg fun ok => bad (accepts.mp ok), code_]
      rfl
  · refine exec_readOnlyEntryWrite ?_ v
    rw [State.cfgIndex]
    rcases readOnly with index | index | index <;> rw [index] <;> rfl
  · exact exec_readOnlyEntryWrite (readOnlyCode_none names) v
  · rw [cfgRead_status, (statusByte_bits _ _).1, Bool.eq_iff_iff, decide_eq_true_iff]
    exact quiescent_iff s
  · rw [cfgRead_status, (statusByte_bits _ _).2]

end Sys2Proof.Machine
end

section
/-! SUPPORT. What the reports of a sensor line leave alone: the levels, the records of the filtered lines, the event
status and the SENSOR flag. -/

namespace Sys2Proof.Machine

/-- The sensors, and whether SENSOR is raised. -/
def State.sensing (s : State) : Sensors × Bool := (s.sensors, s.raised .sensor)

/-! ### The named updates -/

@[simp] theorem sensing_modFont (s : State) (i : FontSlot) (f : FontRecord → FontRecord) :
    (s.modFont i f).sensing = s.sensing := rfl
@[simp] theorem sensing_modChannel (s : State) (c : ChannelId) (f : Channel → Channel) :
    (s.modChannel c f).sensing = s.sensing := rfl
@[simp] theorem sensing_modStore (s : State) (f : Store → Store) : (s.modStore f).sensing = s.sensing := rfl
@[simp] theorem sensing_modPhoto (s : State) (f : Photo → Photo) : (s.modPhoto f).sensing = s.sensing := rfl
@[simp] theorem sensing_modExposure (s : State) (f : Exposure → Exposure) : (s.modExposure f).sensing = s.sensing := rfl
@[simp] theorem sensing_modFilm (s : State) (f : Film → Film) : (s.modFilm f).sensing = s.sensing := rfl
@[simp] theorem sensing_modProof (s : State) (f : ProofGen → ProofGen) : (s.modProof f).sensing = s.sensing := rfl
@[simp] theorem sensing_bumpFree (s : State) : s.bumpFree.sensing = s.sensing := rfl
@[simp] theorem sensing_verifyAt (q : Station) (code : BitVec 4) (s : State) :
    (verifyAt q code s).sensing = s.sensing := by
  simp only [State.sensing, State.raised, verifyAt]

/-- Another flag than SENSOR. -/
theorem sensing_raise {a : Attn} (other : a.bit ≠ 5) (s : State) : (s.raise a).sensing = s.sensing := by
  rw [State.sensing, raised_raise_ne (a := .sensor) (Ne.symm other)]
  rfl

@[simp] theorem sensing_raise_expHold (s : State) : (s.raise .expHold).sensing = s.sensing :=
  sensing_raise (by decide) s
@[simp] theorem sensing_raise_proofHold (s : State) : (s.raise .proofHold).sensing = s.sensing :=
  sensing_raise (by decide) s

/-! ### Completions, holds and the ends of film moves -/

@[simp] theorem sensing_finish (ch : ChannelId) (c : Completion) (n : Nat) (s : State) :
    (finish ch c n s).sensing = s.sensing := by
  unfold finish complete; (repeat' split) <;> simp

@[simp] theorem sensing_takeHold (r : HoldReason) (s : State) : (takeHold r s).sensing = s.sensing := by
  unfold takeHold; split <;> simp [stopFilm, withdrawFlash]

@[simp] theorem sensing_applyDeferred (s : State) : (applyDeferred s).sensing = s.sensing := by
  unfold applyDeferred; dsimp only; (repeat' split) <;> simp [setFilmFigures]

@[simp] theorem sensing_endFreeMove (ch : ChannelId) (c : Completion) (n : Nat) (s : State) :
    (endFreeMove ch c n s).sensing = s.sensing := by
  simp [endFreeMove, stopFilm]

/-! ### The sub-steps of a glyph -/

@[simp] theorem sensing_setStep (l : LineWork) (st : LineStep) (s : State) : (setStep l st s).sensing = s.sensing := rfl

@[simp] theorem sensing_driveTurret (q : Station) (r : Requester) (s : State) :
    (driveTurret q r s).sensing = s.sensing := rfl

@[simp] theorem sensing_driveLens (p : LensPos) (s : State) : (driveLens p s).sensing = s.sensing := rfl

@[simp] theorem sensing_latchHere (q : Station) (s : State) : (latchHere q s).sensing = s.sensing := by
  simp [latchHere]

@[simp] theorem sensing_turretArrives (q : Station) (code : BitVec 4) (s : State) :
    (turretArrives q code s).sensing = s.sensing := by
  simp [turretArrives, startLockWatch]

@[simp] theorem sensing_commandCarriage (x : Nat) (s : State) : (commandCarriage x s).sensing = s.sensing := by
  unfold commandCarriage; dsimp only; (repeat' split) <;> simp

@[simp] theorem sensing_shutterStep (l : LineWork) (g : SetGlyph) (s : State) :
    (shutterStep l g s).sensing = s.sensing := by
  unfold shutterStep; split <;> simp [armFlash, setShutter]

@[simp] theorem sensing_carriageStep (l : LineWork) (g : SetGlyph) (s : State) :
    (carriageStep l g s).sensing = s.sensing := by
  unfold carriageStep; dsimp only; split <;> simp

@[simp] theorem sensing_lensStep (l : LineWork) (g : SetGlyph) (s : State) : (lensStep l g s).sensing = s.sensing := by
  unfold lensStep; dsimp only; (repeat' split) <;> simp

@[simp] theorem sensing_decidePlaced (l : LineWork) (g : SetGlyph) (p : Placement) (s : State) :
    (decidePlaced l g p s).sensing = s.sensing := by
  unfold decidePlaced turretStep; dsimp only; (repeat' split) <;> simp

@[simp] theorem sensing_glyphDecision (l : LineWork) (g : SetGlyph) (s : State) :
    (glyphDecision l g s).sensing = s.sensing := by
  unfold glyphDecision; dsimp only; (repeat' split) <;> simp

/-! ### The reports of arrivals and losses -/

@[simp] theorem sensing_turretReport (correct : Bool) (s : State) : (turretReport correct s).sensing = s.sensing := by
  unfold turretReport turretReached; (repeat' split) <;> simp

@[simp] theorem sensing_lensReport (arrived : Bool) (s : State) : (lensReport arrived s).sensing = s.sensing := by
  unfold lensReport; (repeat' split) <;> simp

@[simp] theorem sensing_stationLost (s : State) : (stationLost s).sensing = s.sensing := by
  unfold stationLost; (repeat' split) <;> simp

@[simp] theorem sensing_lensLost (s : State) : (lensLost s).sensing = s.sensing := by
  unfold lensLost; (repeat' split) <;> simp

@[simp] theorem sensing_visit (ch : ChannelId) (qs : List Station) (m n : BitVec 4) (s : State) :
    (visit ch qs m n s).sensing = s.sensing := by
  induction qs generalizing m n s with
  | nil => simp [visit, setVerify]
  | cons q qs ih => unfold visit; split <;> simp [ih, setVerify]

@[simp] theorem sensing_visitEnds (reached : Bool) (s : State) : (visitEnds reached s).sensing = s.sensing := by
  unfold visitEnds; (repeat' split) <;> simp

@[simp] theorem sensing_reportToRequester (r : Requester) (correct : Bool) (s : State) :
    (reportToRequester r correct s).sensing = s.sensing := by
  cases r <;> simp [reportToRequester]

/-! ### The lines -/

@[simp] theorem sensing_turretRises (s : State) : (turretRises s).sensing = s.sensing := by
  unfold turretRises; (repeat' split) <;> simp

@[simp] theorem sensing_turretFalls (s : State) : (turretFalls s).sensing = s.sensing := by
  unfold turretFalls; split <;> simp [turretMoveStart]

@[simp] theorem sensing_lensRises (s : State) : (lensRises s).sensing = s.sensing := by
  unfold lensRises; dsimp only; (repeat' split) <;> simp

@[simp] theorem sensing_lensFalls (s : State) : (lensFalls s).sensing = s.sensing := by
  unfold lensFalls; split <;> simp

@[simp] theorem sensing_cutterFell (s : State) : (cutterFell s).sensing = s.sensing := by
  unfold cutterFell; split <;> simp [setWork]

@[simp] theorem sensing_cutterRose (s : State) : (cutterRose s).sensing = s.sensing := by
  unfold cutterRose; split <;> simp [setGalleyStart]

@[simp] theorem sensing_lidFell (s : State) : (lidFell s).sensing = s.sensing := by
  unfold lidFell; dsimp only; split <;> simp

@[simp] theorem sensing_cassetteFell (s : State) : (cassetteFell s).sensing = s.sensing := by
  unfold cassetteFell; dsimp only; split <;> simp

@[simp] theorem sensing_paperFell (s : State) : (paperFell s).sensing = s.sensing := by
  unfold paperFell; split <;> simp

@[simp] theorem sensing_paperRose (s : State) : (paperRose s).sensing = s.sensing := by
  unfold paperRose; split <;> simp

/-- The report of an accepted change. -/
@[simp] theorem sensing_reportDebounced (l : DebouncedLine) (level : Bool) (s : State) :
    (reportDebounced l level s).sensing = s.sensing := by
  unfold reportDebounced; split <;> simp

/-- A level change of a line that is not filtered leaves the sensors as they are. -/
theorem sensing_sensorChanged {l : SensorLine} (unfiltered : ∀ d, l ≠ .debounced d) (s : State) :
    (sensorChanged l s).sensing = s.sensing := by
  unfold sensorChanged
  split
  case h_4 d => exact absurd rfl (unfiltered d)
  case h_1 | h_2 | h_3 => split <;> simp
  all_goals rfl

end Sys2Proof.Machine
end

section
/-! SUPPORT. A change of a filtered line (R116, R180, R181): its own record, and what it leaves of the other lines. -/

namespace Sys2Proof.Machine

/-! ### The levels -/

/-- What the conditioned levels and the times of the filters depend on. -/
def State.levels (s : State) : BitVec 15 × ConfigSpace := (s.sensors.inputs, s.config)

section Levels

variable {s t : State} (same : t.levels = s.levels)
include same

theorem config_of_levels : t.config = s.config := congrArg (·.2) same

theorem conditioned_of_levels (bit : Nat) : t.conditioned bit = s.conditioned bit :=
  conditioned_congr (congrArg (·.1) same) (config_of_levels same) bit

theorem debounceEnabled_of_levels (l : DebouncedLine) : t.debounceEnabled l = s.debounceEnabled l := by
  simp only [State.debounceEnabled, State.entry, config_of_levels same]

theorem rejectionTime_of_levels : t.rejectionTime = s.rejectionTime := by
  simp only [State.rejectionTime, State.setting, State.entry, config_of_levels same]

end Levels

/-! ### The record of a debounced line -/

theorem debouncer_setDebouncer (l d : DebouncedLine) (f : LineFilter) (s : State) :
    (setDebouncer l f s).debouncer d = if d = l then f else s.debouncer d := by
  cases l <;> cases d <;> rfl

theorem debouncer_setDebouncer_self (l : DebouncedLine) (f : LineFilter) (s : State) :
    (setDebouncer l f s).debouncer l = f := (debouncer_setDebouncer l l f s).trans (if_pos rfl)

theorem setDebouncer_only (l : DebouncedLine) (f : LineFilter) (s : State) :
    setDebouncer l f s = { s with sensors := (setDebouncer l f s).sensors } := by cases l <;> rfl

theorem debouncer_of_sensors {s t : State} (h : t.sensors = s.sensors) (l : DebouncedLine) :
    t.debouncer l = s.debouncer l := by simp only [State.debouncer, h]

/-- The state in which an accepted change is reported: its level, its event status bit and SENSOR are set (R181). -/
def changeSeen (l : DebouncedLine) (level : Bool) (s : State) : State :=
  ((setDebouncer l { accepted := level, timing := none } s).modSensors fun x =>
    { x with events := x.events ||| eventBit l level }).raise .sensor

theorem acceptDebounced_eq (l : DebouncedLine) (level : Bool) (s : State) :
    acceptDebounced l level s = reportDebounced l level (changeSeen l level s) := rfl

section Accepted

variable (l : DebouncedLine) (level : Bool) (s : State)

theorem sensors_acceptDebounced : (acceptDebounced l level s).sensors = (changeSeen l level s).sensors :=
  congrArg (·.1) (sensing_reportDebounced l level (changeSeen l level s))

@[simp] theorem debouncer_acceptDebounced :
    (acceptDebounced l level s).debouncer l = { accepted := level, timing := none } := by
  rw [debouncer_of_sensors (sensors_acceptDebounced l level s)]
  cases l <;> rfl

theorem events_acceptDebounced :
    (acceptDebounced l level s).sensors.events = s.sensors.events ||| eventBit l level := by
  rw [sensors_acceptDebounced]
  cases l <;> rfl

/-- The event status bit of the change is set. -/
theorem noted_acceptDebounced :
    (acceptDebounced l level s).sensors.events &&& eventBit l level = eventBit l level := by
  refine BitVec.eq_of_getLsbD_eq fun i _ => ?_
  rw [events_acceptDebounced, BitVec.getLsbD_and, BitVec.getLsbD_or]
  cases (eventBit l level).getLsbD i <;> simp

theorem raised_acceptDebounced : (acceptDebounced l level s).raised .sensor = true :=
  (congrArg (·.2) (sensing_reportDebounced l level (changeSeen l level s))).trans (raised_raise_self .sensor _)

end Accepted

/-! ### What is left of the other lines -/

/-- The levels, the encoder lines and the debounced lines of `keeps` are as they were, and no event status bit and no
SENSOR flag has been cleared. -/
structure LinesKept (keeps : DebouncedLine → Prop) (s t : State) : Prop where
  levels : t.levels = s.levels
  encoders : ∀ e, t.encoder e = s.encoder e
  debouncers : ∀ d, keeps d → t.debouncer d = s.debouncer d
  events : ∀ b, s.sensors.events &&& b = b → t.sensors.events &&& b = b
  raised : s.raised .sensor = true → t.raised .sensor = true

theorem LinesKept.refl {keeps : DebouncedLine → Prop} (s : State) : LinesKept keeps s s :=
  ⟨rfl, fun _ => rfl, fun _ _ => rfl, fun _ => id, id⟩

theorem LinesKept.trans {keeps : DebouncedLine → Prop} {s t u : State} (h : LinesKept keeps s t)
    (k : LinesKept keeps t u) : LinesKept keeps s u :=
  ⟨k.levels.trans h.levels, fun e => (k.encoders e).trans (h.encoders e),
    fun d hd => (k.debouncers d hd).trans (h.debouncers d hd), fun b hb => k.events b (h.events b hb),
    fun on => k.raised (h.raised on)⟩

theorem LinesKept.mono {keeps fewer : DebouncedLine → Prop} {s t : State} (h : LinesKept keeps s t)
    (sub : ∀ d, fewer d → keeps d) : LinesKept fewer s t :=
  ⟨h.levels, h.encoders, fun d hd => h.debouncers d (sub d hd), h.events, h.raised⟩

/-- A report touches no line. -/
theorem LinesKept.of_sensing {keeps : DebouncedLine → Prop} {s t : State} (sensing : t.sensing = s.sensing)
    (config : t.config = s.config) : LinesKept keeps s t := by
  have sensors : t.sensors = s.sensors := congrArg (·.1) sensing
  have raised : t.raised .sensor = s.raised .sensor := congrArg (·.2) sensing
  refine ⟨?_, fun e => ?_, fun d _ => ?_, fun b => ?_, fun on => raised.trans on⟩
  · rw [State.levels, sensors, config, State.levels]
  · simp only [State.encoder, sensors]
  · exact debouncer_of_sensors sensors d
  · rw [sensors]; exact id

theorem linesKept_setDebouncer (l : DebouncedLine) (f : LineFilter) (s : State) :
    LinesKept (· ≠ l) s (setDebouncer l f s) := by
  refine ⟨?_, fun e => ?_, fun d other => (debouncer_setDebouncer l d f s).trans (if_neg other), fun b => ?_, ?_⟩
  · cases l <;> rfl
  · cases l <;> cases e <;> rfl
  · cases l <;> exact id
  · cases l <;> exact id

theorem linesKept_acceptDebounced (l : DebouncedLine) (level : Bool) (s : State) :
    LinesKept (· ≠ l) s (acceptDebounced l level s) := by
  have seen : LinesKept (· ≠ l) (setDebouncer l { accepted := level, timing := none } s) (changeSeen l level s) := by
    refine ⟨rfl, fun e => ?_, fun d _ => ?_, fun b on => ?_, fun _ => raised_raise_self .sensor _⟩
    · cases e <;> rfl
    · cases d <;> rfl
    · show (_ ||| eventBit l level) &&& b = b
      refine BitVec.eq_of_getLsbD_eq fun i _ => ?_
      have bit := congrArg (·.getLsbD i) on
      simp only [BitVec.getLsbD_and, BitVec.getLsbD_or] at bit ⊢
      cases h : b.getLsbD i <;> simp_all
  have reported : LinesKept (· ≠ l) (changeSeen l level s) (acceptDebounced l level s) :=
    .of_sensing (sensing_reportDebounced l level _) (config_of_outside (outside_reportDebounced l level _))
  exact ((linesKept_setDebouncer l _ s).trans seen).trans reported

/-! ### The edge of a debounced line (R180) -/

theorem debouncedChanged_of_untimed {l : DebouncedLine} {s : State} (h : (s.debouncer l).timing ≠ some 0) :
    debouncedChanged l s = debouncedEdge l s := by
  rw [debouncedChanged, acceptHeldDebounced, if_neg h]

theorem debouncedChanged_of_timedOut {l : DebouncedLine} {s : State} (h : (s.debouncer l).timing = some 0) :
    debouncedChanged l s = debouncedEdge l (acceptDebounced l (!s.conditioned (debouncedBit l)) s) := by
  rw [debouncedChanged, acceptHeldDebounced, if_pos h]

section Edge

variable {l : DebouncedLine} {level : Bool} {s : State} (has : s.conditioned (debouncedBit l) = level)
include has

theorem debouncedEdge_returns (same : (s.debouncer l).accepted = level) :
    debouncedEdge l s = setDebouncer l { accepted := level, timing := none } s := by
  simp only [debouncedEdge, has, same, if_true]

theorem debouncedEdge_waits (other : (s.debouncer l).accepted = !level) (enabled : s.debounceEnabled l = true) :
    debouncedEdge l s = setDebouncer l { accepted := !level, timing := some 20000 } s := by
  simp [debouncedEdge, has, other, enabled, mechUnit]

theorem debouncedEdge_accepts (other : (s.debouncer l).accepted = !level) (disabled : s.debounceEnabled l = false) :
    debouncedEdge l s = acceptDebounced l level s := by
  simp [debouncedEdge, has, other, disabled]

end Edge

theorem linesKept_debouncedChanged (l : DebouncedLine) (s : State) : LinesKept (· ≠ l) s (debouncedChanged l s) := by
  have held : LinesKept (· ≠ l) s (acceptHeldDebounced l s) := by
    unfold acceptHeldDebounced
    split
    · exact linesKept_acceptDebounced ..
    · exact .refl s
  refine held.trans ?_
  unfold debouncedChanged debouncedEdge
  dsimp only
  split_ifs
  · exact linesKept_setDebouncer ..
  · exact linesKept_setDebouncer ..
  · exact linesKept_acceptDebounced ..

/-- A level change of a sensor line touches no line's record but its own. -/
theorem linesKept_sensorChanged (l : SensorLine) (s : State) :
    LinesKept (fun d => l ≠ .debounced d) s (sensorChanged l s) := by
  have config := config_of_outside (outside_sensorChanged l s)
  cases l with
  | debounced d =>
    exact (linesKept_debouncedChanged d s).mono fun e ne same => ne (congrArg SensorLine.debounced same.symm)
  | turretReady | turretPos | discCode | lensReady | cutterHome | printerBusy =>
    exact .of_sensing (sensing_sensorChanged (by simp) s) config

/-! ### A change of an encoder line -/

theorem encoder_setEncoder_ite (l e : EncoderLine) (f : LineFilter) (s : State) :
    (setEncoder l f s).encoder e = if e = l then f else s.encoder e := by
  cases l <;> cases e <;> rfl

/-- The record of one encoder line and the Photo Unit, and nothing else. -/
def EncoderOnly (l : EncoderLine) (s t : State) : Prop := ∃ f p, t = { setEncoder l f s with photo := p }

theorem EncoderOnly.refl (l : EncoderLine) (s : State) : EncoderOnly l s s :=
  ⟨s.encoder l, s.photo, by cases l <;> rfl⟩

theorem EncoderOnly.trans {l : EncoderLine} {s t u : State} (h : EncoderOnly l s t) (k : EncoderOnly l t u) :
    EncoderOnly l s u := by
  obtain ⟨f, p, rfl⟩ := h
  obtain ⟨g, q, rfl⟩ := k
  exact ⟨g, q, by cases l <;> rfl⟩

theorem encoderOnly_setEncoder (l : EncoderLine) (f : LineFilter) (s : State) : EncoderOnly l s (setEncoder l f s) :=
  ⟨f, s.photo, by cases l <;> rfl⟩

theorem encoderOnly_acceptEncoder (l : EncoderLine) (level : Bool) (s : State) :
    EncoderOnly l s (acceptEncoder l level s) := ⟨_, _, acceptEncoder_only l level s⟩

theorem encoderOnly_encoderChanged (l : EncoderLine) (s : State) : EncoderOnly l s (encoderChanged l s) := by
  have held : EncoderOnly l s (acceptHeldEncoder l s) := by
    unfold acceptHeldEncoder
    split
    · exact encoderOnly_acceptEncoder ..
    · exact .refl l s
  refine held.trans ?_
  unfold encoderChanged encoderEdge
  dsimp only
  split_ifs
  · exact encoderOnly_setEncoder ..
  · exact encoderOnly_acceptEncoder ..
  · exact encoderOnly_setEncoder ..

section EncoderOnly

variable {l : EncoderLine} {s t : State} (h : EncoderOnly l s t)
include h

theorem EncoderOnly.levels : t.levels = s.levels := by
  obtain ⟨f, p, rfl⟩ := h
  cases l <;> rfl

theorem EncoderOnly.others {e : EncoderLine} (other : e ≠ l) : t.encoder e = s.encoder e := by
  obtain ⟨f, p, rfl⟩ := h
  exact (encoder_setEncoder_ite l e f s).trans (if_neg other)

theorem EncoderOnly.debouncers (d : DebouncedLine) : t.debouncer d = s.debouncer d := by
  obtain ⟨f, p, rfl⟩ := h
  cases l <;> cases d <;> rfl

end EncoderOnly

end Sys2Proof.Machine
end

section
/-! PROOF. The sensor lines (O31): level changes, inversion writes and debounce writes (R180, R181). -/

namespace Sys2Proof.Machine

/-! ### Level changes of the debounced lines (R180) -/

theorem sensorBit_lt : ∀ l : SensorLine, sensorBit l < 15
  | .turretReady | .lensReady | .cutterHome | .printerBusy => by decide
  | .turretPos b => by revert b; decide
  | .discCode b => by revert b; decide
  | .debounced d => by cases d <;> decide

theorem debouncedBit_lt (d : DebouncedLine) : debouncedBit d < 15 := sensorBit_lt (.debounced d)

/-- The state in which a level change is judged: the line has its new level. -/
def levelSet (l : SensorLine) (level : Bool) (s : State) : State := s.fresh.setConditioned (sensorBit l) level

theorem conditioned_levelSet (l : SensorLine) (level : Bool) (s : State) :
    (levelSet l level s).conditioned (sensorBit l) = level :=
  (conditioned_setConditioned _ _ _ _ (sensorBit_lt l)).trans (if_pos rfl)

theorem levelSet_only (l : SensorLine) (level : Bool) (s : State) :
    levelSet l level s =
      { s.fresh with sensors := { s.sensors with inputs := (levelSet l level s).sensors.inputs } } := rfl

theorem exec_sensorLevelChange {l : SensorLine} {level : Bool} {s : State}
    (old : s.conditioned (sensorBit l) = !level) :
    exec (.sensorLevelChange l level) s = .next (react (sensorChanged l (levelSet l level s))) := by
  have arises : (s.conditioned (sensorBit l) != level) = true := by rw [old]; cases level <;> rfl
  simp only [exec, execSensorLevelChange, arises, eventReact_true, levelSet]

theorem settled_sensorsOnly {s t : State} (only : t = { s.fresh with sensors := t.sensors }) :
    t.settled = s.settled := by
  rw [only]
  exact (settled_modSensors s.fresh fun _ => t.sensors).trans (settled_fresh s)

section Debounced

variable {s : State} {l : DebouncedLine} {level : Bool} (old : s.conditioned (debouncedBit l) = !level)
include old

theorem exec_debouncedChange :
    exec (.sensorLevelChange (.debounced l) level) s =
      .next (react (debouncedChanged l (levelSet (.debounced l) level s))) :=
  exec_sensorLevelChange (l := .debounced l) old

omit old in
theorem debouncer_levelSet (d : DebouncedLine) : (levelSet (.debounced l) level s).debouncer d = s.debouncer d := by
  cases d <;> rfl

/-- The change is timed, or cancelled: the line's record is set, and nothing else. -/
theorem debouncedChange_sets {f : LineFilter} {s' : State} (hs' : s' = levelSet (.debounced l) level s)
    (sets : debouncedChanged l s' = setDebouncer l f s') :
    ∃ t, EventTo (exec (.sensorLevelChange (.debounced l) level) s) s t ∧ t = { s.fresh with sensors := t.sensors } ∧
      t.debouncer l = f ∧ t.sensors.events = s.sensors.events ∧ t.conditioned (debouncedBit l) = level := by
  have only : setDebouncer l f s' = { s.fresh with sensors := (setDebouncer l f s').sensors } := by
    rw [setDebouncer_only, hs', levelSet_only]
  have kept := linesKept_setDebouncer l f s'
  refine ⟨setDebouncer l f s', eventTo_of_settled ?_ (settled_sensorsOnly only), only,
    debouncer_setDebouncer_self l f s', ?_, ?_⟩
  · rw [exec_debouncedChange old, ← hs', sets]
  · rw [hs']; cases l <;> rfl
  · rw [conditioned_of_levels kept.levels, hs']
    exact conditioned_levelSet (.debounced l) level s

theorem debouncedChange_accepts (untimed : (s.debouncer l).timing ≠ some 0)
    (accepted : (s.debouncer l).accepted = !level) (disabled : s.debounceEnabled l = false) :
    exec (.sensorLevelChange (.debounced l) level) s = exec (.sensorChangeAccepted l level) s := by
  have arises : ((s.debouncer l).accepted != level) = true := by rw [accepted]; cases level <;> rfl
  have record := debouncer_levelSet (s := s) (l := l) (level := level) l
  rw [exec_debouncedChange old, debouncedChanged_of_untimed (by rw [record]; exact untimed),
    debouncedEdge_accepts (conditioned_levelSet (.debounced l) level s) (by rw [record]; exact accepted) disabled]
  show _ = eventReact ((s.debouncer l).accepted != level) (acceptance l level) s
  rw [arises]
  rfl

/-- A return at the end of the 10 ms comes after the acceptance. -/
theorem debouncedChange_late (timedOut : (s.debouncer l).timing = some 0) (enabled : s.debounceEnabled l = true) :
    ∃ t, exec (.sensorLevelChange (.debounced l) level) s = .next (react t) ∧
      t.debouncer l = { accepted := !level, timing := some 20000 } ∧
      t.sensors.events = s.sensors.events ||| eventBit l (!level) ∧ t.raised .sensor = true := by
  have changed := exec_debouncedChange old
  have record : (levelSet (.debounced l) level s).debouncer l = s.debouncer l := debouncer_levelSet l
  have has : (levelSet (.debounced l) level s).conditioned (debouncedBit l) = level :=
    conditioned_levelSet (.debounced l) level s
  have enabled' : (levelSet (.debounced l) level s).debounceEnabled l = true := enabled
  have events : (levelSet (.debounced l) level s).sensors.events = s.sensors.events := rfl
  generalize levelSet (.debounced l) level s = u at changed record has enabled' events
  have kept := linesKept_acceptDebounced l (!level) u
  rw [debouncedChanged_of_timedOut (by rw [record]; exact timedOut), has,
    debouncedEdge_waits ((conditioned_of_levels kept.levels _).trans has) (by rw [debouncer_acceptDebounced])
      ((debounceEnabled_of_levels kept.levels l).trans enabled')] at changed
  refine ⟨_, changed, debouncer_setDebouncer_self .., ?_, ?_⟩
  · rw [← events, ← events_acceptDebounced]
    cases l <;> rfl
  · rw [setDebouncer_only]
    exact raised_acceptDebounced l (!level) u

end Debounced

theorem debouncedChange_clauses {s : State} {l : DebouncedLine} {level : Bool}
    (old : s.conditioned (debouncedBit l) = !level) :
    ((s.debouncer l).timing ≠ some 0 →
      ((s.debouncer l).accepted = !level → s.debounceEnabled l = true → ∃ t,
        EventTo (exec (.sensorLevelChange (.debounced l) level) s) s t ∧ t = { s.fresh with sensors := t.sensors } ∧
        t.debouncer l = { accepted := !level, timing := some 20000 } ∧ t.sensors.events = s.sensors.events ∧
        t.conditioned (debouncedBit l) = level) ∧
      ((s.debouncer l).accepted = level → ∃ t,
        EventTo (exec (.sensorLevelChange (.debounced l) level) s) s t ∧ t = { s.fresh with sensors := t.sensors } ∧
        t.debouncer l = { accepted := level, timing := none } ∧ t.sensors.events = s.sensors.events) ∧
      ((s.debouncer l).accepted = !level → s.debounceEnabled l = false →
        exec (.sensorLevelChange (.debounced l) level) s = exec (.sensorChangeAccepted l level) s)) ∧
    ((s.debouncer l).timing = some 0 → (s.debouncer l).accepted = level → s.debounceEnabled l = true → ∃ t,
      exec (.sensorLevelChange (.debounced l) level) s = .next (react t) ∧
      t.debouncer l = { accepted := !level, timing := some 20000 } ∧
      t.sensors.events = s.sensors.events ||| eventBit l (!level) ∧ t.raised .sensor = true) := by
  have record : (levelSet (.debounced l) level s).debouncer l = s.debouncer l := debouncer_levelSet l
  have has : (levelSet (.debounced l) level s).conditioned (debouncedBit l) = level :=
    conditioned_levelSet (.debounced l) level s
  refine ⟨fun untimed => ⟨fun accepted enabled => ?_, fun accepted => ?_, debouncedChange_accepts old untimed⟩,
    fun timedOut _ enabled => debouncedChange_late old timedOut enabled⟩
  · refine debouncedChange_sets old rfl ?_
    rw [debouncedChanged_of_untimed (by rw [record]; exact untimed)]
    exact debouncedEdge_waits has (by rw [record]; exact accepted) enabled
  · have returns : debouncedChanged l (levelSet (.debounced l) level s) =
        setDebouncer l { accepted := level, timing := none } (levelSet (.debounced l) level s) := by
      rw [debouncedChanged_of_untimed (by rw [record]; exact untimed)]
      exact debouncedEdge_returns has (by rw [record]; exact accepted)
    obtain ⟨t, event, only, line, events, -⟩ := debouncedChange_sets old rfl returns
    exact ⟨t, event, only, line, events⟩

/-! ### Level changes of the other lines (R127, R130, R148, R181) -/

/-- A line that carries no event: its level changes, and nothing else. -/
theorem eventlessChange {s : State} {l : SensorLine} {level : Bool}
    (eventless : l = .printerBusy ∨ (∃ b, l = .turretPos b) ∨ ∃ b, l = .discCode b)
    (old : s.conditioned (sensorBit l) = !level) :
    ∃ t, EventTo (exec (.sensorLevelChange l level) s) s t ∧
      t = { s.fresh with sensors := { s.sensors with inputs := t.sensors.inputs } } ∧
      t.conditioned (sensorBit l) = level ∧ ∀ i, i ≠ sensorBit l → t.conditioned i = s.conditioned i := by
  have unheard : sensorChanged l (levelSet l level s) = levelSet l level s := by
    rcases eventless with rfl | ⟨b, rfl⟩ | ⟨b, rfl⟩ <;> rfl
  refine ⟨levelSet l level s, eventTo_of_settled ?_ (settled_sensorsOnly rfl), levelSet_only l level s,
    conditioned_levelSet l level s, fun i other => ?_⟩
  · rw [exec_sensorLevelChange old, unheard]
  · exact (conditioned_setConditioned _ _ _ _ (sensorBit_lt l)).trans (if_neg other)

/-- The lines of the turret set to the station and the code that they show. -/
theorem setTurretLines_self (s : State) : setTurretLines s.turretPosLines s.discCodeLines s = s := by
  have pos : s.turretPosLines.val.testBit 0 = s.conditioned 3 ∧ s.turretPosLines.val.testBit 1 = s.conditioned 4 := by
    simp only [State.turretPosLines]
    cases s.conditioned 3 <;> cases s.conditioned 4 <;> exact ⟨rfl, rfl⟩
  have code : ∀ i, i < 4 → s.discCodeLines.getLsbD i = s.conditioned (5 + i) := fun i hi => by
    simp [State.discCodeLines, State.conditioned, hi]
  rw [setTurretLines_eq, pos.1, pos.2, code 0 (by omega), code 1 (by omega), code 2 (by omega), code 3 (by omega)]
  simp only [setConditioned_conditioned, Nat.reduceAdd, Nat.reduceLT]

theorem turretReady_rises {s : State} (low : s.conditioned (sensorBit .turretReady) = false)
    (away : s.photo.turret.isStanding = false) :
    exec (.sensorLevelChange .turretReady true) s = exec (.turretArrival s.turretPosLines s.discCodeLines) s := by
  have arises : (!s.photo.turret.isStanding) = true := by rw [away]; rfl
  have lines : setTurretLines s.turretPosLines s.discCodeLines s.fresh = s.fresh := setTurretLines_self s.fresh
  rw [exec_sensorLevelChange low]
  show _ = eventReact (!s.photo.turret.isStanding) (turretArrival _ _) s
  rw [arises, eventReact_true, turretArrival, lines]
  simp only [sensorChanged, conditioned_levelSet, if_true]
  rfl

theorem lensReady_rises {s : State} {p : LensPos} (low : s.conditioned (sensorBit .lensReady) = false)
    (moving : s.photo.lens = .moving p) :
    ∃ t, exec .lensArrival s = .next t ∧ exec (.sensorLevelChange .lensReady true) s = .next (react t) := by
  have arises : s.photo.lens.isMoving = true := by rw [moving]; rfl
  refine ⟨lensRises (levelSet .lensReady true s), ?_, ?_⟩
  · simp only [exec, execLensArrival, arises, event_true, levelSet]
  · rw [exec_sensorLevelChange low]
    simp only [sensorChanged, conditioned_levelSet, if_true]

theorem turretReady_falls {s : State} (high : s.conditioned (sensorBit .turretReady) = true) :
    exec (.sensorLevelChange .turretReady false) s = .next (react (turretFalls (levelSet .turretReady false s))) := by
  rw [exec_sensorLevelChange high]
  simp only [sensorChanged, conditioned_levelSet, Bool.false_eq_true, if_false]

theorem lensReady_falls {s : State} (high : s.conditioned (sensorBit .lensReady) = true) :
    exec (.sensorLevelChange .lensReady false) s = .next (react (lensFalls (levelSet .lensReady false s))) := by
  rw [exec_sensorLevelChange high]
  simp only [sensorChanged, conditioned_levelSet, Bool.false_eq_true, if_false]

theorem cutterHome_changes {s : State} {level : Bool} (old : s.cutterHome = !level) :
    exec (.sensorLevelChange .cutterHome level) s =
      .next (react (if level then cutterRose (levelSet .cutterHome level s)
        else cutterFell (levelSet .cutterHome level s))) := by
  have now : (levelSet .cutterHome level s).cutterHome = level := conditioned_levelSet .cutterHome level s
  rw [exec_sensorLevelChange (l := .cutterHome) old]
  simp only [sensorChanged, now]

theorem exec_sensorEventStatusRead {s : State} (index : s.config.index = 0x16) :
    exec .sensorEventStatusRead s = .next { s.fresh with
      readData := s.sensors.events.setWidth 32, sensors := { s.sensors with events := 0 } } := by
  have arises : (s.cfgIndex == 0x16) = true := beq_iff_eq.mpr (congrArg BitVec.toNat index)
  simp only [exec, execSensorEventStatusRead, arises, event_true]
  rfl

end Sys2Proof.Machine
end

section
/-! PROOF. The writes of the inversion (O31, R180): the lines that one flips, in turn. -/

namespace Sys2Proof.Machine

/-! ### Lines in turn -/

/-- One member's turn in a run: what the steps before it keep of the start, its own step makes into what the steps after
it keep. -/
theorem foldl_turn {α : Type} {P Q : State → Prop} {f : State → α → State} {a : α}
    (before : ∀ b, b ≠ a → ∀ u, P u → P (f u b)) (turn : ∀ u, P u → Q (f u a))
    (after : ∀ b, b ≠ a → ∀ u, Q u → Q (f u b)) :
    ∀ {L : List α}, L.Nodup → a ∈ L → ∀ {s : State}, P s → Q (L.foldl f s)
  | b :: L, nodup, mem, s, init => by
    obtain ⟨notIn, nodup'⟩ := List.nodup_cons.mp nodup
    rw [List.foldl_cons]
    by_cases same : b = a
    · subst same
      exact foldl_keeps (fun c hc u hu => after c (fun e => notIn (e ▸ hc)) u hu) (turn s init)
    · have mem' : a ∈ L := (List.mem_cons.mp mem).resolve_left (Ne.symm same)
      exact foldl_turn before turn after nodup' mem' (before b same s init)

/-- The encoder lines of `x`, bit by bit, change their level in turn. -/
def runEncoders (x : BitVec 15) (s : State) : State :=
  (encoderLines.filter fun l => x.getLsbD (encoderBit l)).foldl (fun s l => encoderChanged l s) s

/-- The other lines of `x` change their level in turn. -/
def runSensors (x : BitVec 15) (s : State) : State :=
  (sensorLines.filter fun l => x.getLsbD (sensorBit l)).foldl (fun s l => sensorChanged l s) s

/-! ### The run of the debounced lines -/

section Sensors

variable {x : BitVec 15} {s : State}

theorem linesKept_runSensors (x : BitVec 15) (s : State) :
    LinesKept (fun d => x.getLsbD (debouncedBit d) = false) s (runSensors x s) := by
  refine foldl_keeps (P := LinesKept _ s) (fun l mem u hu => hu.trans ?_) (.refl s)
  have flips : x.getLsbD (sensorBit l) = true := (List.mem_filter.mp mem).2
  refine (linesKept_sensorChanged l u).mono fun d unflipped same => ?_
  rw [same] at flips
  exact Bool.false_ne_true (unflipped.symm.trans flips)

/-- The turn of a flipped debounced line. The steps before it leave its record and the levels, and `kept` is what the
steps after it keep. -/
theorem runSensors_turn {d : DebouncedLine} (flips : x.getLsbD (debouncedBit d) = true) {Q : State → Prop}
    (turn : ∀ u, u.levels = s.levels → u.debouncer d = s.debouncer d → Q (debouncedChanged d u))
    (kept : ∀ u t, LinesKept (· = d) u t → Q u → Q t) : Q (runSensors x s) := by
  have other (l : SensorLine) (ne : l ≠ .debounced d) (u : State) : LinesKept (· = d) u (sensorChanged l u) :=
    (linesKept_sensorChanged l u).mono fun e same => by rw [same]; exact ne
  refine foldl_turn (P := fun u => u.levels = s.levels ∧ u.debouncer d = s.debouncer d) (Q := Q) (a := .debounced d)
    (fun l ne u ⟨levels, record⟩ => ?_) (fun u ⟨levels, record⟩ => turn u levels record)
    (fun l ne u hu => kept u _ (other l ne u) hu) ?_ ?_ ⟨rfl, rfl⟩
  · have same := other l ne u
    exact ⟨same.levels.trans levels, (same.debouncers d rfl).trans record⟩
  · exact List.Nodup.filter _ (by decide)
  · exact List.mem_filter.mpr ⟨by cases d <;> decide, flips⟩

section Flipped

variable {d : DebouncedLine} {level : Bool} (flips : x.getLsbD (debouncedBit d) = true)
  (untimed : (s.debouncer d).timing ≠ some 0) (has : s.conditioned (debouncedBit d) = level)
include flips untimed has

omit has in
/-- The record of a line whose change is timed or cancelled. -/
theorem runSensors_sets {f : LineFilter}
    (sets : ∀ u, u.levels = s.levels → u.debouncer d = s.debouncer d → debouncedEdge d u = setDebouncer d f u) :
    (runSensors x s).debouncer d = f := by
  refine runSensors_turn flips (fun u levels record => ?_) fun u t kept hu => (kept.debouncers d rfl).trans hu
  rw [debouncedChanged_of_untimed (by rwa [record]), sets u levels record, debouncer_setDebouncer_self]

theorem runSensors_returns (same : (s.debouncer d).accepted = level) :
    (runSensors x s).debouncer d = { accepted := level, timing := none } :=
  runSensors_sets flips untimed fun u levels record =>
    debouncedEdge_returns ((conditioned_of_levels levels _).trans has) (by rwa [record])

theorem runSensors_waits (other : (s.debouncer d).accepted = !level) (enabled : s.debounceEnabled d = true) :
    (runSensors x s).debouncer d = { accepted := !level, timing := some 20000 } :=
  runSensors_sets flips untimed fun u levels record =>
    debouncedEdge_waits ((conditioned_of_levels levels _).trans has) (by rwa [record])
      ((debounceEnabled_of_levels levels d).trans enabled)

theorem runSensors_accepts (other : (s.debouncer d).accepted = !level) (disabled : s.debounceEnabled d = false) :
    (runSensors x s).debouncer d = { accepted := level, timing := none } ∧
      (runSensors x s).sensors.events &&& eventBit d level = eventBit d level ∧
      (runSensors x s).raised .sensor = true := by
  refine runSensors_turn flips (Q := fun u => u.debouncer d = { accepted := level, timing := none } ∧
    u.sensors.events &&& eventBit d level = eventBit d level ∧ u.raised .sensor = true)
    (fun u levels record => ?_) fun u t kept ⟨line, events, raised⟩ =>
      ⟨(kept.debouncers d rfl).trans line, kept.events _ events, kept.raised raised⟩
  rw [debouncedChanged_of_untimed (by rwa [record]),
    debouncedEdge_accepts ((conditioned_of_levels levels _).trans has) (by rwa [record])
      ((debounceEnabled_of_levels levels d).trans disabled)]
  exact ⟨debouncer_acceptDebounced .., noted_acceptDebounced .., raised_acceptDebounced ..⟩

end Flipped

end Sensors

/-! ### The run of the encoder lines -/

section Encoders

variable {x : BitVec 15} {s : State}

/-- A run of encoder lines touches no debounced line, and no encoder line that is not flipped. -/
structure EncodersRun (x : BitVec 15) (s t : State) : Prop where
  levels : t.levels = s.levels
  debouncers : ∀ d, t.debouncer d = s.debouncer d
  unflipped : ∀ l, x.getLsbD (encoderBit l) = false → t.encoder l = s.encoder l

theorem encodersRun_runEncoders (x : BitVec 15) (s : State) : EncodersRun x s (runEncoders x s) := by
  refine foldl_keeps (P := EncodersRun x s) (fun l mem u hu => ?_) ⟨rfl, fun _ => rfl, fun _ _ => rfl⟩
  have flips : x.getLsbD (encoderBit l) = true := (List.mem_filter.mp mem).2
  have only := encoderOnly_encoderChanged l u
  refine ⟨only.levels.trans hu.levels, fun d => (only.debouncers d).trans (hu.debouncers d), fun e unflipped => ?_⟩
  refine (only.others fun same => ?_).trans (hu.unflipped e unflipped)
  rw [same] at unflipped
  exact Bool.false_ne_true (unflipped.symm.trans flips)

section Flipped

variable {l : EncoderLine} {level : Bool} (flips : x.getLsbD (encoderBit l) = true)
  (untimed : (s.encoder l).timing ≠ some 0) (has : s.conditioned (encoderBit l) = level)
include flips untimed has

omit has in
/-- The record that the turn of a flipped encoder line leaves. -/
theorem runEncoders_sets {f : LineFilter}
    (sets : ∀ u, u.levels = s.levels → u.encoder l = s.encoder l → (encoderEdge l u).encoder l = f) :
    (runEncoders x s).encoder l = f := by
  refine foldl_turn (P := fun u => u.levels = s.levels ∧ u.encoder l = s.encoder l) (Q := fun u => u.encoder l = f)
    (a := l) (fun e ne u ⟨levels, record⟩ => ?_) (fun u ⟨levels, record⟩ => ?_) (fun e ne u hu => ?_) ?_ ?_ ⟨rfl, rfl⟩
  · have only := encoderOnly_encoderChanged e u
    exact ⟨only.levels.trans levels, (only.others (Ne.symm ne)).trans record⟩
  · rw [encoderChanged_of_untimed (by rwa [record]), sets u levels record]
  · exact ((encoderOnly_encoderChanged e u).others (Ne.symm ne)).trans hu
  · exact List.Nodup.filter _ (by decide)
  · exact List.mem_filter.mpr ⟨by cases l <;> decide, flips⟩

theorem runEncoders_returns (same : (s.encoder l).accepted = level) :
    (runEncoders x s).encoder l = { accepted := level, timing := none } :=
  runEncoders_sets flips untimed fun u levels record => by
    rw [encoderEdge_returns ((conditioned_of_levels levels _).trans has) (by rwa [record]), encoder_setEncoder]

theorem runEncoders_departs (other : (s.encoder l).accepted = !level) :
    (runEncoders x s).encoder l = if s.rejectionTime = 0 then { accepted := level, timing := none }
      else { accepted := !level, timing := some s.rejectionTime } := by
  refine runEncoders_sets flips untimed fun u levels record => ?_
  have has' := (conditioned_of_levels levels _).trans has
  have other' : (u.encoder l).accepted = !level := by rwa [record]
  rw [← rejectionTime_of_levels levels]
  split_ifs with rejects
  · rw [encoderEdge_accepts has' other' rejects, encoder_acceptEncoder]
  · rw [encoderEdge_waits has' other' rejects, encoder_setEncoder]

end Flipped

/-- With a rejection time and no change at the end of its time, no change of an encoder line is accepted. -/
theorem runEncoders_sensorsOnly (untimed : ∀ l, (s.encoder l).timing ≠ some 0) (rejects : s.rejectionTime ≠ 0) :
    runEncoders x s = { s with sensors := (runEncoders x s).sensors } := by
  suffices h : (∀ l, ((runEncoders x s).encoder l).timing ≠ some 0) ∧ (runEncoders x s).rejectionTime ≠ 0 ∧
      runEncoders x s = { s with sensors := (runEncoders x s).sensors } by
    obtain ⟨-, -, only⟩ := h
    exact only
  refine foldl_keeps (P := fun u => (∀ l, (u.encoder l).timing ≠ some 0) ∧ u.rejectionTime ≠ 0 ∧
    u = { s with sensors := u.sensors }) (fun l _ u ⟨untimed, rejects, only⟩ => ?_) ⟨untimed, rejects, rfl⟩
  obtain ⟨f, running, sets⟩ : ∃ f : LineFilter, f.timing ≠ some 0 ∧ encoderChanged l u = setEncoder l f u := by
    rw [encoderChanged_of_untimed (untimed l)]
    by_cases same : (u.encoder l).accepted = u.conditioned (encoderBit l)
    · exact ⟨_, by simp, encoderEdge_returns rfl same⟩
    · refine ⟨_, ?_, encoderEdge_waits rfl (Bool.eq_not.mpr same) rejects⟩
      exact fun zero => rejects (Option.some.inj zero)
  rw [sets]
  refine ⟨fun e => ?_, ?_, ?_⟩
  · rw [encoder_setEncoder_ite]
    split_ifs
    · exact running
    · exact untimed e
  · rwa [rejectionTime_of_levels (encoderOnly_setEncoder l f u).levels]
  · rw [setEncoder_only, only]

end Encoders

end Sys2Proof.Machine
end

section
/-! PROOF. What a write to 13H or 14H flips, and what comes of it (O31, R180). -/

namespace Sys2Proof.Machine

/-! ### The lines that a write flips -/

/-- The part at the start of a write's event, with a byte stored in an entry. -/
def stored (i : Fin 201) (b : Byte) (s : State) : State :=
  s.fresh.modConfig fun c => { c with entries := vset c.entries i b }

/-- The lines that a byte in 13H or 14H flips, by their bits. -/
def flips (i : Fin 201) (b : Byte) (s : State) : BitVec 15 :=
  (vget s.config.entries i ^^^ b).setWidth 15 <<< (if i.val = 0x13 then 0 else 8)

theorem entry_stored_ne {i k : Fin 201} (ne : i ≠ k) (b : Byte) (s : State) :
    (stored i b s).entry k.val = s.entry k.val := by
  rw [entry_eq_vget, entry_eq_vget]
  exact vget_vset_ne _ _ _ _ ne

theorem entry_stored_self (i : Fin 201) (b : Byte) (s : State) : (stored i b s).entry i.val = b := by
  rw [entry_eq_vget]
  exact vget_vset_self _ _ _

/-- 13H lies below 14H in the inversion bits. -/
theorem inversionBits_low (old new high : Byte) :
    new.setWidth 15 ||| high.setWidth 15 <<< 8 =
      (old.setWidth 15 ||| high.setWidth 15 <<< 8) ^^^ (old ^^^ new).setWidth 15 <<< 0 := by
  refine BitVec.eq_of_getLsbD_eq fun j small => ?_
  by_cases low : j < 8
  · simp [small, low]
  · simp [small, low, BitVec.getLsbD_of_ge _ j (Nat.le_of_not_lt low)]

theorem inversionBits_high (old new low : Byte) :
    low.setWidth 15 ||| new.setWidth 15 <<< 8 =
      (low.setWidth 15 ||| old.setWidth 15 <<< 8) ^^^ (old ^^^ new).setWidth 15 <<< 8 := by
  refine BitVec.eq_of_getLsbD_eq fun j small => ?_
  by_cases below : j < 8
  · simp [below]
  · simp [small, below, BitVec.getLsbD_of_ge low j (Nat.le_of_not_lt below)]

theorem inversion_stored {i : Fin 201} (entry : i.val = 0x13 ∨ i.val = 0x14) (b : Byte) (s : State) :
    (stored i b s).inversion = s.inversion ^^^ flips i b s := by
  rcases entry with at_ | at_
  · obtain rfl : i = 0x13 := Fin.ext at_
    have other : (stored 0x13 b s).entry 0x14 = s.entry 0x14 := entry_stored_ne (k := 0x14) (by decide) b s
    have self : (stored 0x13 b s).entry 0x13 = b := entry_stored_self 0x13 b s
    have old : s.entry 0x13 = vget s.config.entries 0x13 := entry_eq_vget 0x13 s
    rw [State.inversion, State.inversion, other, self, old, flips, if_pos at_]
    exact inversionBits_low ..
  · obtain rfl : i = 0x14 := Fin.ext at_
    have other : (stored 0x14 b s).entry 0x13 = s.entry 0x13 := entry_stored_ne (k := 0x13) (by decide) b s
    have self : (stored 0x14 b s).entry 0x14 = b := entry_stored_self 0x14 b s
    have old : s.entry 0x14 = vget s.config.entries 0x14 := entry_eq_vget 0x14 s
    rw [State.inversion, State.inversion, other, self, old, flips, if_neg (by decide)]
    exact inversionBits_high ..

theorem conditioned_stored {i : Fin 201} (entry : i.val = 0x13 ∨ i.val = 0x14) (b : Byte) (s : State) (bit : Nat) :
    (stored i b s).conditioned bit = (s.conditioned bit ^^ (flips i b s).getLsbD bit) := by
  have inputs : (stored i b s).sensors = s.sensors := rfl
  simp only [State.conditioned, inversion_stored entry, inputs, BitVec.getLsbD_xor, Bool.xor_assoc]

/-! ### The write -/

section Write

variable {s : State} {v : Byte} {i : Fin 201} (entry : i.val = 0x13 ∨ i.val = 0x14)
  (index : s.config.index = BitVec.ofNat 8 i.val)

/-- The state after the write, before the reactions. -/
def inversionWritten (i : Fin 201) (b : Byte) (s : State) : State :=
  runSensors (flips i b s) (runEncoders (flips i b s) (stored i b s))

include entry

include index in
theorem exec_inversionWrite :
    exec (.sensorInversionWrite v) s = .next (react (inversionWritten i (v &&& definedBits i.val) s)) := by
  have writes : acceptWrite v s.fresh = stored i (v &&& definedBits i.val) s := acceptWrite_eq (s := s.fresh) index v
  have changes : s.fresh.inversion ^^^ (acceptWrite v s.fresh).inversion = flips i (v &&& definedBits i.val) s := by
    rw [writes, inversion_stored entry, ← BitVec.xor_assoc]
    exact (congrArg (· ^^^ _) BitVec.xor_self).trans BitVec.zero_xor
  rw [exec_sensorInversionWrite entry index]
  unfold writeInversion
  dsimp only
  rw [changes, writes]
  rfl

include index in
/-- A byte that is stored already flips no line. -/
theorem inversionWrite_same (same : v &&& definedBits i.val = vget s.config.entries i) :
    EventTo (exec (.sensorInversionWrite v) s) s s.fresh := by
  have unchanged : stored i (vget s.config.entries i) s = s.fresh := by
    show s.fresh.modConfig (fun c => { c with entries := vset c.entries i (vget s.fresh.config.entries i) }) = _
    simp only [State.modConfig, vset_vget_self]
  have none_ : flips i (vget s.config.entries i) s = 0 := by
    rw [flips, BitVec.xor_self]
    split_ifs <;> decide
  have written : inversionWritten i (v &&& definedBits i.val) s = s.fresh := by
    rw [inversionWritten, same, none_, unchanged]
    simp only [runSensors, runEncoders, BitVec.ofNat_eq_ofNat, BitVec.getLsbD_zero, List.filter_false, List.foldl_nil]
  refine eventTo_of_settled ?_ (settled_fresh s)
  rw [exec_inversionWrite entry index, written]

omit entry in
theorem levels_inversionWritten (b : Byte) : (inversionWritten i b s).levels = (stored i b s).levels :=
  (linesKept_runSensors _ _).levels.trans (encodersRun_runEncoders _ _).levels

theorem conditioned_inversionWritten (b : Byte) (bit : Nat) :
    (inversionWritten i b s).conditioned bit = (s.conditioned bit ^^ (flips i b s).getLsbD bit) :=
  (conditioned_of_levels (levels_inversionWritten b) bit).trans (conditioned_stored entry b s bit)

/-- A flipped line has the other level. -/
theorem conditioned_flipped {b : Byte} {bit : Nat} (flipped : (flips i b s).getLsbD bit = true) :
    (stored i b s).conditioned bit = !s.conditioned bit := by
  rw [conditioned_stored entry, flipped, Bool.xor_true]

/-! ### The encoder lines -/

omit entry in
theorem encoder_inversionWritten (b : Byte) (l : EncoderLine) :
    (inversionWritten i b s).encoder l = (runEncoders (flips i b s) (stored i b s)).encoder l :=
  (linesKept_runSensors _ _).encoders l

omit entry in
theorem encoder_stored (b : Byte) (l : EncoderLine) : (stored i b s).encoder l = s.encoder l := by cases l <;> rfl

omit entry in
theorem encoder_unflipped {b : Byte} {l : EncoderLine} (unflipped : (flips i b s).getLsbD (encoderBit l) = false) :
    (inversionWritten i b s).encoder l = s.encoder l :=
  (encoder_inversionWritten b l).trans
    (((encodersRun_runEncoders _ _).unflipped l unflipped).trans (encoder_stored b l))

theorem rejectionTime_stored (b : Byte) : (stored i b s).rejectionTime = s.rejectionTime := by
  have kept : (stored i b s).entry 0x06 = s.entry 0x06 := by
    refine entry_stored_ne (k := 0x06) (fun e => ?_) b s
    subst e
    revert entry
    decide
  simp only [State.rejectionTime, State.setting, kept]

theorem encoder_flipped {b : Byte} {l : EncoderLine} (flipped : (flips i b s).getLsbD (encoderBit l) = true)
    (untimed : (s.encoder l).timing ≠ some 0) :
    ((s.encoder l).accepted = s.conditioned (encoderBit l) →
      (inversionWritten i b s).encoder l =
        if s.rejectionTime = 0 then { accepted := !s.conditioned (encoderBit l), timing := none }
        else { accepted := s.conditioned (encoderBit l), timing := some s.rejectionTime }) ∧
    ((s.encoder l).accepted = (!s.conditioned (encoderBit l)) →
      (inversionWritten i b s).encoder l = { accepted := !s.conditioned (encoderBit l), timing := none }) := by
  have has := conditioned_flipped entry flipped
  have untimed' : ((stored i b s).encoder l).timing ≠ some 0 := by rwa [encoder_stored]
  refine ⟨fun other => ?_, fun same => ?_⟩
  · have departs := runEncoders_departs flipped untimed' has (by rw [encoder_stored, Bool.not_not, other])
    rw [encoder_inversionWritten, departs, rejectionTime_stored entry, Bool.not_not]
  · rw [encoder_inversionWritten, runEncoders_returns flipped untimed' has (by rw [encoder_stored, same])]

/-! ### The debounced lines -/

omit entry in
theorem debouncer_stored (b : Byte) (d : DebouncedLine) : (stored i b s).debouncer d = s.debouncer d := by
  cases d <;> rfl

omit entry in
/-- The record of a debounced line at its turn. -/
theorem debouncer_beforeSensors (b : Byte) (d : DebouncedLine) :
    (runEncoders (flips i b s) (stored i b s)).debouncer d = s.debouncer d :=
  ((encodersRun_runEncoders _ _).debouncers d).trans (debouncer_stored b d)

omit entry in
theorem debouncer_unflipped {b : Byte} {d : DebouncedLine}
    (unflipped : (flips i b s).getLsbD (debouncedBit d) = false) :
    (inversionWritten i b s).debouncer d = s.debouncer d :=
  ((linesKept_runSensors _ _).debouncers d unflipped).trans (debouncer_beforeSensors b d)

theorem debounceEnabled_stored (b : Byte) (d : DebouncedLine) :
    (stored i b s).debounceEnabled d = s.debounceEnabled d := by
  have kept : (stored i b s).entry 0x15 = s.entry 0x15 := by
    refine entry_stored_ne (k := 0x15) (fun e => ?_) b s
    subst e
    revert entry
    decide
  simp only [State.debounceEnabled, kept]

theorem debouncer_flipped {b : Byte} {d : DebouncedLine} (flipped : (flips i b s).getLsbD (debouncedBit d) = true)
    (untimed : (s.debouncer d).timing ≠ some 0) :
    ((s.debouncer d).accepted = s.conditioned (debouncedBit d) →
      (s.debounceEnabled d = true →
        (inversionWritten i b s).debouncer d = { accepted := s.conditioned (debouncedBit d), timing := some 20000 }) ∧
      (s.debounceEnabled d = false →
        (inversionWritten i b s).debouncer d = { accepted := !s.conditioned (debouncedBit d), timing := none } ∧
        (inversionWritten i b s).sensors.events &&& eventBit d (!s.conditioned (debouncedBit d)) =
          eventBit d (!s.conditioned (debouncedBit d)) ∧
        (inversionWritten i b s).raised .sensor = true)) ∧
    ((s.debouncer d).accepted = (!s.conditioned (debouncedBit d)) →
      (inversionWritten i b s).debouncer d = { accepted := !s.conditioned (debouncedBit d), timing := none }) := by
  have levels := (encodersRun_runEncoders (flips i b s) (stored i b s)).levels
  have has := (conditioned_of_levels levels _).trans (conditioned_flipped entry flipped)
  have enabled := (debounceEnabled_of_levels levels d).trans (debounceEnabled_stored entry b d)
  have record := debouncer_beforeSensors (i := i) (s := s) b d
  have untimed' : ((runEncoders (flips i b s) (stored i b s)).debouncer d).timing ≠ some 0 := by rwa [record]
  refine ⟨fun other => ⟨fun on => ?_, fun off => ?_⟩, fun same => ?_⟩
  · have waits := runSensors_waits flipped untimed' has (by rw [record, Bool.not_not, other]) (enabled.trans on)
    rwa [Bool.not_not] at waits
  · exact runSensors_accepts flipped untimed' has (by rw [record, Bool.not_not, other]) (enabled.trans off)
  · exact runSensors_returns flipped untimed' has (by rw [record, same])

/-! ### One line, or encoder lines alone -/

omit entry in
/-- The bit of a sensor line names that line only. -/
theorem filter_sensorBit : ∀ l : SensorLine,
    (encoderLines.filter fun e => (1#15 <<< sensorBit l).getLsbD (encoderBit e)) = [] ∧
    (sensorLines.filter fun k => (1#15 <<< sensorBit l).getLsbD (sensorBit k)) = [l]
  | .turretReady | .lensReady | .cutterHome | .printerBusy => by decide
  | .turretPos b => by revert b; decide
  | .discCode b => by revert b; decide
  | .debounced d => by cases d <;> decide

omit entry in
theorem setConditioned_setConditioned {bit : Nat} (small : bit < 15) (old new : Bool) (s : State) :
    (s.setConditioned bit old).setConditioned bit new = s.setConditioned bit new := by
  have inputs (a b : Bool) (x : BitVec 15) : putBit bit b (putBit bit a x) = putBit bit b x := by
    refine BitVec.eq_of_getLsbD_eq fun j _ => ?_
    simp only [getLsbD_putBit _ _ _ _ small]
    split_ifs <;> rfl
  have inversion : (s.setConditioned bit old).inversion = s.inversion := rfl
  rw [State.setConditioned, inversion]
  simp only [State.setConditioned, State.modSensors, inputs]

omit entry in
/-- The level change by which a line has come to the level that it has. -/
theorem exec_sensorLevelChange_to {l : SensorLine} {old : Bool} {u : State} (fresh : u.fresh = u)
    (now : u.conditioned (sensorBit l) = !old) :
    exec (.sensorLevelChange l (!old)) (u.setConditioned (sensorBit l) old) = .next (react (sensorChanged l u)) := by
  have before : (u.setConditioned (sensorBit l) old).conditioned (sensorBit l) = !!old := by
    rw [conditioned_setConditioned _ _ _ _ (sensorBit_lt l), if_pos rfl, Bool.not_not]
  have still : (u.setConditioned (sensorBit l) old).fresh = u.setConditioned (sensorBit l) old :=
    congrArg (State.setConditioned (sensorBit l) old) fresh
  rw [exec_sensorLevelChange before, levelSet, still, setConditioned_setConditioned (sensorBit_lt l), ← now,
    setConditioned_conditioned (sensorBit_lt l)]

include index in
/-- A write that flips one sensor line is that line's level change. -/
theorem inversionWrite_single {l : SensorLine} (single : flips i (v &&& definedBits i.val) s = 1#15 <<< sensorBit l) :
    exec (.sensorInversionWrite v) s =
      exec (.sensorLevelChange l (!s.conditioned (sensorBit l)))
        ((stored i (v &&& definedBits i.val) s).setConditioned (sensorBit l) (s.conditioned (sensorBit l))) := by
  obtain ⟨noEncoder, oneLine⟩ := filter_sensorBit l
  have written : inversionWritten i (v &&& definedBits i.val) s =
      sensorChanged l (stored i (v &&& definedBits i.val) s) := by
    rw [inversionWritten, runSensors, runEncoders, single, noEncoder, oneLine]
    rfl
  have flipped : (flips i (v &&& definedBits i.val) s).getLsbD (sensorBit l) = true := by
    rw [single]
    simp [sensorBit_lt l]
  have now := conditioned_flipped entry flipped
  rw [exec_inversionWrite entry index, written]
  exact (exec_sensorLevelChange_to rfl now).symm

theorem inversionWrite_encodersOnly {b : Byte} (noSensor : ∀ l, (flips i b s).getLsbD (sensorBit l) = false)
    (untimed : ∀ l, (s.encoder l).timing ≠ some 0) (rejects : s.rejectionTime ≠ 0) :
    inversionWritten i b s = { stored i b s with sensors := (inversionWritten i b s).sensors } := by
  have still (u : State) : runSensors (flips i b s) u = u := by
    simp only [runSensors, noSensor, List.filter_false, List.foldl_nil]
  rw [inversionWritten, still]
  refine runEncoders_sensorsOnly (fun l => ?_) ?_
  · rw [encoder_stored]; exact untimed l
  · rwa [rejectionTime_stored entry]

end Write

end Sys2Proof.Machine
end

section
/-! PROOF. The writes of the debounce enables, and the sensor lines as a whole (O31, R180, R181). -/

namespace Sys2Proof.Machine

/-! ### A line whose debounce is disabled (R180) -/

/-- A byte written to 15H disables the debounce of a line whose change is being timed. -/
def cutsShort (v : Byte) (l : DebouncedLine) (s : State) : Prop :=
  v.getLsbD (debounceIndex l) = false ∧ (s.debouncer l).timing.isSome

section Disabled

variable {v : Byte} {l : DebouncedLine} {u : State}
  (enabled : u.debounceEnabled l = v.getLsbD (debounceIndex l))
include enabled

theorem acceptUndebounced_accepts (cut : cutsShort v l u) :
    acceptUndebounced l u = acceptDebounced l (u.conditioned (debouncedBit l)) u := by
  obtain ⟨disabled, timed⟩ := cut
  rw [acceptUndebounced, enabled, disabled, timed]
  rfl

theorem acceptUndebounced_stands (uncut : ¬ cutsShort v l u) : acceptUndebounced l u = u := by
  refine if_neg fun on => uncut ?_
  rw [Bool.and_eq_true, Bool.not_eq_true', enabled] at on
  exact on

end Disabled

theorem linesKept_acceptUndebounced (l : DebouncedLine) (s : State) : LinesKept (· ≠ l) s (acceptUndebounced l s) := by
  unfold acceptUndebounced
  split
  · exact linesKept_acceptDebounced ..
  · exact .refl s

theorem changeSeen_keeps (l : DebouncedLine) (level : Bool) (s : State) :
    (changeSeen l level s).exposure = s.exposure ∧ (changeSeen l level s).film = s.film ∧
    (changeSeen l level s).photo = s.photo := by
  rw [changeSeen, setDebouncer_only]
  exact ⟨rfl, rfl, rfl⟩

theorem paperRose_keeps_exposure (s : State) :
    (paperRose s).exposure = s.exposure ∧ (paperRose s).film = s.film ∧ (paperRose s).photo = s.photo := by
  unfold paperRose
  split <;> exact ⟨rfl, rfl, rfl⟩

/-- The acceptance of a true level reports nothing to Exposure Control, Film Transport and Photo Unit. -/
theorem acceptDebounced_true_keeps (l : DebouncedLine) (s : State) :
    (acceptDebounced l true s).exposure = s.exposure ∧ (acceptDebounced l true s).film = s.film ∧
    (acceptDebounced l true s).photo = s.photo := by
  have seen := changeSeen_keeps l true s
  rw [acceptDebounced_eq]
  cases l with
  | cassettePresent | lidClosed => exact seen
  | paperPresent =>
    obtain ⟨exposure, film, photo⟩ := paperRose_keeps_exposure (changeSeen .paperPresent true s)
    obtain ⟨exposure', film', photo'⟩ := seen
    exact ⟨exposure.trans exposure', film.trans film', photo.trans photo'⟩

/-! ### The write -/

theorem debouncedLines_mem (l : DebouncedLine) : l ∈ [DebouncedLine.cassettePresent, .lidClosed, .paperPresent] := by
  cases l <;> decide

section Write

variable {s : State} {v : Byte}

/-- The state after the write, before the reactions: the lines in ascending order of their bits (log 16). -/
def debounceWritten (v : Byte) (s : State) : State :=
  [DebouncedLine.cassettePresent, .lidClosed, .paperPresent].foldl (fun s l => acceptUndebounced l s)
    (stored 0x15 (v &&& 0x07) s)

theorem exec_debounceWrite (index : s.config.index = 0x15) :
    exec (.debounceEnableWrite v) s = .next (react (debounceWritten v s)) := by
  have writes : acceptWrite v s.fresh = stored 0x15 (v &&& 0x07) s := acceptWrite_eq (s := s.fresh) (i := 0x15) index v
  rw [exec_debounceEnableWrite index, writeDebounce, writes]
  rfl

/-- The byte written says which lines are debounced from then on. -/
theorem debounceEnabled_written {u : State} (levels : u.levels = (stored 0x15 (v &&& 0x07) s).levels)
    (l : DebouncedLine) : u.debounceEnabled l = v.getLsbD (debounceIndex l) := by
  have self : (stored 0x15 (v &&& 0x07) s).entry 0x15 = v &&& 0x07 := entry_stored_self 0x15 _ s
  rw [debounceEnabled_of_levels levels, State.debounceEnabled, self, BitVec.getLsbD_and]
  cases l <;> exact Bool.and_true _

/-- 15H inverts no line. -/
theorem conditioned_written {u : State} (levels : u.levels = (stored 0x15 (v &&& 0x07) s).levels) (bit : Nat) :
    u.conditioned bit = s.conditioned bit := by
  have low : (stored 0x15 (v &&& 0x07) s).entry 0x13 = s.entry 0x13 := entry_stored_ne (k := 0x13) (by decide) _ s
  have high : (stored 0x15 (v &&& 0x07) s).entry 0x14 = s.entry 0x14 := entry_stored_ne (k := 0x14) (by decide) _ s
  have inversion : (stored 0x15 (v &&& 0x07) s).inversion = s.inversion := by
    rw [State.inversion, low, high, State.inversion]
  rw [conditioned_of_levels levels, State.conditioned, inversion]
  rfl

theorem cutsShort_congr {l : DebouncedLine} {u : State} (record : u.debouncer l = s.debouncer l) :
    cutsShort v l u ↔ cutsShort v l s := by
  rw [cutsShort, record, cutsShort]

theorem linesKept_debounceWritten (v : Byte) (s : State) :
    LinesKept (fun _ => False) (stored 0x15 (v &&& 0x07) s) (debounceWritten v s) :=
  foldl_keeps (P := LinesKept _ _)
    (fun l _ u hu => hu.trans ((linesKept_acceptUndebounced l u).mono fun _ => False.elim)) (.refl _)

/-- With no change cut short the write stores its byte, and nothing follows. -/
theorem debounceWritten_idle (none_ : ∀ l, ¬ cutsShort v l s) :
    debounceWritten v s = stored 0x15 (v &&& 0x07) s := by
  refine foldl_keeps (P := fun u => u = stored 0x15 (v &&& 0x07) s) (fun l _ u hu => ?_) rfl
  subst hu
  exact acceptUndebounced_stands (debounceEnabled_written rfl l)
    fun cut => none_ l ((cutsShort_congr (debouncer_stored _ l)).mp cut)

/-- A line whose change is not cut short keeps its record. -/
theorem debouncer_uncut {l : DebouncedLine} (uncut : ¬ cutsShort v l s) :
    (debounceWritten v s).debouncer l = s.debouncer l := by
  suffices h : (debounceWritten v s).levels = (stored 0x15 (v &&& 0x07) s).levels ∧
      (debounceWritten v s).debouncer l = s.debouncer l by
    obtain ⟨-, record⟩ := h
    exact record
  refine foldl_keeps (P := fun u => u.levels = (stored 0x15 (v &&& 0x07) s).levels ∧ u.debouncer l = s.debouncer l)
    (fun d _ u ⟨levels, record⟩ => ?_) ⟨rfl, debouncer_stored _ l⟩
  have kept := linesKept_acceptUndebounced d u
  refine ⟨kept.levels.trans levels, ?_⟩
  by_cases same : l = d
  · subst same
    rw [acceptUndebounced_stands (debounceEnabled_written levels l) fun cut => uncut ((cutsShort_congr record).mp cut)]
    exact record
  · exact (kept.debouncers l same).trans record

/-- A change cut short is accepted. -/
theorem debouncer_cut {l : DebouncedLine} (cut : cutsShort v l s) :
    (debounceWritten v s).debouncer l = { accepted := s.conditioned (debouncedBit l), timing := none } ∧
    (debounceWritten v s).sensors.events &&& eventBit l (s.conditioned (debouncedBit l)) =
      eventBit l (s.conditioned (debouncedBit l)) ∧
    (debounceWritten v s).raised .sensor = true := by
  refine foldl_turn (a := l)
    (P := fun u => u.levels = (stored 0x15 (v &&& 0x07) s).levels ∧ u.debouncer l = s.debouncer l)
    (Q := fun u => u.debouncer l = { accepted := s.conditioned (debouncedBit l), timing := none } ∧
      u.sensors.events &&& eventBit l (s.conditioned (debouncedBit l)) = eventBit l (s.conditioned (debouncedBit l)) ∧
      u.raised .sensor = true)
    (fun d ne u ⟨levels, record⟩ => ?_) (fun u ⟨levels, record⟩ => ?_) (fun d ne u ⟨line, events, raised⟩ => ?_)
    (by decide) (debouncedLines_mem l) ⟨rfl, debouncer_stored _ l⟩
  · have kept := linesKept_acceptUndebounced d u
    exact ⟨kept.levels.trans levels, (kept.debouncers l (Ne.symm ne)).trans record⟩
  · rw [acceptUndebounced_accepts (debounceEnabled_written levels l) ((cutsShort_congr record).mpr cut),
      conditioned_written levels]
    exact ⟨debouncer_acceptDebounced .., noted_acceptDebounced .., raised_acceptDebounced ..⟩
  · have kept := linesKept_acceptUndebounced d u
    exact ⟨(kept.debouncers l (Ne.symm ne)).trans line, kept.events _ events, kept.raised raised⟩

/-- Where every level accepted is true, Exposure Control, the film and the Photo Unit hear nothing. -/
theorem debounceWritten_unheard (rises : ∀ l, cutsShort v l s → s.conditioned (debouncedBit l) = true) :
    (debounceWritten v s).exposure = s.exposure ∧ (debounceWritten v s).film = s.film ∧
    (debounceWritten v s).photo = s.photo := by
  suffices h : (debounceWritten v s).levels = (stored 0x15 (v &&& 0x07) s).levels ∧
      (∀ l, cutsShort v l (debounceWritten v s) → cutsShort v l s) ∧
      (debounceWritten v s).exposure = s.exposure ∧ (debounceWritten v s).film = s.film ∧
      (debounceWritten v s).photo = s.photo by
    obtain ⟨-, -, unheard⟩ := h
    exact unheard
  refine foldl_keeps (P := fun u => u.levels = (stored 0x15 (v &&& 0x07) s).levels ∧
      (∀ l, cutsShort v l u → cutsShort v l s) ∧ u.exposure = s.exposure ∧ u.film = s.film ∧ u.photo = s.photo)
    (fun d _ u ⟨levels, sub, exposure, film, photo⟩ => ?_)
    ⟨rfl, fun l => (cutsShort_congr (debouncer_stored _ l)).mp, rfl, rfl, rfl⟩
  by_cases cut : cutsShort v d u
  · have level := (conditioned_written levels _).trans (rises d (sub d cut))
    rw [acceptUndebounced_accepts (debounceEnabled_written levels d) cut, level]
    have kept := linesKept_acceptDebounced d true u
    obtain ⟨sameExposure, sameFilm, samePhoto⟩ := acceptDebounced_true_keeps d u
    refine ⟨kept.levels.trans levels, fun l cut' => ?_, sameExposure.trans exposure, sameFilm.trans film,
      samePhoto.trans photo⟩
    by_cases same : l = d
    · subst same
      exact sub l cut
    · exact sub l ((cutsShort_congr (kept.debouncers l same)).mp cut')
  · rw [acceptUndebounced_stands (debounceEnabled_written levels d) cut]
    exact ⟨levels, sub, exposure, film, photo⟩

/-- One change cut short is the acceptance of that change. -/
theorem debounceWritten_single {l : DebouncedLine} (only : ∀ k, cutsShort v k s ↔ k = l) :
    debounceWritten v s =
      acceptDebounced l (s.conditioned (debouncedBit l)) (stored 0x15 (v &&& 0x07) s) := by
  have uncut {d : DebouncedLine} (ne : d ≠ l) {u : State} (record : u.debouncer d = s.debouncer d)
      (levels : u.levels = (stored 0x15 (v &&& 0x07) s).levels) : acceptUndebounced d u = u :=
    acceptUndebounced_stands (debounceEnabled_written levels d)
      fun cut => ne ((only d).mp ((cutsShort_congr record).mp cut))
  refine foldl_turn (a := l) (P := fun u => u = stored 0x15 (v &&& 0x07) s)
    (Q := fun u => u = acceptDebounced l (s.conditioned (debouncedBit l)) (stored 0x15 (v &&& 0x07) s))
    (fun d ne u hu => ?_) (fun u hu => ?_) (fun d ne u hu => ?_) (by decide) (debouncedLines_mem l) rfl
  · rw [hu, uncut ne (debouncer_stored _ d) rfl]
  · have cut : cutsShort v l u := by
      rw [hu, cutsShort_congr (debouncer_stored _ l)]
      exact (only l).mpr rfl
    have levels : u.levels = (stored 0x15 (v &&& 0x07) s).levels := by rw [hu]
    rw [acceptUndebounced_accepts (debounceEnabled_written levels l) cut, conditioned_written levels, hu]
  · have kept := linesKept_acceptDebounced l (s.conditioned (debouncedBit l)) (stored 0x15 (v &&& 0x07) s)
    rw [hu, uncut ne ((kept.debouncers d ne).trans (debouncer_stored _ d)) kept.levels]

theorem debounceWrite_single (index : s.config.index = 0x15) {l : DebouncedLine} (only : ∀ k, cutsShort v k s ↔ k = l)
    (changing : (s.debouncer l).accepted = !s.conditioned (debouncedBit l)) :
    exec (.debounceEnableWrite v) s =
      exec (.sensorChangeAccepted l (s.conditioned (debouncedBit l))) (stored 0x15 (v &&& 0x07) s) := by
  have other : ((stored 0x15 (v &&& 0x07) s).debouncer l).accepted = !s.conditioned (debouncedBit l) := by
    rw [debouncer_stored]; exact changing
  have level := conditioned_written (u := stored 0x15 (v &&& 0x07) s) rfl (debouncedBit l)
  have fresh : (stored 0x15 (v &&& 0x07) s).fresh = stored 0x15 (v &&& 0x07) s := rfl
  have seen : changeNoted l (s.conditioned (debouncedBit l)) (stored 0x15 (v &&& 0x07) s) =
      changeSeen l (s.conditioned (debouncedBit l)) (stored 0x15 (v &&& 0x07) s) := by
    rw [changeNoted, fresh, ← level, setConditioned_conditioned (debouncedBit_lt l)]
    rfl
  rw [exec_debounceWrite index, debounceWritten_single only, acceptDebounced_eq, ← seen]
  exact (exec_acceptanceEvent other).symm

/-- The lines taken one after the other. -/
theorem debounceWritten_inOrder {one : DebouncedLine → State → State}
    (accepts : ∀ l u, cutsShort v l u → one l u = acceptDebounced l (u.conditioned (debouncedBit l)) u)
    (stands : ∀ l u, ¬ cutsShort v l u → one l u = u) :
    debounceWritten v s =
      one .paperPresent (one .lidClosed (one .cassettePresent (stored 0x15 (v &&& 0x07) s))) := by
  have same {l : DebouncedLine} {u : State} (levels : u.levels = (stored 0x15 (v &&& 0x07) s).levels) :
      acceptUndebounced l u = one l u := by
    by_cases cut : cutsShort v l u
    · rw [accepts l u cut, acceptUndebounced_accepts (debounceEnabled_written levels l) cut]
    · rw [stands l u cut, acceptUndebounced_stands (debounceEnabled_written levels l) cut]
  have first := (linesKept_acceptUndebounced .cassettePresent (stored 0x15 (v &&& 0x07) s)).levels
  have second := (linesKept_acceptUndebounced .lidClosed _).levels.trans first
  rw [← same rfl, ← same first, ← same second]
  rfl

end Write

/-! ### The statement -/

/-- Settles O31: the debounced lines by their edges, the other lines by what their events call, the writes by the lines
that they flip or whose change they cut short, in turn. -/
theorem sensorLevelsAreConditionedAndDebounced : Obligations.SensorLevelsAreConditionedAndDebounced := by
  refine ⟨fun s l level old => debouncedChange_clauses old,
    fun s l level eventless old => eventlessChange eventless old,
    fun s => ⟨fun high => ⟨_, rfl, turretReady_falls high⟩, turretReady_rises,
      fun high => ⟨_, rfl, lensReady_falls high⟩,
      fun p low moving => lensReady_rises low moving, fun high => ⟨_, rfl, cutterHome_changes (level := false) high⟩,
      fun low => cutterHome_changes (level := true) low, exec_sensorEventStatusRead⟩,
    fun s v i entry index => ?_, fun s v index => ?_⟩
  · have written := exec_inversionWrite (v := v) entry index
    have levels := levels_inversionWritten (s := s) (i := i) (v &&& definedBits i.val)
    refine ⟨inversionWrite_same entry index, written, ⟨_, written, config_of_levels levels, congrArg (·.1) levels,
      conditioned_inversionWritten entry _, fun l => encoder_unflipped, fun l => encoder_flipped entry,
      fun d => debouncer_unflipped, fun d => debouncer_flipped entry⟩, fun l => inversionWrite_single entry index,
      fun noSensor untimed rejects => ⟨_, written, inversionWrite_encodersOnly entry noSensor untimed rejects⟩⟩
  · have written := exec_debounceWrite (v := v) index
    have kept := linesKept_debounceWritten v s
    refine ⟨fun none_ => ?_, ⟨_, written, config_of_levels kept.levels, congrArg (·.1) kept.levels,
      kept.encoders .index, kept.encoders .slot, fun l => debouncer_cut, fun l => debouncer_uncut, debounceWritten_unheard⟩,
      fun l only changing => debounceWrite_single index only changing, ?_⟩
    · refine eventTo_of_settled (by rw [written, debounceWritten_idle none_]; rfl) ?_
      exact (settled_modConfig s.fresh _).trans (settled_fresh s)
    · intro one
      rw [written, debounceWritten_inOrder (one := one) (fun l u cut => if_pos cut) fun l u uncut => if_neg uncut]
      rfl

end Sys2Proof.Machine
end
